-- ==== Sys2Proof/Word.lean ====
section
/-!
DEFINITION. The word types of the Sceyn set: register words, uplink words, ticks and addresses
(00_scope R4, R5), and the order of ticks.
-/

namespace Sys2Proof

/-- A register word (R6, R321): 32 bits. -/
abbrev Word := BitVec 32

/-- A word of the uplink, of a frame or of a queue: 64 bits. -/
abbrev W64 := BitVec 64

/-- A tick number: the 48-bit count of edges of the 320 MHz reference (R14, R125). -/
abbrev Tick := BitVec 48

/-- One byte. -/
abbrev Byte := BitVec 8

end Sys2Proof
end

