-- ==== Sys2Proof/Syntax.lean ====
section
/-!
DEFINITION. The commands of the set: one constructor per row of spec/opcode_table.json, and the data they carry. `t` is the
tick of the chip that the command acts on; times within a tick are in fs (`fs`) or in 2.5 ps (`f`, `fine`, `code`).
-/

namespace Sys2Proof

/-- The access paths of the latches of R318: the I3C host and the supervisor core. -/
inductive Path where
  | host | core
deriving DecidableEq, Repr

/-- Why the Jilek was last reset (R378). -/
inductive JCause where
  | powerOn | brownOut | linkLoss | pin
deriving DecidableEq, Repr, Inhabited

/-- What carries a PTP message (R134): IEEE 802.3, UDP over IPv4, or UDP over IPv6. -/
inductive PtpTransport where
  | ethernet | ipv4 | ipv6
deriving DecidableEq, Repr

/-- A PTP message as it arrives (R134, R135): what carries it, and the fields the engine reads. `time` is the time stamp it carries, in ns; the
correction field is in 2^-16 ns; `unsupported` stands for a Pdelay, Signaling or Management message. -/
structure PtpMsg where
  transport : PtpTransport
  multicast : Bool
  unsupported : Bool
  clock : BitVec 64
  portNo : BitVec 16
  domain : BitVec 8
  version : BitVec 4
  minor : BitVec 4
  seq : BitVec 16
  twoStep : Bool
  time : Nat
  correction : Int
  interval : Int
deriving DecidableEq, Repr

/-- Voltages of the sixteen MON pins, in nV (R282, R286). -/
abbrev MonPins := Vector Int 16

/-- An edge at a TRIG_IN pin (R192, R193): in 2.5 ps before its tick edge; the furthest that the input has been on the other side
since the edge before, and where it goes, in µV. -/
structure TrigEdge where
  fine : Fin 1250
  peak : Int
  level : Int
deriving DecidableEq, Repr

/-- A power domain that has switched (R368), and whether the known-answer tests pass that the crypto domain runs as it comes
on (R362). -/
structure DomainSwitch where
  domain : Fin 80
  katOk : Bool := true
deriving DecidableEq, Repr

/-- What the excitation monitor senses (R284, R292): the largest current of the source over the last 10 µs, in nA, and how far
the pin it drives lies below VDD_ANA, in nV. -/
structure ExcSense where
  current : Nat
  room : Int
deriving DecidableEq, Repr

/-- A read of a line that is not clean (R247): the line address, and for each fetch the flipped bits of the 320-bit sequence
of address, data and check. -/
structure LineRead where
  line : Nat
  fetches : List (BitVec 320)
deriving DecidableEq, Repr

/-- A command of the set. Each constructor's comment names the rule of its row. -/
inductive Instr where
  /-- R49 -/
  | discriminatorCrossing (cell : Fin 2048) (t : Tick) (fs ta : Nat)
  /-- R49 -/
  | oscBStart (cell : Fin 2048) (t : Tick) (tb : Nat) (extra : Bool)
  /-- R51 -/
  | nvLatch (cell : Fin 2048) (t : Tick) (fs : Nat) (next : Bool)
  /-- R52 -/
  | vernierOverrun (cell : Fin 2048) (t : Tick) (fs : Nat)
  /-- R55 -/
  | trailingEdge (cell : Fin 2048) (t : Tick) (fs : Nat) (skip : Bool)
  /-- R36 -/
  | totSaturation (cell : Fin 2048) (t : Tick) (fs : Nat)
  /-- R57 -/
  | deadTimeEnd (cell : Fin 2048) (t : Tick) (fs : Nat)
  /-- R37 -/
  | stuckMask (cell : Fin 2048) (t : Tick)
  /-- R37 -/
  | stuckRelease (cell : Fin 2048) (t : Tick)
  /-- R31 -/
  | feOffSettleEnd (cell : Fin 2048) (t : Tick)
  /-- R33 -/
  | testPulseInjection (t : Tick)
  /-- R44 -/
  | fePileupClear
  /-- R37 -/
  | feStuckClear
  /-- R44 -/
  | feCellDataAccess (downlink : Fin 2) (calTable : Bool) (write : Option Word) (t : Tick)
  /-- R64 -/
  | vnOverrunClear
  /-- R110 -/
  | jilekCounterLoRead (downlink : Fin 2) (addr : BitVec 16)
  /-- R67 -/
  | tileTempSample (tile : Fin 32) (t : Tick) (reading : BitVec 12)
  /-- R66 -/
  | calIntervalDue (tile : Fin 32) (t : Tick)
  /-- R68 -/
  | calStartRun (downlink : Fin 2) (t : Tick) (tiles : BitVec 32)
  /-- R68 -/
  | calStartForce (downlink : Fin 2) (t : Tick) (tiles : BitVec 32)
  /-- R68 -/
  | calStartCancel (downlink : Fin 2) (t : Tick) (tiles : BitVec 32)
  /-- R68 -/
  | calStartHold (downlink : Fin 2) (t : Tick)
  /-- R68 -/
  | calStartRelease (downlink : Fin 2) (t : Tick)
  /-- R68 -/
  | calHoldExpiry (t : Tick)
  /-- R70 -/
  | calRunStart (tile : Fin 32) (t : Tick)
  /-- R71 -/
  | calTakeRings (tile : Fin 32) (t : Tick)
  /-- R72 -/
  | calElementSelection (tile : Fin 32) (t : Tick)
  /-- R71 -/
  | calReferenceSample (tile : Fin 32) (t : Tick) (reading : BitVec 12)
  /-- R74 -/
  | calRunComplete (tile : Fin 32) (t : Tick) (counts : List (Nat × Nat))
  /-- R75 -/
  | calRunResume (tile : Fin 32) (t : Tick)
  /-- R73 -/
  | calRunStartWordReceived (port : Fin 128) (payload : BitVec 48) (t : Tick)
  /-- R79 -/
  | calRunReportReceived (port : Fin 128) (payload : BitVec 48) (t : Tick)
  /-- R78 -/
  | calCellResultReceived (port : Fin 128) (payload : BitVec 48) (t : Tick)
  /-- R78 -/
  | calStagedMerge (port : Fin 128) (tile : Fin 32) (reads : List LineRead) (t : Tick)
  /-- R89 -/
  | recordEntry (cell : Fin 2048) (t : Tick)
  /-- R92 -/
  | refusalSpanClose (tile : Fin 32) (t : Tick)
  /-- R88 -/
  | governorRecompute (t : Tick) (tileCounts mergeCounts : List Nat)
  /-- R86 -/
  | mergeService (merge : Fin 2) (t : Tick) (flip0 flip1 : BitVec 65) (half : Bool)
  /-- R97 -/
  | uplinkWordSlot (framer : Fin 2) (t : Tick) (fs : Nat)
  /-- R98 -/
  | horizonDue (t : Tick)
  /-- R99 -/
  | frameHeaderDue (t : Tick)
  /-- R95 -/
  | flush (downlink : Fin 2) (t : Tick) (tiles : BitVec 32)
  /-- R95 -/
  | tpFlushWrite (tiles : BitVec 32)
  /-- R96 -/
  | resetTile (downlink : Fin 2) (t : Tick) (tiles : BitVec 32)
  /-- R85 -/
  | tpModeWrite (linkMap : Bool) (value : Word) (t : Tick)
  /-- R102 -/
  | tpCountClear
  /-- R107 -/
  | downlinkFrameSend (port : Fin 128) (t : Tick)
  /-- R108 -/
  | downlinkFrameReceived (downlink : Fin 2) (t : Tick) (frame : BitVec 128)
  /-- R109 -/
  | nop (t : Tick)
  /-- R115 -/
  | tickSync (downlink : Fin 2) (t t0 : Tick)
  /-- R109 -/
  | testPulse (downlink : Fin 2) (t named : Tick)
  /-- R118 -/
  | leaseClaim (downlink : Fin 2) (t : Tick) (id : BitVec 16)
  /-- R118 -/
  | leaseRenew (downlink : Fin 2) (t : Tick)
  /-- R118 -/
  | leaseRelease (downlink : Fin 2) (t : Tick)
  /-- R118 -/
  | leaseExpiry (t : Tick)
  /-- R116 -/
  | echo (downlink : Fin 2) (t : Tick) (tag : BitVec 8)
  /-- R110 -/
  | configWrite (downlink : Fin 2) (t : Tick) (tag : BitVec 8) (addr : BitVec 16) (data : Word)
  /-- R110 -/
  | configRead (downlink : Fin 2) (t : Tick) (tag : BitVec 8) (addr : BitVec 16)
  /-- R115 -/
  | lkPhaseWrite (downlink : Fin 2) (value : Word) (t : Tick)
  /-- R120 -/
  | lkCountClear
  /-- R119 -/
  | eyeScanStart (jilek : Bool) (index : Fin 128)
  /-- R119 -/
  | eyeScanDone (jilek : Bool) (index : Fin 128) (errors : Nat) (t : Tick)
  /-- R104 -/
  | uplinkBlockReceived (port : Fin 128) (header : BitVec 2) (word : W64) (t : Tick)
  /-- R150 -/
  | frameHeaderReceived (port : Fin 128) (base : BitVec 48) (t : Tick)
  /-- R150 -/
  | horizonReceived (port : Fin 128) (h : BitVec 48) (t : Tick)
  /-- R116 -/
  | echoReplyReceived (port : Fin 128) (payload : BitVec 48) (f : Nat) (t : Tick)
  /-- R330 -/
  | registerResponseReceived (port : Fin 128) (payload : BitVec 48) (t : Tick)
  /-- R106 -/
  | statusWordReceived (port : Fin 128) (code a : Byte) (arg : Word) (t : Tick)
  /-- R93 -/
  | deadTimeReportReceived (port : Fin 128) (payload : BitVec 48) (t : Tick)
  /-- R116 -/
  | delayMeasureStart (port : Fin 128)
  /-- R117 -/
  | delayMeasureEnd (port : Fin 128) (t : Tick)
  /-- R121 -/
  | qdCountClear (port : Fin 128)
  /-- R122 -/
  | tickPllLock (t : Tick) (slew : Nat)
  /-- R123 -/
  | refclkLoss (t : Tick)
  /-- R123 -/
  | refclkReturn (t : Tick) (slew : Nat)
  /-- R124 -/
  | tickLoad
  /-- R124 -/
  | tickPresetApply (t : Tick)
  /-- R128 -/
  | todUpdateTick (t : Tick)
  /-- R129 -/
  | todSet
  /-- R143 -/
  | snap
  /-- R143 -/
  | snapshotLatch
  /-- R132 -/
  | ppsInEdge (t : Tick) (code : Fin 1250)
  /-- R138 -/
  | holdoverTimeout (t : Tick)
  /-- R138 -/
  | tmSrcWrite (src : BitVec 2)
  /-- R142 -/
  | tmIncrBaseWrite (base : BitVec 40)
  /-- R133 -/
  | ppsOutRise (t : Tick)
  /-- R133 -/
  | ppsOutFall (t : Tick)
  /-- R135 -/
  | ptpSyncReceived (m : PtpMsg) (t : Tick) (code : Fin 1250)
  /-- R135 -/
  | ptpFollowUpReceived (m : PtpMsg) (t : Tick)
  /-- R135 -/
  | ptpDelayReqSend (t : Tick) (code : Fin 1250)
  /-- R136 -/
  | ptpDelayRespReceived (m : PtpMsg) (toUs : Bool) (t : Tick)
  /-- R137 -/
  | ptpAnnounceReceived (m : PtpMsg) (utcValid leap61 leap59 : Bool) (offset : BitVec 16) (t : Tick)
  /-- R137 -/
  | masterChange (clock : BitVec 64) (portNo : BitVec 16)
  /-- R144 -/
  | ptpCountClear
  /-- R146 -/
  | sortStart
  /-- R147 -/
  | sortStop
  /-- R156 -/
  | sliceStart (t : Tick)
  /-- R153 -/
  | inputQueueItem (port : Fin 128) (flip : BitVec 65) (reads : List LineRead) (t : Tick)
  /-- R158 -/
  | regionCloseByMargin (t : Tick)
  /-- R151 -/
  | portRefusalSpanClose (port : Fin 128) (t : Tick)
  /-- R161 -/
  | lateDropSpanClose (port : Fin 128) (t : Tick)
  /-- R166 -/
  | ctxCountClear
  /-- R166 -/
  | ctxCountWalkEnd (t : Tick)
  /-- R169 -/
  | sortCountClear
  /-- R251 -/
  | qdQueueFlush (port : Fin 128)
  /-- R182 -/
  | frameBegin (left : Nat) (reads : List LineRead) (t : Tick)
  /-- R156 -/
  | frameComplete (lane : Fin 16) (t : Tick)
  /-- R184 -/
  | expressUnitSend (lane : Fin 16) (t : Tick)
  /-- R186 -/
  | xoffAssert (lane : Fin 16) (t : Tick)
  /-- R186 -/
  | xoffRelease (lane : Fin 16) (t : Tick)
  /-- R187 -/
  | breachBegin (lane : Fin 16) (t : Tick)
  /-- R187 -/
  | breachEnd (lane : Fin 16) (t : Tick)
  /-- R171 -/
  | laneStartupDone (lane : Fin 16) (t : Tick)
  /-- R188 -/
  | outEk4Write (ek4 : Bool)
  /-- R191 -/
  | outCountClear
  /-- R193 -/
  | trigInCrossing (source : Fin 4) (t : Tick) (edge : TrigEdge)
  /-- R193 -/
  | softTrigger
  /-- R195 -/
  | protectedWindowClose (t : Tick)
  /-- R196 -/
  | annotationIssue (seq : BitVec 16) (t : Tick)
  /-- R69 -/
  | calHoldRepeat (t : Tick)
  /-- R211 -/
  | trgCountClear
  /-- R211 -/
  | rateCountClear
  /-- R217 -/
  | isRunSet (unit : Fin 4) (value : Word)
  /-- R219 -/
  | isRunClear (unit : Fin 4) (value : Word)
  /-- R219 -/
  | isPost (unit : Fin 4) (value : Word)
  /-- R215 -/
  | isEdge (kind : BitVec 4) (index : Byte) (falling : Bool) (t : Tick) (f : Nat) (take : Bool)
  /-- R216 -/
  | isSampleTimeout (unit : Fin 4) (t : Tick)
  /-- R220 -/
  | isGateClose (unit : Fin 4) (t : Tick) (f : Nat)
  /-- R217 -/
  | gateInEdge (level : Bool) (t : Tick) (f : Nat)
  /-- R223 -/
  | isCountClear
  /-- R226 -/
  | tarnTrain
  /-- R226 -/
  | tarnTrainingComplete (fail : BitVec 8) (t : Tick)
  /-- R226 -/
  | tarnPeriodicRetrain (channel : Fin 8) (ok : Bool) (t : Tick)
  /-- R229 -/
  | tarnLineWrite (pos : Nat) (bad checkBad : Fin 6) (t : Tick)
  /-- R231 -/
  | tarnWriteTimeout (pos : Nat) (t : Tick)
  /-- R233 -/
  | tarnMarkPlaceSlice (index : Fin 64) (slice : BitVec 48)
  /-- R233 -/
  | tarnMarkPlaceTod (index : Fin 64) (sec : BitVec 64) (ns : BitVec 30)
  /-- R235 -/
  | tarnMarkPin (index : Fin 64) (len : BitVec 20)
  /-- R235 -/
  | tarnMarkUnpin (index : Fin 64)
  /-- R235 -/
  | tarnMarkFree (index : Fin 64)
  /-- R244 -/
  | tarnCountClear
  /-- R237 -/
  | replayAccept (t : Tick)
  /-- R243 -/
  | replayAbort (t : Tick)
  /-- R239 -/
  | replayStart (lane : Fin 16) (t : Tick)
  /-- R240 -/
  | replayEntryRead (lane : Fin 16) (t : Tick) (passed : Option Nat) (reads : List LineRead)
  /-- R255 -/
  | mereScrubPass (t : Tick) (reads : List LineRead)
  /-- R255 -/
  | tarnScrubPass (t : Tick) (reads : List LineRead)
  /-- R254 -/
  | bucketLeak (t : Tick)
  /-- R259 -/
  | mereBktClear
  /-- R260 -/
  | mereCountClear
  /-- R265 -/
  | podEnable
  /-- R266 -/
  | podDisable
  /-- R262 -/
  | xlinkFrameSend (t : Tick)
  /-- R263 -/
  | xlinkFrameReceived (frame : BitVec 128) (arrival : BitVec 48) (t : Tick)
  /-- R264 -/
  | heartbeatMiss (t : Tick)
  /-- R269 -/
  | takeoverActivate (t : Tick)
  /-- R268 -/
  | claimWindowEnd (t : Tick)
  /-- R268 -/
  | podLeaseRenewTimer (t : Tick)
  /-- R268 -/
  | podClaimTimer (t : Tick)
  /-- R270 -/
  | podYield
  /-- R270 -/
  | yieldRelease (t : Tick)
  /-- R272 -/
  | healthCompute (t : Tick)
  /-- R274 -/
  | reversionRequest (t : Tick)
  /-- R275 -/
  | podFence
  /-- R275 -/
  | podFenceRelease
  /-- R275 -/
  | podFenceInAssert (t : Tick)
  /-- R266 -/
  | podFenceInRelease (t : Tick)
  /-- R266 -/
  | podRejoin
  /-- R276 -/
  | standbySelftest (test : Fin 4) (ok : Bool) (reads : List LineRead) (t : Tick)
  /-- R272 -/
  | wdogKick
  /-- R272 -/
  | wdogExpiry (t : Tick)
  /-- R280 -/
  | podCountClear
  /-- R289 -/
  | monConverterGo (converter : Fin 4)
  /-- R289 -/
  | monCommonGo
  /-- R289 -/
  | monTimerStart (converter : Fin 4) (t : Tick)
  /-- R285 -/
  | monPwmEdge (t : Tick)
  /-- R289 -/
  | monPwmDelayStart (converter : Fin 4) (t : Tick)
  /-- R288 -/
  | monStartupDelayEnd (converter : Fin 4) (t : Tick)
  /-- R287 -/
  | monConversionSettled (converter : Fin 4) (pins : MonPins) (err : Int) (t : Tick)
  /-- R291 -/
  | monSettleTimeout (converter : Fin 4) (pins : MonPins) (err : Int) (t : Tick)
  /-- R291 -/
  | monForce (converter : Fin 4) (pins : MonPins) (err : Int)
  /-- R291 -/
  | monSlotWrite (slot : Fin 16) (conv : Bool) (value : Word)
  /-- R292 -/
  | monExcitationFault (converter : Fin 4) (sense : ExcSense) (t : Tick)
  /-- R294 -/
  | monDisableAbort (slot : Option (Fin 16))
  /-- R296 -/
  | monCountClear
  /-- R300 -/
  | guardConvOutput (converter : Fin 4) (pins : MonPins) (err : Int) (t : Tick)
  /-- R300 -/
  | guardConvRestart (converter : Fin 4) (t : Tick)
  /-- R301 -/
  | guardRuleEval (flash : Bool) (t : Tick)
  /-- R302 -/
  | guardPOkWrite (flash : Bool) (t : Tick)
  /-- R302 -/
  | guardPStale (flash : Bool) (t : Tick)
  /-- R298 -/
  | guardInSample (uv : Vector Int 4) (flash : Bool) (t : Tick)
  /-- R299 -/
  | ilkInOpen (flash : Bool) (t : Tick)
  /-- R299 -/
  | ilkInClose (t : Tick)
  /-- R303 -/
  | guardReadbackSample (levels : BitVec 4) (flash : Bool) (t : Tick)
  /-- R305 -/
  | guardArm (mask : BitVec 4) (flash : Bool)
  /-- R306 -/
  | guardOff (mask : BitVec 4) (flash : Bool)
  /-- R307 -/
  | guardPwDataWrite (value : Word)
  /-- R307 -/
  | guardUnlock (flash : Bool)
  /-- R307 -/
  | guardLock (flash : Bool)
  /-- R307 -/
  | guardSetPw (flash : Bool)
  /-- R307 -/
  | guardSessionTimeout (flash : Bool) (t : Tick)
  /-- R308 -/
  | guardLockoutEnd (t : Tick)
  /-- R310 -/
  | guardLockedWrite (addr : BitVec 16) (value : Word) (flash : Bool)
  /-- R315 -/
  | entdaa (addr : BitVec 7) (won : Bool)
  /-- R315 -/
  | setdasa (stat addr : BitVec 7)
  /-- R315 -/
  | setnewda (addr : BitVec 7)
  /-- R315 -/
  | rstdaa
  /-- R315 -/
  | enec (direct : Bool) (events : Byte)
  /-- R315 -/
  | disec (direct : Bool) (events : Byte)
  /-- R314 -/
  | getpid
  /-- R314 -/
  | getbcr
  /-- R314 -/
  | getdcr
  /-- R315 -/
  | getstatus
  /-- R315 -/
  | getmxds
  /-- R315 -/
  | setmwl (direct : Bool) (length : BitVec 16)
  /-- R315 -/
  | setmrl (direct : Bool) (length : BitVec 16) (payload : Option Byte)
  /-- R315 -/
  | getmwl
  /-- R315 -/
  | getmrl
  /-- R315 -/
  | rstactNone (direct : Bool)
  /-- R315 -/
  | rstactTargetReset (direct : Bool)
  /-- R371 -/
  | rstactWarmReset
  /-- R317 -/
  | enthdr0
  /-- R315 -/
  | cccUnsupported (direct : Bool)
  /-- R316 -/
  | i3cRegisterWrite (bytes : List Byte) (flash : Bool) (reads : List LineRead)
  /-- R316 -/
  | i3cSetPointer (addr : BitVec 24)
  /-- R316 -/
  | i3cRegisterRead (n : Nat) (reads : List LineRead)
  /-- R317 -/
  | hdrDdrWrite (words : List (BitVec 16)) (flash : Bool) (reads : List LineRead)
  /-- R317 -/
  | hdrDdrRead (n : Nat) (reads : List LineRead)
  /-- R6 -/
  | registerWrite (addr : BitVec 24) (value : Word) (flash : Bool)
  /-- R318 -/
  | wideLoRead (path : Path) (addr : BitVec 24)
  /-- R318 -/
  | wideHiWrite (addr : BitVec 24) (value : Word) (flash : Bool)
  /-- R322 -/
  | evtClrWrite (page : BitVec 12) (value : Word)
  /-- R322 -/
  | evtEnWrite (page : BitVec 12) (value : Word)
  /-- R323 -/
  | ibiRequest (nack : Bool)
  /-- R326 -/
  | pqPop (queue : Fin 8)
  /-- R326 -/
  | pqPush (queue : Fin 8)
  /-- R326 -/
  | pqClear (queue : Fin 8)
  /-- R328 -/
  | twIndexWrite (window : Fin 6) (value : Word) (reads : List LineRead)
  /-- R328 -/
  | twData0Read (window : Fin 6) (reads : List LineRead)
  /-- R328 -/
  | twData0Write (window : Fin 6) (value : Word)
  /-- R330 -/
  | rmtReqWrite (value : Word)
  /-- R330 -/
  | remoteRequestIssue (port : Fin 128) (t : Tick)
  /-- R330 -/
  | remoteRequestTimeout (seq : BitVec 16) (t : Tick)
  /-- R332 -/
  | rmtFcGo (value : Word)
  /-- R333 -/
  | rmtCountClear
  /-- R324 -/
  | glbCountClear
  /-- R336 -/
  | cmtGo
  /-- R336 -/
  | cmtDiscard
  /-- R346 -/
  | cmtCountClear
  /-- R338 -/
  | commit (downlink : Fin 2) (t : Tick) (epoch : BitVec 4) (target : Tick)
  /-- R338 -/
  | jilekSwitch (t : Tick)
  /-- R337 -/
  | commitTargetReached (t : Tick)
  /-- R337 -/
  | commitResend (t : Tick)
  /-- R340 -/
  | contextMergeEnd (reads : List LineRead) (t : Tick)
  /-- R343 -/
  | commitComplete (t : Tick)
  /-- R357 -/
  | getStatus (t : Tick)
  /-- R359 -/
  | quoteStart (t : Tick)
  /-- R359 -/
  | quoteReady (restarted : Bool) (t : Tick)
  /-- R357 -/
  | quoteRead (t : Tick)
  /-- R357 -/
  | certRead (t : Tick)
  /-- R357 -/
  | updateBegin (t : Tick)
  /-- R357 -/
  | updateData (t : Tick)
  /-- R354 -/
  | updateEnd (t : Tick)
  /-- R357 -/
  | setTrial (t : Tick)
  /-- R357 -/
  | confirm (t : Tick)
  /-- R357 -/
  | advance (t : Tick)
  /-- R357 -/
  | tokenData (t : Tick)
  /-- R361 -/
  | guardReset (flash : Bool) (t : Tick)
  /-- R357 -/
  | decommission (t : Tick)
  /-- R356 -/
  | secRecover
  /-- R355 -/
  | bootSequence (katOk : Bool) (ms : BitVec 12) (flash : Bool) (t : Tick)
  /-- R370 -/
  | bolovPowerOnReset (cause : Fin 3) (bringup : BitVec 2) (addrSel : BitVec 3) (pref : Bool)
  /-- R370 -/
  | jilekPowerOnReset (cause : JCause)
  /-- R370 -/
  | jilekLinkLossReset (t : Tick)
  /-- R368 -/
  | pwrDomWrite (k : Fin 3) (value : Word)
  /-- R368 -/
  | pwrDomainSwitched (switch : DomainSwitch) (t : Tick)
  /-- R369 -/
  | jpwTileOnWrite (tiles : Word) (t : Tick)
  /-- R369 -/
  | jpwLinkOnWrite (value : Word) (t : Tick)
  /-- R366 -/
  | vcoreLowChange (mv : BitVec 12) (t : Tick)
  /-- R372 -/
  | bringupReady (t : Tick)
  /-- R367 -/
  | jilekResetRelease (t : Tick)
  /-- R377 -/
  | junctionAbove105 (tj : BitVec 12) (t : Tick)
  /-- R357 -/
  | unknownHostCmd (t : Tick)
deriving DecidableEq, Repr

end Sys2Proof
end

