-- ==== Sys2Proof/Decode.lean ====
section
/-!
DEFINITION. The commands that the bits of the opcode table spell. No row of the table gives bits, so no word spells a command.
-/

namespace Sys2Proof

/-- The command that a word of the table spells: none, since no row gives bits. -/
def decodeTableWord (_nbits _w : Nat) : Option Instr := none

end Sys2Proof
end

