-- ==== Sys2Proof/Config.lean ====
section
/-!
DEFINITION. The free values of the model: what the spec leaves to the silicon, to its surroundings or to an algorithm
it only names. None has a body, so nothing can be proved about its value.
-/

namespace Sys2Proof.Config

/-- The count of a ring of a cell over `window` ticks during element selection (R72): by draw, cell, ring B or A,
selection mask, window, pass and trial. -/
opaque ringCount (draw cell : Nat) (ringB : Bool) (mask : BitVec 14) (window pass trial : Nat) : Nat

/-- The period in ps that R72 computes for a ring that gave no count in a trial: the spec states no result there. -/
opaque stoppedRing (draw cell pass trial : Nat) : Rat

/-- Q_off of a cell (R28, R29) in 10^-4 fC; the effective threshold while it settles (R30); the charge that an injection puts
into a cell (R34), the delay from the injection edge to the crossing in fs, and the period of oscillator A of the conversion
it starts, in fs. The spec bounds the first three and leaves the values to the silicon. By cell and tick edge. -/
opaque untrimmedOffset (cell up : Nat) : Int
opaque settlingThreshold (cell up : Nat) : Int
opaque injectedCharge (cell up : Nat) : Int
opaque injectionDelay (cell up : Nat) : Nat
opaque injectionPeriod (cell up : Nat) : Nat

/-- How far the tick edges move when the source changes, in codes of 2.5 ps (R114): the recovered edges of the two downlinks
lie as their cables make them. By old and new source and tick edge. -/
opaque sourceStep (old new up : Nat) : Int

/-- Where the recovered edges of a downlink that is not the tick source lie against the tick edges, in fs (R116). By
downlink and tick edge. -/
opaque recoveredEdge (downlink up : Nat) : Int

/-- The rounding of an echo lag that is no whole number of 2.5 ps (R116): up or down. By the lag in fs. -/
opaque lagRoundsUp (fs : Nat) : Bool

/-- The bit of the counter_sat event of the timing-port page (R318, R144): no rule numbers it. -/
opaque ptpSatEvent : Fin 32

/-- Where within ±30 ps of its instant PPS_OUT rises (R133), in delay-line steps of 2.5 ps. By tick edge. -/
opaque ppsPlacement (up : Nat) : Int

/-- Idle blocks inside a frame on a lane (R173), by the moment of its first block and now; and the 58 bits of a lane's scrambler
(R171), whose value at the enable no rule states. By lane and tick edge. -/
opaque laneIdle (since up : Nat) : Nat
opaque laneScrambler (lane up : Nat) : BitVec 58

/-- How far a trigger comparator lies from its set threshold and hysteresis (R192), in µV: the spec bounds both. By source and
tick edge. -/
opaque trigThreshold (source up : Nat) : Int
opaque trigHysteresis (source up : Nat) : Int

/-- What a tick frame of a Pod carries as arrival offset before one is recorded, and whether an active partner holds its standby
partner for silent (R265, R273): no field of a frame says either. By tick edge. -/
opaque podNoArrival (up : Nat) : BitVec 28
opaque podPartnerSilent (up : Nat) : Bool

/-- How long a mark command takes (R244), in ticks: the spec states none. By tick edge. -/
opaque markTime (up : Nat) : Nat

/-- The tag of a CONFIG that the Bolov sends of its own accord: the spec states none. By tick edge. -/
opaque ownTag (up : Nat) : BitVec 8

/-- Context entries that a merge has written after `ticks` ticks beyond the least rate of R340, by the moment it began:
the spec bounds the rate from below only. -/
opaque mergeExtra (start ticks : Nat) : Nat

/-- The event field of the Pod event of a change of state for which R277 lists no code: by new and old state. -/
opaque podEventCode (new old : Nat) : BitVec 4

/-- The code of a conversion whose reference is 0 V, where the formula of R286 has no value: by input in nV and gain. -/
opaque zeroReference (diff : Int) (gain : Nat) : Int

/-- The voltages of the MON pins in nV at a converter's filter output when a transfer of several registers forces a
conversion: by converter and tick edge. -/
opaque filterPins (n up : Nat) : MonPins

/-- How far the code of such a conversion departs from the formula of R286: by converter and tick edge. -/
opaque filterError (n up : Nat) : Int

/-- Whether the dew-point condition of R301 holds where its formula divides by zero, at an air temperature of −243.12 °C: by
relative humidity, surface temperature and limit. -/
opaque dewPole (hum tc lo : Rat) : Bool

/-- The salted digest of a Guard password (R307): by the number of its salt. The spec states no salt. -/
opaque passwordDigest (salt : Nat) (password : List Nat) : Nat

/-- What the entropy source gives, by draw (R357). -/
opaque entropy (draw : Nat) : BitVec 256

/-- RSASSA-PSS and SLH-DSA (R353, R358): verification by public key, message and signature; the vendor's signatures on a
token, by the hash of the vendor key; signing by private key. The spec names the algorithms and does not state them. -/
opaque rsaVerify (modulus message signature : List Nat) : Bool
opaque slhVerify (key message signature : List Nat) : Bool
opaque vendorRsaVerify (keyHash : BitVec 256) (message signature : List Nat) : Bool
opaque vendorSlhVerify (keyHash : BitVec 256) (message signature : List Nat) : Bool
opaque rsaSign (key : BitVec 3072) (message : List Nat) : BitVec 3072
opaque slhSign (key : BitVec 768) (message : List Nat) : BitVec 62848

/-- Parts of a HOST_RSP record that R357 does not state: the status of a command without its object, the result and the
data bytes of a command that returns none. By command code. -/
opaque openStatus (code : Nat) : BitVec 8
opaque openResult (code : Nat) : BitVec 32
opaque openData (code i : Nat) : BitVec 8

/-- What a register of a slice number reads while no slice is in flight, after the engine has run: by tick edge. -/
opaque noSlice (up : Nat) : BitVec 48

end Sys2Proof.Config
end

