-- ==== Sys2Proof/Machine/JilekState.lean ====
section
/-!
DEFINITION. The state of the Jilek (02 to 06, 18 R338 and R347, 19 R364, 20 R369, R370 and R378): cells, tiles,
merges, framers, links, tick, lease, commit and register pages. Plain data: a collection that is large and mostly at
its reset value is a sparse map, a list of key and value pairs in rising key order that lists no value equal to the
default (`Sys2Proof.Machine.fget` and `fset`).
-/

namespace Sys2Proof.Machine

/-- A sparse map from numbers, in canonical form (keys strictly rising, no default value listed). -/
abbrev FMap (α : Type) := List (Nat × α)

/-- A counter of the set: its value, at most 2^48 − 1, and its sticky sat bit (R45, R64, R102). -/
structure Ctr where
  val : Nat := 0
  sat : Bool := false
deriving DecidableEq, Repr, Inhabited

/-- A conversion in progress in a cell (R49). Instants are in femtoseconds since reset. -/
structure Conv where
  /-- the instant of the crossing, the start edge of oscillator A -/
  crossAt : Nat
  /-- the period of oscillator A of this conversion, in femtoseconds -/
  ta : Nat
  /-- the period of oscillator B, once it runs -/
  tb : Nat := 0
  /-- the cell entry that governs the crossing (R46) -/
  entry : BitVec 10
  /-- the tick of the hit, once its edge has started oscillator B (R14) -/
  hit : Option Tick := none
  /-- the interval from the crossing to the edge that started B, in femtoseconds -/
  span : Nat := 0
  na : BitVec 5 := 0
  nv : Option (BitVec 6) := none
  tot : Option (BitVec 9) := none
  /-- case C of R38 applies to the crossing -/
  caseC : Bool := false
  /-- the stale flag in force at the hit tick (R75) -/
  stale : Bool := false
  /-- `TP_FE_ID` in force at the hit tick (R83) -/
  feId : BitVec 16 := 0
deriving DecidableEq, Repr

/-- A finished record in an entry latch (R82), with the values in force at its hit tick (R83). -/
structure LatchRec where
  tick : Tick
  na : BitVec 5
  nv : BitVec 6
  tot : BitVec 9
  stale : Bool
  pileup : Bool
  express : Bool
  feId : BitVec 16
deriving DecidableEq, Repr

/-- One cell: front end, vernier, ring selections and entry latch (R27 to R39, R49 to R59, R65 to R74, R82). -/
structure CellState where
  /-- the entry in force, laid out as `FE_CELL_DATA` [9:0] -/
  entry : BitVec 10 := 0x040
  /-- the trim before the last change of the entry, and since when the threshold settles to the new one (R30) -/
  trimWas : BitVec 6 := 0
  trimAt : Option Nat := none
  stuck : Bool := false
  /-- the pending pile-up bit (R39) -/
  pend : Bool := false
  /-- since when fe_off is 0 again, until the 50 µs of R31 end -/
  settle : Option Nat := none
  /-- the discriminator output, and the instant of its last edge -/
  high : Bool := false
  edgeAt : Nat := 0
  /-- the instant of the previous crossing that was not blocked -/
  lastCross : Option Nat := none
  /-- the dead time runs (R57), from the crossing `deadFrom`; `deadTrail` is its trailing edge -/
  dead : Bool := false
  deadFrom : Nat := 0
  deadTrail : Option Nat := none
  conv : Option Conv := none
  latch : Option LatchRec := none
  /-- the selection masks in force and the ones a run has selected (R65, R72) -/
  selA : BitVec 14 := 0x397F
  selB : BitVec 14 := 0x397F
  newA : BitVec 14 := 0x397F
  newB : BitVec 14 := 0x397F
  /-- the status of the last complete run (R74); 3: not measured since reset -/
  calStatus : BitVec 2 := 3
deriving DecidableEq, Repr, Inhabited

/-- A record in a tile queue: two words with their parity bits (R84). -/
structure QRec where
  w0 : W64
  p0 : Bool
  w1 : W64
  p1 : Bool
deriving DecidableEq, Repr, Inhabited

/-- An open refusal span (R92): ticks of the chip as counted since reset, and the hit ticks refused in it. -/
structure Span where
  openAt : Nat
  lastAt : Nat
  hits : List Tick
deriving DecidableEq, Repr

/-- A run that is due (R66): one cause, whether it is forced, and when it became due (R70). -/
structure DueRun where
  cause : BitVec 2
  forced : Bool
  dueAt : Nat
deriving DecidableEq, Repr

/-- How far a run has come (R71). -/
inductive RunPhase where
  | started | rings | selected | final | complete | aborted
deriving DecidableEq, Repr

/-- A run between its start tick and its resume tick (R70, R71). -/
structure Run where
  s : Tick
  cause : BitVec 2
  phase : RunPhase := .started
  /-- a cancel or RESET_TILE was refused (outcomes 2 and 3) -/
  refused : Bool := false
  /-- the run-start word has left every uplink that carries the tile (R98) -/
  startSent : Bool := false
deriving DecidableEq, Repr

/-- The pace counts of a ring (R87): the last two, and how many complete counts it has (0, 1 or 2). -/
structure Pace where
  last : Nat := 0
  prev : Nat := 0
  complete : Nat := 0
deriving DecidableEq, Repr, Inhabited

/-- One tile: queue, governor, refusal span, calibration and sensor (R66 to R81, R82 to R102, R369). -/
structure TileState where
  queue : List QRec := []
  /-- the admission limit of the latest recomputation, the one before it, and when the latest was made: it applies
  from the next tick (R88) -/
  limit : Nat := 0
  limitWas : Nat := 0
  limitAt : Nat := 0
  pace : Pace := {}
  span : Option Span := none
  /-- since when the tile's domain, and so its pace ring, has been on -/
  onSince : Nat := 0
  due : Option DueRun := some ⟨0, false, 0⟩
  run : Option Run := none
  stale : Bool := true
  seq : BitVec 7 := 0
  outcome : BitVec 3 := 0
  reported : Bool := false
  /-- the cause shown by `CAL_TILE_STATE.cause` -/
  cause : BitVec 2 := 0
  sensorNow : BitVec 12 := 0
  sensorRef : BitVec 12 := 0
  /-- when the sensor was last sampled; consecutive readings equal to the latest; the readings since the last one out
  of range, newest first, at most 64 (R67) -/
  sampledAt : Option Nat := none
  sameRun : Nat := 0
  okRun : List (BitVec 12) := []
  sensorFault : Bool := false
  /-- the resume tick of the last complete run, counted since reset -/
  resumeAt : Option Nat := none
deriving DecidableEq, Repr, Inhabited

/-- What a record in the framer leaves as (R94, R95). -/
inductive RecKind where
  | hit | poisoned | terminator
deriving DecidableEq, Repr

/-- A record that a merge has handed to its framer: its tick as read, which gives its offset, and the hit tick it was
written with, which holds the horizon (R94, R98). -/
structure FrRec where
  kind : RecKind
  tile : Nat
  w0 : W64
  tick : Tick
  hit : Tick
deriving DecidableEq, Repr

/-- A record of which the merge has read word 0 only (R95): its tile, the word as read and whether parity failed. -/
structure HalfRead where
  tile : Nat
  w0 : W64
  bad : Bool
deriving DecidableEq, Repr

/-- A merge (R85, R86): the tile served last, a half-read record and the pace ring. -/
structure Merge where
  lastTile : Nat := 31
  half : Option HalfRead := none
  pace : Pace := {}
deriving DecidableEq, Repr, Inhabited

/-- An echo reply that is due: the downlink that carried the ECHO, its tag, and the instant in fs of the recovered tick edge
that started its frame, before phase delay (R106, R116). -/
structure EchoDue where
  downlink : Fin 2
  tag : BitVec 8
  start : Int
deriving DecidableEq, Repr

/-- A calibration-result word in a framer: its tile, and whether it is a run-start word (R77, R98). -/
structure CalWord where
  word : W64
  tile : Nat
  start : Bool
deriving DecidableEq, Repr

/-- A framer (R97 to R99). -/
structure Framer where
  records : List FrRec := []
  echo : List EchoDue := []
  headerDue : Option Tick := none
  horizonDue : Bool := false
  cal : List CalWord := []
  deadTime : List W64 := []
  /-- slots since the last control-share word, saturating at 7 -/
  sinceShare : Nat := 7
  /-- the last word taken from register responses and dead-time reports was a dead-time report -/
  lastWasDeadTime : Bool := true
  base : Tick := 0
  /-- the last horizon sent (R98) -/
  lastH : Option Tick := none
  /-- an uplink of the framer has entered data: 2, its frame header is still to come; 1, the horizon after it (R99) -/
  entry : Nat := 0
deriving DecidableEq, Repr, Inhabited

/-- The state of an uplink (R111). -/
inductive UpState where
  | off | train | data
deriving DecidableEq, Repr, Inhabited

/-- An eye scan (R119): when it began, while it runs. -/
abbrev EyeRun := Option Nat

/-- A downlink receiver (R108, R111): frame lock and its counters. -/
structure Downlink where
  lock : Bool := false
  goodRun : Nat := 0
  badSyncRun : Nat := 0
  /-- CRC failures of the latest frames, newest first, at most 64 -/
  crcWindow : List Bool := []
  readyRun : Nat := 0
  notReadyRun : Nat := 0
  lastEcho : Option Nat := none
  /-- when the last bit of the latest frame was received -/
  lastEnd : Option Nat := none
  eye : EyeRun := none
deriving DecidableEq, Repr, Inhabited

/-- A frame that was accepted and waits for its processing tick (R109): when that is, its downlink, the frame. -/
structure DueFrame where
  at' : Nat
  downlink : Fin 2
  frame : BitVec 128
deriving DecidableEq, Repr

/-- The lease (R118). -/
structure Lease where
  owner : Fin 2
  id : BitVec 16
  expiry : Tick
deriving DecidableEq, Repr

/-- A commit that is pending at the Jilek (R338): epoch, target and the tick at which it will switch. -/
structure JCommit where
  epoch : BitVec 4
  target : Tick
  switchAt : Tick
  late : Bool
deriving DecidableEq, Repr

/-- A staged value, the moment of the write that staged it, and the value staged before that tick (R9, R338). -/
structure Staged where
  val : Word
  moment : Nat
  prior : Option Word := none
deriving DecidableEq, Repr

/-- An injection that has been made (R33): tick, charge code, phase code and the cells that received it. -/
structure Injection where
  tick : Tick
  charge : BitVec 10
  phase : Nat
  cells : List Nat
deriving DecidableEq, Repr

/-- The Jilek. -/
structure Jilek where
  /-- the tick count (R115) -/
  tick : Tick := 0
  /-- the MODEL's own count of tick edges since reset began or, after its release, since the release: durations are
  measured by it -/
  up : Nat := 0
  /-- how far phase steps have moved the tick edges so far, in codes of 2.5 ps (R114) -/
  shift : Int := 0
  cells : FMap CellState := []
  tiles : FMap TileState := []
  merges : Vector Merge 2 := #v[{}, {}]
  framers : Vector Framer 2 := #v[{}, {}]
  /-- the word last sent on each uplink; none: the transmitter floats -/
  upSent : Vector (Option W64) 2 := #v[none, none]
  /-- the 66 bits of its block as they go out, the first on top, and the last 58 scrambled bits sent (R103, R104) -/
  upBlock : Vector (Option (BitVec 66)) 2 := #v[none, none]
  upScr : Vector (BitVec 58) 2 := #v[0, 0]
  upState : Vector UpState 2 := #v[.off, .off]
  /-- register responses and status words that wait for the framer that sends them (R97, R106) -/
  responses : List W64 := []
  statuses : List W64 := []
  downlinks : Vector Downlink 2 := #v[{}, {}]
  /-- frames that wait for their processing ticks -/
  due : List DueFrame := []
  /-- the tick source (R114): none before the first lock; `src` is the latest source -/
  src : Option (Fin 2) := none
  holdover : Bool := false
  /-- the new owner's downlink, which becomes the source at its next frame start, and when that is (R114) -/
  srcNext : Option (Fin 2 × Nat) := none
  tickSet : Bool := false
  /-- codes of 2.5 ps that the tick edges still have to move, later where positive (R114) -/
  slew : Int := 0
  /-- how far the latest tick edge moved against the one before it -/
  edgeMove : Int := 0
  /-- `FE_THR_GLOBAL.code` before its last switch, and since when the thresholds settle to the new one (R30) -/
  thrWas : BitVec 10 := 0
  thrAt : Option Nat := none
  lease : Option Lease := none
  injections : List Tick := []
  lastInjection : Option Injection := none
  /-- when hold ends, counted since reset (R68) -/
  holdUntil : Option Nat := none
  commit : Option JCommit := none
  epoch : BitVec 4 := 0
  switched : Bool := false
  switchedLate : Bool := false
  lastSwitch : Tick := 0
  lastTarget : Tick := 0
  /-- RW and W1C fields of every page, by Jilek address (R329) -/
  regs : FMap Word := []
  /-- staged values, and those taken into the pending commit; cell entries stand at 0x1_0000 + cell -/
  staged : FMap (Option Staged) := []
  taken : FMap (Option Word) := []
  counters : FMap Ctr := []
  /-- first overrun and first overage since reset or clear, already reported (R64, R91) -/
  overrunSeen : Bool := false
  overageSeen : Bool := false
  lastOverrun : BitVec 11 := 0
  /-- _HI latches, by downlink × 0x1_0000 + address of the _HI (R110) -/
  latches : FMap Word := []
  /-- the value the latest register access returned -/
  lastRead : Word := 0
  /-- the unit identity (R348): part 0x4A, revision 0x01 (R2) -/
  unit : BitVec 64 := 0x4A01
  /-- the CRC-16 stored with it (R348) -/
  otpCrc : BitVec 16 := 0x4DBA
  cause : JCause := .powerOn
  /-- since when neither downlink has had frame lock (R370) -/
  unlockedSince : Option Nat := some 0
  /-- in reset: from power-on until JILEK_RESET_RELEASE (R367) -/
  inReset : Bool := false
  /-- the MODEL's own counter of free values drawn -/
  draws : Nat := 0
deriving DecidableEq, Repr, Inhabited

end Sys2Proof.Machine
end

