-- ==== Sys2Proof/Machine/BolovState.lean ====
section
/-!
DEFINITION. The state of the Bolov's time base, ports, sort engine, output lanes, triggers and rate reduction (06 R112,
R116; 07; 08; 09; 10). The other blocks stand in `BlockState.lean`, the whole in `State.lean`.
-/

namespace Sys2Proof.Machine

/-! ### Time (07) -/

/-- The clocks and the servo (R122 to R139). Time of day is one number in 2^-32 ns. -/
structure TimeState where
  tod : Nat := 0
  incr : Nat := 0x320000000
  todValid : Bool := false
  locked : Bool := false
  /-- consecutive applied samples within the lock threshold (R131) -/
  lockRun : Nat := 0
  holdover : Bool := true
  /-- samples counted towards leaving holdover (R130) -/
  good : Nat := 0
  /-- when holdover began, and the seconds of the last one that ended (R138) -/
  holdFrom : Nat := 0
  holdSecs : Nat := 0
  integ : Int := 0
  /-- the last offset sample, in 2^-10 ns, rounded down -/
  offset : Int := 0
  schedIncr : Option Nat := none
  /-- a scheduled servo step and a host set, in 2^-32 ns (R128, R129) -/
  schedStep : Option Int := none
  hostSet : Option Nat := none
  /-- when the last step was applied (R139) -/
  steppedAt : Option Nat := none
  refLock : Bool := false
  /-- the PLL has locked since power-on (R124), and when ref_lock was last set (R123): before a warm reset, a negative moment -/
  pllOnce : Bool := false
  lockedAt : Option Int := none
  /-- 2.5 ps units that the tick edges still have to slew (R123) -/
  slew : Nat := 0
  presetPending : Bool := false
  lastSample : Nat := 0
  ppsSecWritten : Bool := false
  lastPps : Option Nat := none
  ppsOut : Bool := false
  ppsRose : Nat := 0
  /-- the delay-line steps of 2.5 ps from the tick edge `ppsRose` to the latest rising edge (R133) -/
  ppsCode : Nat := 0
  snapBusy : Option Nat := none
  snapTick : Tick := 0
  snapTod : Nat := 0
  /-- `TM_UTC` (R126): valid, utc_valid, leap61, leap59, offset -/
  utc : Word := 0
deriving DecidableEq, Repr, Inhabited

/-- A PTP Sync pair (R135): times in 2^-32 ns, the correction added to t1. -/
structure SyncPair where
  t1 : Int
  t2 : Int
deriving DecidableEq, Repr

/-- A two-step Sync that waits for its Follow_Up. -/
structure PendingSync where
  seq : BitVec 16
  t2 : Int
  correction : Int
deriving DecidableEq, Repr

/-- An outstanding Delay_Req. -/
structure DelayReq where
  seq : BitVec 16
  t3 : Int
deriving DecidableEq, Repr

/-- The PTP engine (R134 to R137). -/
structure PtpState where
  pending : Option PendingSync := none
  pair : Option SyncPair := none
  /-- delay values, newest first, in 2^-32 ns, at most 256 -/
  delays : List Int := []
  req : Option DelayReq := none
  nextSeq : BitVec 16 := 0
  /-- logMessageInterval of the last Sync and of the last Delay_Resp -/
  syncLog : Int := 0
  delayLog : Int := 0
  /-- the last Announce handed to the firmware (R137): clock identity and port number -/
  announce : Option (BitVec 64 × BitVec 16) := none
deriving DecidableEq, Repr, Inhabited

/-! ### Ports (06, 08) -/

/-- The state of a port receiver (R112). -/
inductive RxState where
  | acquiring | blockLock | ready | data
deriving DecidableEq, Repr, Inhabited

/-- An item of a port's input queue (R149): a record with its parity and the last horizon before it, or a horizon marker. -/
inductive InItem where
  | word (w : W64) (parity : Bool) (h : Tick)
  | marker (h : Tick)
deriving DecidableEq, Repr

/-- An open span of refused or dropped records of a port (R92, R151, R161). -/
abbrev PortSpan := Option Span

/-- A running delay measurement (R116, R221): the interval unit, the samples asked for, the ECHOs sent, the unit's result
number before it, and the first lag of the series. -/
structure Measure where
  unit : Fin 4
  want : Nat
  sent : Nat := 0
  seq0 : Word := 0
  lag : Option Nat := none
  /-- the tag of the ECHO sent last (R116) -/
  tag : Option Nat := none
deriving DecidableEq, Repr

/-- A fast command that waits at a port (R109), with the remote request it carries (R330), or whether a go of the remote
window sent it (R332). -/
structure PortCmd where
  op : Nat
  arg : Nat
  payload : Nat
  request : Option (BitVec 16) := none
  fc : Bool := false
deriving DecidableEq, Repr

/-- What the port knows of the runs of one tile (R78, R79). -/
structure PortTile where
  lastSeq : Option (BitVec 7) := none
  /-- the start tick of a run whose start word has come and whose report is still to come -/
  started : Option Tick := none
  /-- the run whose 64 results are expected: its start tick, and the next cell -/
  expecting : Option (Tick × Nat) := none
deriving DecidableEq, Repr, Inhabited

/-- The publication of a Jilek's identity (R349): the reads under way by address and tag, and what they have returned. -/
structure Publish where
  reads : List (Nat × BitVec 8) := []
  lo : Option Word := none
  hi : Option Word := none
  valid : Bool := false
deriving DecidableEq, Repr, Inhabited

/-- One port (R104, R105, R112, R116, R149 to R161). -/
structure PortState where
  rx : RxState := .acquiring
  /-- the last 58 line bits received, from which the next block is descrambled (R103) -/
  scr : BitVec 58 := 0
  /-- valid sync headers in a row, and the latest 64 headers, newest first, true where invalid -/
  goodHeaders : Nat := 0
  headers : List Bool := []
  /-- good control words in a row since block lock; words since lock and the word numbers of failed checks -/
  goodControl : Nat := 0
  words : Nat := 0
  failedAt : List Nat := []
  lastH : Option Tick := none
  base : Option Tick := none
  hEff : Tick := 0
  /-- the port has read a horizon marker since it entered data, and so takes part in the horizon test (R167) -/
  inTest : Bool := false
  queue : List InItem := []
  refusal : PortSpan := none
  lateDrop : PortSpan := none
  /-- the start of the open link-down record (R112) -/
  downFrom : Option Tick := none
  measure : Option Measure := none
  /-- d_down and d_up of the last accepted measurement, exact in units of 2^-18 / 800 ns (R116) -/
  dDown : Int := 0
  dUp : Int := 0
  delayValid : Bool := false
  delayFault : Bool := false
  lag : Nat := 0
  /-- the Jilek's downlink that this port drives, as the last echo reply names it (R106) -/
  downlink : Nat := 0
  /-- the last lease status names this Bolov, and the lease's owner ID as last reported -/
  owner : Bool := false
  leaseOwnerId : BitVec 16 := 0
  leaseOwned : Bool := false
  commands : List PortCmd := []
  /-- the downlink frame sent last, as it goes out (R107) -/
  txFrame : Option (BitVec 128) := none
  eye : EyeRun := none
  tiles : FMap PortTile := []
  publish : Publish := {}
  /-- the receiver has reached data within 10 ms of tx_en, and when tx_en was set (R372) -/
  beenData : Bool := false
  txAt : Nat := 0
deriving DecidableEq, Repr, Inhabited

/-! ### Sort engine (08) -/

/-- Everything that switches at a slice start (R335): held in force, and as a copy by every slice in flight. -/
structure SliceCfg where
  epoch : BitVec 4 := 0
  /-- region map by port × 32 + tile; an unlisted entry reads 0x0100 (R148) -/
  regionMap : FMap (BitVec 16) := []
  /-- steering by slice mod 256; an unlisted entry is index mod 16 (R182) -/
  steering : FMap (Option (BitVec 4)) := []
  /-- `RATE_REGION` by region; an unlisted entry has group region div 32 (R210) -/
  rateRegion : FMap (Option Byte) := []
  classExempt : BitVec 16 := 0
  /-- RAW+CAL -/
  cal : Bool := true
  laneEn : BitVec 16 := 0
  streamId : BitVec 16 := 0
  /-- the fe_id copy of each port (R342) -/
  feIds : FMap (BitVec 16) := []
deriving DecidableEq, Repr, Inhabited

/-- The records of one region and port in a slice (R155, R176): in arrival order, with the pool lines they fill. -/
structure Chain where
  recs : List W64 := []
  lines : List Nat := []
deriving DecidableEq, Repr, Inhabited

/-- Records lost or discarded in one region of a slice: how many, and the smallest and largest tick. -/
structure Losses where
  count : Nat := 0
  first : Tick := 0
  last : Tick := 0
deriving DecidableEq, Repr, Inhabited

/-- Where a slice stands (R156). -/
inductive SlicePhase where
  | collecting | closed | emitting
deriving DecidableEq, Repr, Inhabited

/-- A slice in flight, or skipped and not yet emitted (R145, R156). -/
structure Slice where
  num : Nat
  start : Tick
  cfg : SliceCfg
  skipped : Bool := false
  phase : SlicePhase := .collecting
  /-- bit r: region r is open -/
  open' : BitVec 256 := BitVec.allOnes 256
  /-- bit r: region r is refused at stage 3 (R202) -/
  refused : BitVec 256 := 0
  /-- records by region × 128 + port -/
  chains : FMap Chain := []
  /-- records that found no free line, and records refused at stage 3, by region -/
  lost : FMap Losses := []
  refusedCount : FMap Nat := []
  /-- time of day, INCR and the time flags at the start tick (R139) -/
  tod : Nat := 0
  incr : Nat := 0
  timeFlags : BitVec 5 := 0
  stageAtStart : Nat := 0
deriving DecidableEq, Repr, Inhabited

/-- A record in the late queue (R160). -/
structure LateRec where
  word : W64
  tick : Tick
  port : Nat
  feId : BitVec 16
  /-- its offset from the start of its slice (R178) -/
  off : Nat
  /-- its place in the late queue's ring -/
  pos : Nat
deriving DecidableEq, Repr

/-- A calibration set staged for a tile of a port (R78): by cell ta, dt and status; none where the result is missing. -/
structure CalSet where
  port : Nat
  tile : Nat
  s : Tick
  /-- its place in the staging memory (R155) -/
  slot : Nat := 0
  /-- the results so far, in cell order: ta, dt, status -/
  results : List (Nat × Nat × Nat) := []
  /-- the set stands for lost results: the contexts take status calibration lost from S (R79) -/
  lost : Bool := false
deriving DecidableEq, Repr

/-- A configuration that was replaced: at which tick, and when (R196, R207). -/
structure OldCfg where
  until' : Tick
  at' : Nat
  cfg : SliceCfg
deriving DecidableEq, Repr

/-- The sort engine (R145 to R167). -/
structure SortState where
  running : Bool := false
  /-- the final slice, once set -/
  final : Option Nat := none
  /-- the number and start tick of the next slice to open -/
  nextSlice : Nat := 0
  nextStart : Tick := 0
  /-- the number of the next slice whose frame begins -/
  nextFrame : Nat := 0
  cfg : SliceCfg := {}
  /-- earlier values of cfg, newest first -/
  oldCfgs : List OldCfg := []
  slices : List Slice := []
  /-- numbers of the skipped slices of this run (R153) -/
  skips : List Nat := []
  late : List LateRec := []
  /-- late records queued so far, which gives the next place in the ring -/
  lateSeq : Nat := 0
  contexts : FMap (BitVec 128) := []
  calSets : List CalSet := []
  /-- pool lines: returned ones, and the next never used (R155) -/
  freeLines : List Nat := []
  freshLine : Nat := 0
  overflowEn : FMap Word := []
  ovfBin : BitVec 16 := 0
  poolPeak : Nat := 0
  /-- when the counter walk began (R166) and the index it has reached -/
  walk : Option Nat := none
  walkAt : Nat := 0
deriving DecidableEq, Repr, Inhabited

/-! ### Notices and dead time (09 R179; 10 R205) -/

/-- A dead-time record (R205). -/
structure DtRec where
  cause : Nat
  scope : Nat
  port : Nat := 0
  sub : Nat := 0
  start : Tick
  stop : Tick
  count : Nat
  feId : Nat := 0
deriving DecidableEq, Repr

/-- A notice that waits for its frame: due in the first frame whose slice ends after `after`, or the next (R154). -/
structure Notice where
  words : List W64
  after : Option Tick
deriving DecidableEq, Repr

/-! ### Output (09) -/

/-- A twin record (R271): slice, records, digest and the four flags; and whether a feeding port was out of data. -/
structure TwinRec where
  slice : Nat
  records : Nat
  digest : Nat
  flags : BitVec 4
  outage : Bool := false
deriving DecidableEq, Repr

/-- A frame on a lane: its slice, its words in order, and the pool lines still to return, each with the words that are sent by
then (R155, R156, R174); its twin record, and whether it is sent again in a takeover (R269). -/
structure FrameOut where
  slice : Nat
  words : List W64
  lines : List (Nat × Nat)
  lane : Nat
  twin : TwinRec
  again : Bool := false
deriving DecidableEq, Repr

/-- An express unit in its queue: a hit record with its tick, port and fe_id (R183), or a trigger mark (R194). The blocks are
formed when the unit is sent. -/
inductive ExpressUnit where
  | hit (word : W64) (tick : Tick) (port : Nat) (feId : BitVec 16)
  | mark (source : Nat) (falling prot : Bool) (tick : Tick) (seq : BitVec 16) (fine w index : Nat)
deriving DecidableEq, Repr

/-- An output lane (R171, R184 to R187). -/
structure Lane where
  /-- since when the lane is enabled; its windows are counted from there (R187) -/
  enabledAt : Option Nat := none
  /-- since when it sends blocks: a lane disabled sends on until its domain goes off (R189) -/
  ranFrom : Option Nat := none
  started : Bool := false
  frame : Option FrameOut := none
  /-- since when XOFF_N is low, and how many blocks of that hold are counted (R190) -/
  heldFrom : Option Nat := none
  heldDone : Nat := 0
  /-- earlier holds: falling and rising edge -/
  holds : List (Nat × Nat) := []
  /-- in breach (R187), and the block in which the breach began -/
  breach : Bool := false
  breachAt : Nat := 0
  /-- the control blocks sent last, or due when a hold ends: type and payload, and as they stand on the line (R171, R172) -/
  blocks : List (Byte × BitVec 56) := []
  line : List (BitVec 66) := []
  /-- when the last SOF or resume block went out, and the blocks of express units since -/
  since : Nat := 0
  extra : Nat := 0
  /-- the replay frame on the lane (R185): request, words still to come from that block on -/
  replay : Option (BitVec 16 × List W64) := none
  /-- a replay frame cut while a live frame interrupts it: its request (R240) -/
  cut : Option (BitVec 16) := none
  /-- the express queues (R184): marks and hits, oldest first -/
  markQ : List ExpressUnit := []
  hitQ : List ExpressUnit := []
deriving DecidableEq, Repr, Inhabited

/-! ### Triggers and rate (10) -/

/-- A generated mark (R195, R196): when it was generated, and the tick edge that ends the tick in which that was. -/
structure Mark where
  at' : Nat
  edge : Nat
  source : Nat
  tick : Tick
  w : Nat
  seq : BitVec 16
  protect : Bool
  /-- the window has been reported closed (protected windows) -/
  windowOpen : Bool
  dropped : Bool
  annotated : Bool := false
deriving DecidableEq, Repr

/-- Triggers (R192 to R197). -/
structure TrgState where
  seq : BitVec 16 := 0
  marks : List Mark := []
  /-- a mark was dropped since the last mark sent -/
  lost : Bool := false
  /-- the last mark of each of sources 0 to 3 (R193): its tick, and when it was generated -/
  lastMark : FMap (Option (Tick × Nat)) := []
  /-- the comparators of sources 0 to 3 that are armed (R192) -/
  armed : BitVec 4 := 0
  /-- the TEST_PULSEs sent (R200): the tick each names, and when it was sent -/
  testPulses : List (Tick × Nat) := []
deriving DecidableEq, Repr, Inhabited

/-- An open prescale record of a region (R201). -/
structure OpenPrescale where
  start : Tick
  stop : Tick
  count : Nat
deriving DecidableEq, Repr

/-- Rate reduction (R198 to R204). -/
structure RateState where
  stage : Nat := 0
  held : Nat := 0
  openRecs : FMap (Option OpenPrescale) := []
  throttle : BitVec 8 := 0
  /-- hold has been sent and not released, and when it was last sent (R69) -/
  holding : Bool := false
  holdAt : Nat := 0
deriving DecidableEq, Repr, Inhabited

end Sys2Proof.Machine
end

