-- ==== Sys2Proof/Machine/BlockState.lean ====
section
/-!
DEFINITION. The state of the Bolov's other blocks, and the Bolov as a whole.
-/

namespace Sys2Proof.Machine

/-! ### Control (17) -/

/-- A privileged queue (R325): its records, oldest first, and the records reserved in it. -/
structure Queue where
  records : List (List W64) := []
  reserved : Nat := 0
deriving DecidableEq, Repr, Inhabited

/-- A remote request (R330). -/
structure Request where
  seq : BitVec 16
  port : Nat
  op : Nat
  once : Bool
  addr : BitVec 16
  data : Word
  /-- sends so far -/
  attempts : Nat := 0
  /-- issued, and the end of its last frame while it waits for its response; timed out and waiting to be re-sent -/
  issued : Bool := false
  sentAt : Option Nat := none
  timedOut : Bool := false
  /-- the record that answers it, until the requests before it on its port are answered (R330 rule 6) -/
  answer : Option (List W64) := none
deriving DecidableEq, Repr

/-- The remote window (R330 to R332). -/
structure RmtState where
  requests : List Request := []
  nextSeq : BitVec 16 := 0
  fcBusy : Bool := false
  fcResult : Nat := 0
  fcSkipped : Nat := 0
  /-- the go under way has sent a frame, and the start tick of the first one -/
  fcBegun : Bool := false
  fcSent : Tick := 0
deriving DecidableEq, Repr, Inhabited

/-- A table window (R328). -/
structure Window where
  index : Nat := 0
  data : Vector Word 4 := #v[0, 0, 0, 0]
  staged : Bool := false
  poisoned : Bool := false
deriving DecidableEq, Repr, Inhabited

/-- The I3C target (R314 to R317, R323). -/
structure I3cState where
  /-- the ADDR_SEL straps -/
  addrSel : BitVec 3 := 0
  dyn : Option (BitVec 7) := none
  enInt : Bool := false
  mwl : Nat := 1024
  mrl : Nat := 1024
  ibiPayload : Nat := 5
  protoErr : Bool := false
  pointer : Nat := 0
  hdr : Bool := false
  /-- the bytes of the latest answer on the bus -/
  reply : List Byte := []
  /-- the latest IBI delivered: its mandatory byte and payload -/
  ibi : List Byte := []
deriving DecidableEq, Repr, Inhabited

/-! ### Interval and frequency statistics (11) -/

/-- A stamp (R213): the first tick edge at or after the edge, and how far before it in 2.5 ps. -/
structure Stamp where
  t : Tick
  f : Nat
deriving DecidableEq, Repr, Inhabited

/-- The accumulators of a unit (R218, R220), and a posting made from them (R219). -/
structure IsAcc where
  count : Nat := 0
  pivot : Int := 0
  min : Int := 0
  max : Int := 0
  sum : Int := 0
  sumsq : Nat := 0
  clipped : Bool := false
  refLost : Bool := false
  edges : Nat := 0
deriving DecidableEq, Repr, Inhabited

/-- The result registers of a unit (R219): mean and deviation in 2^-18 ns. -/
structure IsResult where
  acc : IsAcc := {}
  early : Bool := false
  freq : Bool := false
  mean : Int := 0
  sd : Nat := 0
  seq : Word := 0
deriving DecidableEq, Repr, Inhabited

/-- A measurement unit (R212 to R221); run and the configuration stand in its registers. -/
structure IsUnit where
  /-- the port that holds the unit (R221) -/
  link : Option Nat := none
  opened : Option Stamp := none
  /-- measured edges of the open gate after its opening edge (R220) -/
  edges : Nat := 0
  /-- the edge that closed the last sample (R215) -/
  closed : Option Stamp := none
  /-- a GATE_IN edge has armed the unit (R217) -/
  edgeArmed : Bool := false
  acc : IsAcc := {}
  result : IsResult := {}
deriving DecidableEq, Repr, Inhabited

/-! ### Mere (13) -/

/-- An entry of the repeat tracker (R256); `order` is its allocation number. -/
structure TrkEntry where
  addr : Nat
  count : Nat
  wb : Bool
  hard : Bool := false
  unplaced : Bool := false
  order : Nat
deriving DecidableEq, Repr, Inhabited

/-- The integrity logic of Mere and Tarn (R245 to R260). -/
structure MereState where
  /-- the lines that store poison, by line address (R249) -/
  poison : FMap Bool := []
  /-- bucket levels by unit, and the held bits (R254) -/
  levels : FMap Nat := []
  held : BitVec 24 := 0
  /-- the last uncorrectable address by unit, and which are valid (R259) -/
  last : FMap Nat := []
  lastValid : BitVec 24 := 0
  tracker : FMap (Option TrkEntry) := []
  trkOrder : Nat := 0
  /-- spare lines used by bank, and the address of the spare that stands in for a line (R257) -/
  spares : FMap Nat := []
  remap : FMap Nat := []
  badGroups : List Nat := []
  /-- when the patrol passes of Mere and of Tarn under way began (R255) -/
  mereFrom : Nat := 0
  tarnFrom : Nat := 0
  /-- the reads of lines still to come that will not be clean: the errors that the lines hold -/
  flaws : List LineRead := []
deriving DecidableEq, Repr, Inhabited

/-! ### Tarn (12) -/

/-- A history entry (R228): where it starts, counted on from the last training without wrapping, and its content. -/
structure TEntry where
  pos : Nat
  kind : Nat
  lane : Nat
  words : List W64
  seq : Nat
  slice : Nat := 0
  /-- start time of day of a frame (R233), in 2^-32 ns -/
  tod : Nat := 0
  /-- the regions with a block in a frame, and whether it carries notices (R238) -/
  regions : BitVec 256 := 0
  notices : Bool := false
  /-- lines written so far, and when the last of its words was sent (R229, R231) -/
  filled : Nat := 0
  sent : Option Nat := none
deriving DecidableEq, Repr

/-- State of a mark (R232). -/
inductive MarkState where
  | free | pending | live | overtaken
deriving DecidableEq, Repr, Inhabited

/-- A mark (R232); `pos` is its entry's position. -/
structure TMark where
  state : MarkState := .free
  pinned : Bool := false
  auto : Bool := false
  source : Nat := 0
  seq : BitVec 16 := 0
  pinLen : Nat := 0
  pos : Nat := 0
  slice : Nat := 0
deriving DecidableEq, Repr, Inhabited

/-- Where the range of a replay ends (R237): a slice, or a time of day. -/
inductive ReplayEnd where
  | slice (n : Nat)
  | before (tod : Nat)
deriving DecidableEq, Repr

/-- An accepted replay request (R236 to R242). -/
structure Replay where
  id : BitVec 16
  lane : Fin 16
  /-- its place in the request table (R237) -/
  slot : Nat := 0
  priority : Nat
  express : Bool
  mask : Nat
  /-- a start mark whose frame was still to be written: everything before the frame of this slice is passed over -/
  fromSlice : Option Nat := none
  /-- position of the next entry to read, and the sequence of the entry before it once one has been read -/
  next : Nat
  prevSeq : Option Nat := none
  stop : ReplayEnd
  truncated : Bool
  active : Bool := false
  /-- the unit on the lane that is not yet delivered whole: a frame or not, its slice, with a poisoned line -/
  unit : Option (Bool × Nat × Bool) := none
  /-- the unit on the lane is the last of the range; the request has been aborted (R243) -/
  ended : Bool := false
  aborted : Bool := false
  poisonSeen : Bool := false
  frames : Nat := 0
  first : Nat := 0
  last : Nat := 0
  units : Nat := 0
  poisoned : Nat := 0
deriving DecidableEq, Repr

/-- Tarn (R225 to R244). -/
structure TarnState where
  ready : Bool := false
  training : Bool := false
  trainFrom : Nat := 0
  fail : BitVec 8 := 0
  /-- density and rate of the training under way or ended last (R244) -/
  dense : Bool := true
  rate : BitVec 2 := 0
  /-- history lines after the last training (R227) -/
  hist : Nat := 0
  /-- by group in progress (R230): the lines written and, on chip, their line checks -/
  groups : FMap (Option (BitVec 8 × BitVec 256)) := []
  /-- position of the next line to reserve, and the next entry sequence -/
  w : Nat := 0
  seq : Nat := 0
  entries : List TEntry := []
  marks : FMap TMark := []
  /-- waypoints by number: position, slice, start time of day (R231) -/
  waypoints : FMap (Option (Nat × Nat × Nat)) := []
  lastFrame : Option Nat := none
  /-- the result of the last mark command, and until when one is being carried out (R244) -/
  markRes : Nat := 0
  markUntil : Nat := 0
  requests : List Replay := []
  /-- ids whose record is posted (R243) -/
  answered : List (BitVec 16) := []
  /-- region masks by index; an unlisted mask reads all ones (R238) -/
  masks : FMap (Option (BitVec 256)) := []
deriving DecidableEq, Repr, Inhabited

/-! ### Pod (14) -/

/-- The states of R266. -/
inductive PodSt where
  | off | pairing | standby | active | takingOver | yielding | fenced
deriving DecidableEq, Repr, Inhabited

/-- The Pod partner (R261 to R280). Moments are counts of tick edges. -/
structure PodState where
  state : PodSt := .off
  entered : Nat := 0
  partnerLost : Bool := false
  silent : Bool := false
  fenceOut : Bool := false
  fenceAt : Nat := 0
  fenceIn : Bool := false
  /-- frame lock of the cross-link (R262, R108) -/
  lock : Bool := false
  goodRun : Nat := 0
  badRun : Nat := 0
  crcWindow : List Bool := []
  /-- heartbeats (R264) -/
  hbSeen : Bool := false
  missed : Nat := 0
  lastHb : Tick := 0
  /-- what the partner's frames say (R262) -/
  partnerState : PodSt := .off
  partnerPref : Bool := false
  partnerHealth : Nat := 0
  /-- the last progress of an active partner, none before its first slice (R269) -/
  partnerR : Option Nat := none
  partnerLeaseId : BitVec 16 := 0
  /-- the partner has been lost since pairing ended; the partner's state when it was lost (R266) -/
  lostOnce : Bool := false
  /-- pairing (R265): own arrival offset, rounds with offset 0, the load that waits -/
  arrival : Option Int := none
  rounds : Nat := 0
  /-- tick content has been sent in this pairing -/
  tickSent : Bool := false
  /-- sent-through or newest built slice, frames completed beyond it, and the last T1 (R267) -/
  through : Option Nat := none
  completed : List Nat := []
  lastT1 : Option Nat := none
  /-- handover (R270): the slice X, why, and whether taking over follows an offer -/
  x : Nat := 0
  reason : Nat := 0
  byHandover : Bool := false
  released : Bool := false
  /-- the claim window has ended (R268) -/
  windowOver : Bool := false
  /-- the partner was silent as it entered taking over, and the next slice to build then (R269) -/
  wasSilent : Bool := false
  entryFrame : Nat := 0
  /-- after yielding: express units and marks go on until the partner is seen active (R270) -/
  tail : Bool := false
  /-- frames to send again in a takeover: the next slice, and before which slice takeover = 1 (R269) -/
  resend : Option Nat := none
  /-- slices before this one are built and not emitted, after a takeover or handover (R269, R270) -/
  emitFrom : Nat := 0
  markTo : Nat := 0
  /-- own twin records of built slices, newest first, those that wait to be sent, and the partner's of slices still to be built
  (R263, R271) -/
  built : List TwinRec := []
  twinQ : List TwinRec := []
  twinWait : List TwinRec := []
  /-- contents that wait (R263) -/
  handover : Option (Nat × Bool × Nat) := none
  stageDue : Bool := false
  stageAt : Nat := 0
  phaseQ : List (BitVec 16 × Nat × Nat) := []
  reportDue : List Nat := []
  reportAt : Nat := 0
  /-- the last stage and the phases received (R263, R268, R278) -/
  stage : Option Nat := none
  phases : FMap (Option (Nat × Nat)) := []
  /-- health (R272 to R275): score, since when it is below thr, since when a standby is fit, the last reversion request -/
  health : Nat := 0
  below : Option Nat := none
  /-- since when the partner's score is below thr (R275) -/
  partnerBelow : Option Nat := none
  fitSince : Option Nat := none
  requestAt : Option Nat := none
  offered : Bool := false
  wdogAt : Nat := 0
  wdogExpired : Bool := false
  /-- moments at which a port left data, refused records, a divergence was found -/
  leftData : List (Nat × Nat) := []
  refusedAt : List (Nat × Nat) := []
  diverged : List Nat := []
  /-- health reports: own and the partner's, and self-tests passed and failed (R276) -/
  report : Vector W64 3 := #v[0, 0, 0]
  partnerReport : Vector W64 3 := #v[0, 0, 0]
  testsOk : Nat := 0
  /-- the history position from which the next built entry is re-read -/
  retest : Nat := 0
  testsFailed : Nat := 0
  /-- the cross-link frame sent last -/
  sent : Option (BitVec 128) := none
deriving DecidableEq, Repr, Inhabited

/-! ### Commit (18) -/

/-- Values staged for a commit (R335): tables by entry (a context with its place in the staging area), registers with
Applies "commit" by address, fe_id copies by port (R342). -/
structure StagedSet where
  regionMap : FMap (Option (BitVec 16)) := []
  steering : FMap (Option Byte) := []
  contexts : FMap (Option (Nat × BitVec 128)) := []
  regs : FMap (Option Word) := []
  feIds : FMap (Option (BitVec 16)) := []
deriving DecidableEq, Repr, Inhabited

/-- A port that was sent a COMMIT, and the switch tick it reported with whether it was late (R339). -/
structure CmtPort where
  port : Nat
  report : Option (Tick × Bool) := none
deriving DecidableEq, Repr

/-- Commits (R336 to R346). -/
structure CommitState where
  busy : Bool := false
  t : Tick := 0
  pending : BitVec 4 := 0
  result : Nat := 0
  /-- staged for the next go, and the staged set of the commit in progress -/
  staged : StagedSet := {}
  copy : StagedSet := {}
  /-- context entries staged so far, which gives the next place in the staging area -/
  slot : Nat := 0
  ports : List CmtPort := []
  reached : Bool := false
  switched : Bool := false
  /-- the context merge (R340): when it began, the entries still to be merged, those merged and those found poisoned -/
  mergeAt : Nat := 0
  toMerge : List (Nat × Nat × BitVec 128) := []
  total : Nat := 0
  merged : Nat := 0
  poisoned : Nat := 0
  keepCal : Bool := true
  mergeEnd : Option Tick := none
  firstSlice : Nat := 0
  /-- when COMMIT was last sent -/
  sentAt : Nat := 0
  /-- from the last report: Jileks late and missing, the end of the last merge -/
  lastLate : Nat := 0
  lastMissing : Nat := 0
  lastMergeEnd : Tick := 0
deriving DecidableEq, Repr, Inhabited

/-! ### Environment monitor (15) -/

/-- A converter of the monitor (R281 to R300). Moments are counts of tick edges. -/
structure MonConv where
  seq : BitVec 16 := 0
  /-- a sequence runs, and the slot it converts -/
  running : Bool := false
  slot : Nat := 0
  powered : Bool := false
  /-- when the slot's route was switched on, and its excitation last switched, exchanged or set -/
  began : Nat := 0
  excAt : Nat := 0
  /-- since when the start-up delay runs, and since when the filter settles -/
  startup : Option Nat := none
  settleFrom : Option Nat := none
  timerFrom : Nat := 0
  /-- when a PWM edge last started it -/
  pwmFrom : Option Nat := none
  /-- as a guard converter (R300): it runs its slot, its filter has settled, when its next output comes, and the fault after
  which it waits -/
  guardOn : Bool := false
  guardSettled : Bool := false
  guardNext : Nat := 0
  guardFault : Option Nat := none
deriving DecidableEq, Repr, Inhabited

/-- The monitor. -/
structure MonState where
  convs : Vector MonConv 4 := Vector.replicate 4 {}
  /-- the PWM level, and its edges of the last 65,535 µs: moment, rising -/
  level : Bool := false
  edges : List (Nat × Bool) := []
  broken : BitVec 16 := 0
  /-- `MON_SLOTk_LAST`, and when it was written -/
  last : FMap W64 := []
  lastAt : FMap Nat := []
deriving DecidableEq, Repr, Inhabited

/-! ### Guard (16) -/

/-- The Guard (R297 to R312); its locked registers stand with the other registers. -/
structure GuardState where
  /-- rules found clear at their last evaluation, p_ok as last written, and when -/
  pClear : BitVec 16 := 0
  pOk : BitVec 4 := 0
  pAt : Nat := 0
  pAlive : Bool := false
  /-- inputs in window after their filter, and the samples out of window in a row -/
  hOk : BitVec 4 := 0
  hCount : FMap Nat := []
  ilk : Bool := false
  /-- pins that read high, and the outputs that permit -/
  readback : BitVec 4 := 0
  on : BitVec 4 := 0
  /-- causes (bit 5 P, 4 H, 3 ILK, 2 read-back, 1 host off, 0 reset) and first cause by output -/
  causes : Vector (BitVec 6) 4 := Vector.replicate 4 1
  first : Vector Nat 4 := Vector.replicate 4 6
  /-- the conditions that fail by output (bit 2 P, 1 H, 0 ILK) -/
  fails : Vector (BitVec 3) 4 := Vector.replicate 4 5
  /-- since when every condition of an output is clear, and when the output last changed -/
  clearSince : Vector (Option Nat) 4 := Vector.replicate 4 none
  changedAt : Vector Nat 4 := Vector.replicate 4 0
  /-- password digest with its salt's number, the buffer, the result, failures, lockout end -/
  password : Option (Nat × Nat) := none
  salts : Nat := 0
  buffer : List Byte := []
  result : Nat := 0
  failures : Nat := 0
  lockEnd : Option Nat := none
  session : BitVec 16 := 0
  opened : Bool := false
  lockedAt : Nat := 0
  /-- the change log, oldest first, the next sequence, the head and the anchor (R309, R310) -/
  log : List (List W64) := []
  logSeq : Nat := 0
  head : BitVec 256 := 0
  anchor : BitVec 256 := 0
deriving DecidableEq, Repr, Inhabited

/-! ### Identity, boot and attestation (19) -/

/-- A quote that is being produced: its command, what is taken at its start (R359), and the switches and merges since (R360). -/
structure QuoteRun where
  cmd : List W64
  began : Nat
  tod : Nat
  todValid : Bool
  head : BitVec 256
  logSeq : Nat
  changes : Nat := 0
deriving DecidableEq, Repr

/-- A firmware update: slot, image bytes, the offset of the next data (R357). -/
structure UpdateRun where
  slot : Nat
  length : Nat
  next : Nat
deriving DecidableEq, Repr

/-- Security (R348 to R363). -/
structure SecState where
  /-- OTP: unit identity, lifecycle (0 blank, 1 personalised, 2 decommissioned), rollback counter, hashes of the vendor
  keys, private device keys (R351); the identity has part 0xB1 and revision 0x01 (R2, R348) -/
  unit : BitVec 64 := 0xB101
  lifecycle : Nat := 0
  counter : Nat := 0
  vendorRsa : BitVec 256 := 0
  vendorSlh : BitVec 256 := 0
  deviceRsa : BitVec 3072 := 0
  deviceSlh : BitVec 768 := 0
  /-- QSPI flash by address; an unlisted byte reads 0xFF (R352) -/
  flash : FMap Byte := []
  /-- boot state (R355): the active slot, the trial slot and whether it was tried -/
  active : Nat := 0
  trial : Option Nat := none
  tried : Bool := false
  /-- since the last boot -/
  recovery : Bool := false
  recoverNext : Bool := false
  running : Nat := 0
  trialRuns : Bool := false
  valid : BitVec 2 := 0
  bootMs : Nat := 0
  secVer : Nat := 0
  version : Nat := 0
  imageDigest : BitVec 256 := 0
  /-- nonces drawn (the model's own count), and the last one -/
  draws : Nat := 0
  nonce : Option (BitVec 256) := none
  quote : Option QuoteRun := none
  quoteSeq : Nat := 0
  quoteBytes : List Byte := []
  update : Option UpdateRun := none
  token : FMap Byte := []
  /-- responses in command order; none where one is still to come -/
  answers : List (Option (List W64)) := []
deriving DecidableEq, Repr, Inhabited

/-! ### Power (20) -/

/-- Power, resets and bring-up of the Bolov (R364 to R377). -/
structure PwrState where
  /-- VDD_CORE in mV as last measured, and the junction temperature in 1/16 °C -/
  mv : BitVec 12 := 0
  tj : BitVec 12 := 0
  vcoreLow : Bool := false
  ready : Bool := false
  /-- the BRINGUP and POD_PREF straps -/
  bringup : BitVec 2 := 0
  pref : Bool := false
  /-- 0 power-on, 1 pin, 2 brown-out, 3 warm -/
  cause : BitVec 3 := 0
  /-- the domains that are on, as `PWR_DOM_STATEk` shows -/
  domState : BitVec 80 := BitVec.allOnes 80
  absent : BitVec 128 := 0
deriving DecidableEq, Repr, Inhabited

/-- The Bolov. -/
structure Bolov where
  /-- the tick counter (R124) -/
  tick : Tick := 0
  /-- the MODEL's own count of tick edges since reset, by which durations are measured -/
  up : Nat := 0
  /-- RW, W1C and EVT_RAW bits of every page, by address -/
  regs : FMap Word := []
  /-- counters by _LO address + copy × 2^24 -/
  counters : FMap Ctr := []
  /-- latched _MID and _HI parts by path and address, and written _LO halves that are held (R318) -/
  hostLatch : FMap Word := []
  coreLatch : FMap Word := []
  heldLo : FMap (Option Word) := []
  /-- pages that owe an IBI, and records lost since the last EVENT_LOG record (R322, R327) -/
  owed : List Nat := []
  logLost : Bool := false
  /-- the owed bin-overflow IBI: first bin and further overflows (R323) -/
  binIbi : Option (Nat × Nat) := none
  queues : Vector Queue 8 := Vector.replicate 8 {}
  i3c : I3cState := {}
  windows : Vector Window 6 := Vector.replicate 6 {}
  rmt : RmtState := {}
  time : TimeState := {}
  ptp : PtpState := {}
  ports : FMap PortState := []
  sort : SortState := {}
  notices : List Notice := []
  /-- every dead-time record issued, newest first, and when (R196, R176) -/
  issued : List (Nat × DtRec) := []
  lanes : Vector Lane 16 := Vector.replicate 16 {}
  trg : TrgState := {}
  rate : RateState := {}
  isu : Vector IsUnit 4 := Vector.replicate 4 {}
  pod : PodState := {}
  mere : MereState := {}
  tarn : TarnState := {}
  cmt : CommitState := {}
  pwr : PwrState := {}
  mon : MonState := {}
  grd : GuardState := {}
  sec : SecState := {}
  /-- the level of GATE_IN -/
  gateIn : Bool := false
deriving DecidableEq, Repr, Inhabited

end Sys2Proof.Machine
end

