-- ==== Sys2Proof/Machine/Map.lean ====
section
/-!
DEFINITION. The operations of sparse maps and of small sets of numbers kept as lists: every table, register page,
counter bank and memory of the set is read and written through these.
-/

namespace Sys2Proof.Machine

/-- The value at key `k`, `d` where none is listed. -/
def fget {α : Type} (d : α) : FMap α → Nat → α
  | [], _ => d
  | (k', v) :: m, k => if k = k' then v else fget d m k

/-- Insert or replace the entry at `k`, keeping the keys in rising order. -/
def finsert {α : Type} : FMap α → Nat → α → FMap α
  | [], k, v => [(k, v)]
  | (k', v') :: m, k, v =>
    if k < k' then (k, v) :: (k', v') :: m
    else if k = k' then (k, v) :: m
    else (k', v') :: finsert m k v

/-- Drop the entry at `k`. -/
def ferase {α : Type} (m : FMap α) (k : Nat) : FMap α := m.filter (fun e => e.1 != k)

/-- Write `v` at `k`: the entry leaves the list where `v` is the default `d`. -/
def fset {α : Type} [DecidableEq α] (d : α) (m : FMap α) (k : Nat) (v : α) : FMap α :=
  if v = d then ferase m k else finsert m k v

/-- Change the value at `k` by `f`. -/
def fmod {α : Type} [DecidableEq α] (d : α) (m : FMap α) (k : Nat) (f : α → α) : FMap α :=
  fset d m k (f (fget d m k))

/-- The canonical form: keys strictly rising and no default value listed. -/
def FMapWf {α : Type} [DecidableEq α] (d : α) (m : FMap α) : Prop :=
  (m.map Prod.fst).Pairwise (· < ·) ∧ ∀ e ∈ m, e.2 ≠ d

/-- The keys listed in a map. -/
def fkeys {α : Type} (m : FMap α) : List Nat := m.map Prod.fst

/-- Replace element `i` of a list; a list too short stays as it is. -/
def lset {α : Type} (l : List α) (i : Nat) (v : α) : List α := l.set i v

/-- Drop the first element that satisfies `p`. -/
def dropFirst {α : Type} (p : α → Bool) : List α → List α
  | [] => []
  | x :: l => if p x then l else x :: dropFirst p l

/-- Apply `f` for every `i` below `n`, in rising order. -/
def forUpTo {σ : Type} (n : Nat) (f : Nat → σ → σ) (s : σ) : σ :=
  (List.range n).foldl (fun acc i => f i acc) s

/-- Apply `f` for every element of a list, in order. -/
def forAll {α σ : Type} (l : List α) (f : α → σ → σ) (s : σ) : σ :=
  l.foldl (fun acc x => f x acc) s

/-- Apply `f` when the condition holds; otherwise nothing changes. -/
def whenDo {σ : Type} (c : Bool) (f : σ → σ) (s : σ) : σ := if c then f s else s

end Sys2Proof.Machine
end

