-- ==== Sys2Proof/Machine/Bits.lean ====
section
/-!
DEFINITION. Bit fields, the packing of words from their field maps (00 R4, R6 to R8), the order of ticks (07 R125) and
the check codes of the set: CRC-8 (R105), CRC-16 (R22, R107), CRC-32C (R180), CRC-32 (R188).
-/

namespace Sys2Proof.Machine

/-- Bits [hi:lo] of a number. -/
def bits (v hi lo : Nat) : Nat := v / 2 ^ lo % 2 ^ (hi + 1 - lo)

/-- Bit i of a number. -/
def bit (v i : Nat) : Bool := v.testBit i

/-- A Bool as a number. -/
def b2n (b : Bool) : Nat := if b then 1 else 0

/-- Put a field map together, most significant field first; each field is its width and its value. -/
def pack (fields : List (Nat × Nat)) : Nat := fields.foldl (fun acc f => acc * 2 ^ f.1 + f.2 % 2 ^ f.1) 0

/-- A 64-bit word from its field map. -/
def word64 (fields : List (Nat × Nat)) : W64 := BitVec.ofNat 64 (pack fields)

/-- A 32-bit word from its field map. -/
def word32 (fields : List (Nat × Nat)) : Word := BitVec.ofNat 32 (pack fields)

/-- Bits [hi:lo] of a register word. -/
def fld {n : Nat} (w : BitVec n) (hi lo : Nat) : Nat := bits w.toNat hi lo

/-- Replace bits [hi:lo] of a register word. -/
def setFld {n : Nat} (w : BitVec n) (hi lo v : Nat) : BitVec n :=
  let m := (2 ^ (hi + 1 - lo) - 1) * 2 ^ lo
  (w &&& ~~~ BitVec.ofNat n m) ||| (BitVec.ofNat n (v * 2 ^ lo) &&& BitVec.ofNat n m)

/-- Set one bit of a register word. -/
def setBit {n : Nat} (w : BitVec n) (i : Nat) (b : Bool) : BitVec n := setFld w i i (b2n b)

/-- Tick `a` is later than tick `b` (R125). -/
def later (a b : Tick) : Bool :=
  let d := (a - b).toNat
  decide (0 < d ∧ d < 2 ^ 47)

/-- Tick `a` is tick `b` or later. -/
def notBefore (a b : Tick) : Bool := a == b || later a b

/-- The difference of two ticks (R125). -/
def tickDiff (a b : Tick) : Nat := (a - b).toNat

/-- The earlier of two ticks (R125). -/
def earliest (a b : Tick) : Tick := if later a b then b else a

/-- The later of two ticks (R125). -/
def latest (a b : Tick) : Tick := if later a b then a else b

/-- The first tick at or after `t` that is a multiple of `m`, a power of two. -/
def alignUp (t : Tick) (m : Nat) : Tick := BitVec.ofNat 48 ((t.toNat + m - 1) / m * m)

/-- The tick rounded down to a multiple of `m`, a power of two. -/
def alignDown (t : Tick) (m : Nat) : Tick := BitVec.ofNat 48 (t.toNat / m * m)

/-- The tick in the window of `2 ^ w` ticks that starts at `start` whose low `w` bits are `low` (R76, R93). -/
def rebuild (start : Tick) (w : Nat) (low : Nat) : Tick :=
  start + BitVec.ofNat 48 ((low + 2 ^ w - start.toNat % 2 ^ w) % 2 ^ w)

/-- A signed value of `n` bits, saturated, as its two's-complement pattern. -/
def satSigned (n : Nat) (v : Int) : Nat :=
  let hi : Int := 2 ^ (n - 1) - 1
  let lo : Int := - 2 ^ (n - 1)
  let c := if v > hi then hi else if v < lo then lo else v
  (c % (2 ^ n : Int)).toNat

/-- A value saturated at ±(2^(n−1) − 1), as its two's-complement pattern of `n` bits (R130). -/
def satSymmetric (n : Nat) (v : Int) : Nat :=
  let hi : Int := 2 ^ (n - 1) - 1
  ((if v > hi then hi else if v < -hi then -hi else v) % (2 ^ n : Int)).toNat

/-- How far tick `a` lies after tick `b`, negative where it lies before it (R125). -/
def tickGap (a b : Tick) : Int := (a - b).toInt

/-- The signed value of a two's-complement pattern of `n` bits. -/
def signed (n v : Nat) : Int := if v % 2 ^ n ≥ 2 ^ (n - 1) then (v % 2 ^ n : Int) - 2 ^ n else (v % 2 ^ n : Int)

/-- A number capped at `m`. -/
def cap (m v : Nat) : Nat := if v > m then m else v

/-- ⌈a ÷ b⌉. -/
def ceilDiv (a b : Nat) : Nat := (a + b - 1) / b

/-- round(a ÷ b), halves up, of numbers that are not negative. -/
def roundDiv (a b : Nat) : Nat := (2 * a + b) / (2 * b)

/-- round(a ÷ b), halves up, with a signed dividend. -/
def roundDivI (a : Int) (b : Nat) : Int := (2 * a + b) / (2 * b)

/-- One bit through a CRC register of `w` bits, most significant bit first. -/
def crcBit (w poly : Nat) (crc : Nat) (b : Bool) : Nat :=
  let top := (crc.testBit (w - 1)) != b
  let sh := crc * 2 % 2 ^ w
  if top then sh ^^^ poly else sh

/-- A CRC over the `n` bits of a number, most significant bit first. -/
def crcNat (w poly init : Nat) (v n : Nat) : Nat :=
  (List.range n).foldl (fun c i => crcBit w poly c (v.testBit (n - 1 - i))) init

/-- CRC-8, polynomial 0x07, initial 0 (R105). -/
def crc8 (v n : Nat) : Nat := crcNat 8 0x07 0 v n

/-- CRC-16, polynomial 0x8BB7, initial 0xFFFF (R22, R107). -/
def crc16 (v n : Nat) : Nat := crcNat 16 0x8BB7 0xFFFF v n

/-- One bit through the reflected CRC-32C register. -/
def crc32cBit (crc : Nat) (b : Bool) : Nat :=
  let low := (crc.testBit 0) != b
  if low then crc / 2 ^^^ 0x82F63B78 else crc / 2

/-- One byte through the reflected CRC-32C register, least significant bit first. -/
def crc32cByte (crc byte : Nat) : Nat := (List.range 8).foldl (fun c i => crc32cBit c (byte.testBit i)) crc

/-- One byte through the reflected CRC-32 register of IEEE 802.3, least significant bit first. -/
def crc32Byte (crc byte : Nat) : Nat :=
  (List.range 8).foldl (fun c i => if (c.testBit 0) != byte.testBit i then c / 2 ^^^ 0xEDB88320 else c / 2) crc

/-- CRC-32 of IEEE 802.3 with the Ethernet parameters (R188). -/
def crc32 (l : List Nat) : Nat := (l.foldl crc32Byte 0xFFFFFFFF) ^^^ 0xFFFFFFFF

/-- The bytes of a number of `n` bytes, most significant first (R4). -/
def bytesOf (n v : Nat) : List Nat := (List.range n).map (fun i => v / 256 ^ (n - 1 - i) % 256)

/-- A number from its bytes, most significant first (R4). -/
def ofBytes (l : List Nat) : Nat := l.foldl (fun a b => a * 256 + b % 256) 0

/-- CRC-32C of a string of bytes: initial and final XOR 0xFFFF_FFFF, reflected. -/
def crc32c (l : List Nat) : Nat := (l.foldl crc32cByte 0xFFFFFFFF) ^^^ 0xFFFFFFFF

/-- ⌊√n⌋ by bisection on the bits of the root, `k` bits. -/
def isqrt (k n : Nat) : Nat :=
  (List.range k).foldl (fun r i => let c := r + 2 ^ (k - 1 - i); if c * c ≤ n then c else r) 0

end Sys2Proof.Machine
end

