-- ==== Sys2Proof/Machine/Operands.lean ====
section
/-!
DEFINITION. The operand forms of the set's words: the canonical hit and the hit record (01 R22, 05 R84, 08), uplink
control words and their payloads (05 R93, R100; 04 R76; 06 R105, R106), downlink frames and fast commands
(06 R107, R109, R110).
-/

namespace Sys2Proof.Machine

/-- The canonical hit (R22): 98 bits. -/
def canonicalHit (feId cell tick na nv tot stale pileup express : Nat) : Nat :=
  pack [(16, feId), (11, cell), (48, tick), (5, na), (6, nv), (9, tot), (1, stale), (1, pileup), (1, express)]

/-- The hit check (R22): CRC-16 over the canonical hit padded to 13 bytes with six zero bits in front. -/
def hitCheck (canonical : Nat) : Nat := crc16 canonical 104

/-- The types of an uplink word (R84, R94, R95, R105). -/
def tControl : Nat := 0
def tHit : Nat := 1
def tPoisoned : Nat := 2
def tTerminator : Nat := 3

/-- Word 0 of a tile queue record (R84), from a latched record and its cell; the offset is zero until the framer. -/
def queueWord0 (r : LatchRec) (cell : Nat) : W64 :=
  let c := canonicalHit r.feId.toNat cell r.tick.toNat r.na.toNat r.nv.toNat r.tot.toNat
    (b2n r.stale) (b2n r.pileup) (b2n r.express)
  word64 [(2, tHit), (11, cell), (12, 0), (5, r.na.toNat), (6, r.nv.toNat), (9, r.tot.toNat),
    (1, b2n r.stale), (1, b2n r.pileup), (1, b2n r.express), (16, hitCheck c)]

/-- Word 1 of a tile queue record (R84). -/
def queueWord1 (r : LatchRec) : W64 := word64 [(16, 0), (48, r.tick.toNat)]

/-- Even parity over the bits of a word: the bit that makes the number of ones even (R84). -/
def parityOf (w : W64) : Bool := (List.range 64).foldl (fun p i => p != w.toNat.testBit i) false

/-- A control word (R105). -/
def controlWord (subtype payload : Nat) : W64 :=
  let body := pack [(2, tControl), (6, subtype), (48, payload)]
  word64 [(56, body), (8, crc8 body 56)]

/-- The subtypes of R100. -/
def sIdle : Nat := 0x00
def sHeader : Nat := 0x01
def sHorizon : Nat := 0x02
def sResponse : Nat := 0x03
def sEcho : Nat := 0x04
def sCal : Nat := 0x05
def sStatus : Nat := 0x06
def sDeadTime : Nat := 0x07

/-- The check of a control word holds (R105). -/
def controlOk (w : W64) : Bool := crc8 (w.toNat / 256) 56 == w.toNat % 256

/-- The payload of a status word (R106). -/
def statusPayload (code a b : Nat) : Nat := pack [(8, code), (8, a), (32, b)]

/-- The payload of a register response (R106): tag, result and data. -/
def responsePayload (tag result data : Nat) : Nat := pack [(8, tag), (2, result), (6, 0), (32, data)]

/-- The payload of an echo reply (R106). -/
def echoPayload (tag downlink lag : Nat) : Nat := pack [(8, tag), (1, downlink), (7, 0), (12, 0), (20, lag)]

/-- The payload of a dead-time report (R93). -/
def deadTimePayload (cause tile count length start : Nat) : Nat :=
  pack [(2, cause), (5, tile), (13, cap 8191 count), (12, length), (16, start)]

/-- The payload of a run-start word (R76). -/
def runStartPayload (tile cause seq s : Nat) : Nat :=
  pack [(2, 0), (5, tile), (6, 0), (2, cause), (7, seq), (6, 0), (20, s)]

/-- The payload of a run report (R76). -/
def runReportPayload (tile outcome seq s : Nat) : Nat :=
  pack [(2, 1), (5, tile), (3, outcome), (3, 0), (2, 0), (7, seq), (6, 0), (20, s)]

/-- The payload of a cell result (R76): `diff` is cb − ca, saturating. -/
def cellResultPayload (tile cell status ca cb : Nat) : Nat :=
  pack [(2, 2), (5, tile), (6, cell), (2, status), (19, ca), (14, satSigned 14 ((cb : Int) - ca))]

/-- A downlink frame before scrambling (R107). -/
def downFrame (ready phase : Bool) (fast payload : Nat) : BitVec 128 :=
  let body := pack [(2, 2), (1, b2n ready), (1, b2n phase), (12, fast), (96, payload)]
  BitVec.ofNat 128 (pack [(112, body), (16, crc16 body 112)])

/-- The CRC of a downlink frame holds (R107). -/
def frameCrcOk (f : BitVec 128) : Bool := crc16 (f.toNat / 2 ^ 16) 112 == f.toNat % 2 ^ 16

/-- The opcodes of the fast commands (R109). -/
def fNop : Nat := 0x0
def fTickSync : Nat := 0x1
def fCommit : Nat := 0x2
def fCalStart : Nat := 0x3
def fTestPulse : Nat := 0x4
def fFlush : Nat := 0x5
def fLease : Nat := 0x6
def fEcho : Nat := 0x7
def fResetTile : Nat := 0x8
def fConfig : Nat := 0x9

/-- A fast-command field: opcode and argument (R109). -/
def fastField (op arg : Nat) : Nat := pack [(4, op), (8, arg)]

/-- The payload of a fast command that names a tick in [111:64] of the frame (R109). -/
def payloadTick (t : Nat) : Nat := pack [(48, t), (48, 0)]

/-- The payload of a fast command that carries a tile mask in [111:80]. -/
def payloadTiles (m : Nat) : Nat := pack [(32, m), (64, 0)]

/-- The payload of a LEASE command: the claimant's lease ID in [111:96]. -/
def payloadLease (id : Nat) : Nat := pack [(16, id), (80, 0)]

/-- The payload of a CONFIG transaction (R110): operation 1 writes, 2 reads. -/
def payloadConfig (tag op addr data : Nat) : Nat :=
  pack [(8, tag), (2, op), (2, 0), (16, addr), (4, 0), (32, data), (32, 0)]

end Sys2Proof.Machine
end

