-- ==== Sys2Proof/Machine/RegMap.lean ====
section
/-!
DEFINITION. The register maps of both chips, page by page, from the field maps of the spec (02 R44, 03 R63, 04 R81,
05 R101, 06 R120 and R121, 07 R143 and R144, 08 R168, 09 R190, 10 R209 and R210, 11 R223, 12 R244, 13 R259, 14 R279,
15 R296, 16 R312, 17 R321 to R333, 18 R346 and R347, 19 R363 and R364, 20 R377 and R378). A row gives a register's
offset, how often it repeats and at what stride, the mask of its RW fields, the masks of its W1C and WO fields, its reset
value, the mask of its fields whose Applies column reads commit, what part of a LO/MID/HI value it is, and which
selection register chooses among its copies. A field "id" of the spec (from the unit identity or from straps) has
reset 0 here and is read from its own piece of state.
-/

namespace Sys2Proof.Machine

/-- What part of a value a register is: a register of its own, a part of a wide value, or half of a counter. -/
inductive RegKind where
  | plain | lo | mid | hi | ctrLo | ctrHi
deriving DecidableEq, Repr

/-- Which selection register chooses the copy (`SORT_PORT_SEL`, `OUT_LANE_SEL`, `RATE_DT_SEL`, `MERE_SEL`). -/
inductive RegSel where
  | none | port | lane | cause | unit
deriving DecidableEq, Repr

/-- One row of a register page (R6 to R9). -/
structure RegRow where
  off : Nat
  count : Nat
  stride : Nat
  rw : Nat
  w1c : Nat
  wo : Nat
  reset : Nat
  commit : Nat
  kind : RegKind
  sel : RegSel
deriving DecidableEq, Repr

/-- The FE page (02 R44). -/
def jilekFeRows : List RegRow := [
  ⟨0x000, 1, 0x0, 0x3FF, 0x0, 0x0, 0x3FF, 0x3FF, .plain, .none⟩,
  ⟨0x004, 1, 0x0, 0x3FF, 0x0, 0x0, 0x0, 0x3FF, .plain, .none⟩,
  ⟨0x008, 1, 0x0, 0x3F, 0x0, 0x0, 0x0, 0x3F, .plain, .none⟩,
  ⟨0x00C, 1, 0x0, 0x17, 0x0, 0x60, 0x17, 0x0, .plain, .none⟩,
  ⟨0x010, 1, 0x0, 0x7FF, 0x0, 0x0, 0x0, 0x0, .plain, .none⟩,
  ⟨0x014, 1, 0x0, 0x3FF, 0x0, 0x0, 0x40, 0x3FF, .plain, .none⟩,
  ⟨0x018, 1, 0x0, 0x0, 0x0, 0x0, 0x0, 0x0, .plain, .none⟩,
  ⟨0x100, 32, 0x8, 0x0, 0x0, 0x0, 0x0, 0x0, .ctrLo, .none⟩,
  ⟨0x104, 32, 0x8, 0x0, 0x0, 0x0, 0x0, 0x0, .ctrHi, .none⟩]

/-- The VN page (03 R63). -/
def jilekVnRows : List RegRow := [
  ⟨0x000, 1, 0x0, 0x0, 0x0, 0x0, 0x0, 0x0, .ctrLo, .none⟩,
  ⟨0x004, 1, 0x0, 0x0, 0x0, 0x0, 0x0, 0x0, .ctrHi, .none⟩,
  ⟨0x008, 1, 0x0, 0x0, 0x80000000, 0x0, 0x0, 0x0, .plain, .none⟩,
  ⟨0x00C, 1, 0x0, 0x0, 0x0, 0x1, 0x0, 0x0, .plain, .none⟩]

/-- The CAL page (04 R81). -/
def jilekCalRows : List RegRow := [
  ⟨0x000, 1, 0x0, 0x7FF306, 0x0, 0x0, 0x718006, 0x0, .plain, .none⟩,
  ⟨0x010, 1, 0x0, 0x7FF, 0x0, 0x0, 0x0, 0x0, .plain, .none⟩,
  ⟨0x014, 1, 0x0, 0x0, 0x0, 0x0, 0x3E5FF97F, 0x0, .plain, .none⟩,
  ⟨0x100, 32, 0x8, 0x0, 0x0, 0x0, 0x80080000, 0x0, .plain, .none⟩,
  ⟨0x104, 32, 0x8, 0x0, 0x0, 0x0, 0x0, 0x0, .plain, .none⟩]

/-- The TP page (05 R101). -/
def jilekTpRows : List RegRow := [
  ⟨0x000, 1, 0x0, 0x1, 0x0, 0x2, 0x0, 0x0, .plain, .none⟩,
  ⟨0x004, 1, 0x0, 0xFFFFFFFF, 0x0, 0x0, 0xFFFF0000, 0x0, .plain, .none⟩,
  ⟨0x008, 1, 0x0, 0xFFFF, 0x0, 0x0, 0x0, 0xFFFF, .plain, .none⟩,
  ⟨0x00C, 1, 0x0, 0x1F, 0x0, 0x0, 0x10, 0x0, .plain, .none⟩,
  ⟨0x010, 1, 0x0, 0x0, 0x0, 0xFFFFFFFF, 0x0, 0x0, .plain, .none⟩,
  ⟨0x014, 1, 0x0, 0x0, 0x0, 0x0, 0x0, 0x0, .plain, .none⟩,
  ⟨0x018, 1, 0x0, 0x0, 0x0, 0x0, 0x0, 0x0, .ctrLo, .none⟩,
  ⟨0x01C, 1, 0x0, 0x0, 0x0, 0x0, 0x0, 0x0, .ctrHi, .none⟩,
  ⟨0x020, 1, 0x0, 0x0, 0x0, 0x0, 0x0, 0x0, .ctrLo, .none⟩,
  ⟨0x024, 1, 0x0, 0x0, 0x0, 0x0, 0x0, 0x0, .ctrHi, .none⟩,
  ⟨0x028, 1, 0x0, 0x0, 0x0, 0x0, 0x0, 0x0, .ctrLo, .none⟩,
  ⟨0x02C, 1, 0x0, 0x0, 0x0, 0x0, 0x0, 0x0, .ctrHi, .none⟩,
  ⟨0x030, 1, 0x0, 0x0, 0x0, 0x0, 0x0, 0x0, .plain, .none⟩,
  ⟨0x100, 32, 0x10, 0x0, 0x0, 0x0, 0x0, 0x0, .plain, .none⟩,
  ⟨0x104, 32, 0x10, 0x0, 0x0, 0x0, 0x0, 0x0, .plain, .none⟩,
  ⟨0x108, 32, 0x10, 0x0, 0x0, 0x0, 0x0, 0x0, .ctrLo, .none⟩,
  ⟨0x10C, 32, 0x10, 0x0, 0x0, 0x0, 0x0, 0x0, .ctrHi, .none⟩]

/-- The LK page (06 R120). -/
def jilekLkRows : List RegRow := [
  ⟨0x000, 1, 0x0, 0x3, 0x0, 0x4, 0x3, 0x0, .plain, .none⟩,
  ⟨0x004, 1, 0x0, 0x0, 0x0, 0x0, 0x0, 0x0, .plain, .none⟩,
  ⟨0x008, 2, 0x4, 0x1FFFFF, 0x0, 0x0, 0x0, 0x0, .plain, .none⟩,
  ⟨0x010, 1, 0x0, 0x0, 0x0, 0x0, 0x0, 0x0, .plain, .none⟩,
  ⟨0x014, 2, 0x4, 0x3FFC0000, 0x0, 0x80000000, 0x0, 0x0, .plain, .none⟩,
  ⟨0x020, 2, 0x8, 0x0, 0x0, 0x0, 0x0, 0x0, .ctrLo, .none⟩,
  ⟨0x024, 2, 0x8, 0x0, 0x0, 0x0, 0x0, 0x0, .ctrHi, .none⟩,
  ⟨0x030, 1, 0x0, 0x0, 0x0, 0x0, 0x0, 0x0, .ctrLo, .none⟩,
  ⟨0x034, 1, 0x0, 0x0, 0x0, 0x0, 0x0, 0x0, .ctrHi, .none⟩]

/-- The CM page (18 R347). -/
def jilekCmRows : List RegRow := [
  ⟨0x000, 1, 0x0, 0x0, 0x0, 0x0, 0x0, 0x0, .plain, .none⟩,
  ⟨0x004, 1, 0x0, 0x0, 0x0, 0x0, 0x0, 0x0, .lo, .none⟩,
  ⟨0x008, 1, 0x0, 0x0, 0x0, 0x0, 0x0, 0x0, .hi, .none⟩,
  ⟨0x00C, 1, 0x0, 0x0, 0x0, 0x0, 0x0, 0x0, .lo, .none⟩,
  ⟨0x010, 1, 0x0, 0x0, 0x0, 0x0, 0x0, 0x0, .hi, .none⟩]

/-- The JID page (19 R364). -/
def jilekJidRows : List RegRow := [
  ⟨0x000, 1, 0x0, 0x0, 0x0, 0x0, 0x0, 0x0, .lo, .none⟩,
  ⟨0x004, 1, 0x0, 0x0, 0x0, 0x0, 0x0, 0x0, .hi, .none⟩,
  ⟨0x008, 1, 0x0, 0x0, 0x0, 0x0, 0x0, 0x0, .plain, .none⟩]

/-- The JPW page (20 R378). -/
def jilekJpwRows : List RegRow := [
  ⟨0x000, 1, 0x0, 0xFFFFFFFF, 0x0, 0x0, 0xFFFFFFFF, 0x0, .plain, .none⟩,
  ⟨0x004, 1, 0x0, 0x10F, 0x0, 0x0, 0x10F, 0x0, .plain, .none⟩,
  ⟨0x008, 1, 0x0, 0x0, 0x0, 0x0, 0x0, 0x0, .plain, .none⟩]

/-- The GLB page (17 R324). -/
def bolovGlbRows : List RegRow := [
  ⟨0x020, 1, 0x0, 0x0, 0x0, 0x80000000, 0x0, 0x0, .plain, .none⟩,
  ⟨0x024, 1, 0x0, 0x0, 0x0, 0x0, 0x0, 0x0, .plain, .none⟩,
  ⟨0x028, 1, 0x0, 0xFFFFFFFF, 0x0, 0x0, 0x0, 0x0, .plain, .none⟩,
  ⟨0x030, 1, 0x0, 0x0, 0x0, 0x0, 0x0, 0x0, .ctrLo, .none⟩,
  ⟨0x034, 1, 0x0, 0x0, 0x0, 0x0, 0x0, 0x0, .ctrHi, .none⟩,
  ⟨0x038, 1, 0x0, 0x0, 0x0, 0x0, 0x0, 0x0, .ctrLo, .none⟩,
  ⟨0x03C, 1, 0x0, 0x0, 0x0, 0x0, 0x0, 0x0, .ctrHi, .none⟩]

/-- The ID page (19 R363). -/
def bolovIdRows : List RegRow := [
  ⟨0x020, 1, 0x0, 0x0, 0x0, 0x0, 0x0, 0x0, .lo, .none⟩,
  ⟨0x024, 1, 0x0, 0x0, 0x0, 0x0, 0x0, 0x0, .hi, .none⟩,
  ⟨0x028, 1, 0x0, 0x7F, 0x0, 0x0, 0x0, 0x0, .plain, .none⟩,
  ⟨0x02C, 1, 0x0, 0x0, 0x0, 0x0, 0x0, 0x0, .plain, .none⟩,
  ⟨0x030, 1, 0x0, 0x0, 0x0, 0x0, 0x0, 0x0, .lo, .none⟩,
  ⟨0x034, 1, 0x0, 0x0, 0x0, 0x0, 0x0, 0x0, .hi, .none⟩]

/-- The PWR page (20 R377). -/
def bolovPwrRows : List RegRow := [
  ⟨0x020, 1, 0x0, 0x0, 0x40000000, 0x0, 0x0, 0x0, .plain, .none⟩,
  ⟨0x024, 1, 0x0, 0xFFFFFFFF, 0x0, 0x0, 0xFFFFFFFF, 0x0, .plain, .none⟩,
  ⟨0x028, 1, 0x0, 0xFFFFFFFF, 0x0, 0x0, 0xFFFFFFFF, 0x0, .plain, .none⟩,
  ⟨0x02C, 1, 0x0, 0xFFFF, 0x0, 0x0, 0xFFFF, 0x0, .plain, .none⟩,
  ⟨0x030, 1, 0x0, 0x0, 0x0, 0x0, 0xFFFFFFFF, 0x0, .plain, .none⟩,
  ⟨0x034, 1, 0x0, 0x0, 0x0, 0x0, 0xFFFFFFFF, 0x0, .plain, .none⟩,
  ⟨0x038, 1, 0x0, 0x0, 0x0, 0x0, 0xFFFF, 0x0, .plain, .none⟩,
  ⟨0x03C, 1, 0x0, 0x0, 0x0, 0x0, 0x0, 0x0, .plain, .none⟩,
  ⟨0x040, 1, 0x0, 0x0, 0x0, 0x0, 0x0, 0x0, .plain, .none⟩,
  ⟨0x048, 4, 0x4, 0x0, 0x0, 0x0, 0x0, 0x0, .plain, .none⟩]

/-- The TM page (07 R143). -/
def bolovTmRows : List RegRow := [
  ⟨0x020, 1, 0x0, 0xF000703, 0x0, 0xE0000000, 0x4000700, 0x0, .plain, .none⟩,
  ⟨0x024, 1, 0x0, 0x0, 0x7000000, 0x0, 0x10000000, 0x0, .plain, .none⟩,
  ⟨0x028, 1, 0x0, 0xFFFFFF, 0x0, 0x0, 0x20000, 0x0, .plain, .none⟩,
  ⟨0x02C, 1, 0x0, 0xFFFFFF, 0x0, 0x0, 0x2000, 0x0, .plain, .none⟩,
  ⟨0x030, 1, 0x0, 0xFFFFFFFF, 0x0, 0x0, 0x3E8, 0x0, .plain, .none⟩,
  ⟨0x034, 1, 0x0, 0xFFFF, 0x0, 0x0, 0x400, 0x0, .plain, .none⟩,
  ⟨0x038, 1, 0x0, 0xFFFFFFFF, 0x0, 0x0, 0x20000000, 0x0, .lo, .none⟩,
  ⟨0x03C, 1, 0x0, 0xFF, 0x0, 0x0, 0x3, 0x0, .hi, .none⟩,
  ⟨0x040, 1, 0x0, 0x0, 0x0, 0x0, 0x20000000, 0x0, .lo, .none⟩,
  ⟨0x044, 1, 0x0, 0x0, 0x0, 0x0, 0x3, 0x0, .hi, .none⟩,
  ⟨0x048, 1, 0x0, 0x0, 0x0, 0x0, 0x0, 0x0, .lo, .none⟩,
  ⟨0x04C, 1, 0x0, 0x0, 0x0, 0x0, 0x0, 0x0, .hi, .none⟩,
  ⟨0x050, 1, 0x0, 0x0, 0x0, 0x0, 0x0, 0x0, .plain, .none⟩,
  ⟨0x054, 1, 0x0, 0x0, 0x0, 0x0, 0x0, 0x0, .plain, .none⟩,
  ⟨0x058, 1, 0x0, 0xFFFFFFFF, 0x0, 0x0, 0x0, 0x0, .plain, .none⟩,
  ⟨0x05C, 1, 0x0, 0x80FFFFFF, 0x0, 0x0, 0x640000, 0x0, .plain, .none⟩,
  ⟨0x060, 1, 0x0, 0xFFFFFFFF, 0x0, 0x0, 0x0, 0x0, .lo, .none⟩,
  ⟨0x064, 1, 0x0, 0xFFFFFFFF, 0x0, 0x0, 0x0, 0x0, .hi, .none⟩,
  ⟨0x068, 1, 0x0, 0xFFFFFFFF, 0x0, 0x0, 0x0, 0x0, .lo, .none⟩,
  ⟨0x06C, 1, 0x0, 0xFFFFFFFF, 0x0, 0x0, 0x0, 0x0, .hi, .none⟩,
  ⟨0x070, 1, 0x0, 0x3FFFFFFF, 0x0, 0x0, 0x0, 0x0, .plain, .none⟩,
  ⟨0x078, 1, 0x0, 0x0, 0x0, 0x0, 0x0, 0x0, .lo, .none⟩,
  ⟨0x07C, 1, 0x0, 0x0, 0x0, 0x0, 0x0, 0x0, .hi, .none⟩,
  ⟨0x080, 1, 0x0, 0xFFFFFFFF, 0x0, 0x0, 0x0, 0x0, .lo, .none⟩,
  ⟨0x084, 1, 0x0, 0xFFFF, 0x0, 0x0, 0x0, 0x0, .hi, .none⟩,
  ⟨0x088, 1, 0x0, 0x0, 0x0, 0x0, 0x0, 0x0, .lo, .none⟩,
  ⟨0x08C, 1, 0x0, 0x0, 0x0, 0x0, 0x0, 0x0, .hi, .none⟩,
  ⟨0x090, 1, 0x0, 0x0, 0x0, 0x0, 0x0, 0x0, .lo, .none⟩,
  ⟨0x094, 1, 0x0, 0x0, 0x0, 0x0, 0x0, 0x0, .hi, .none⟩,
  ⟨0x098, 1, 0x0, 0x0, 0x0, 0x0, 0x0, 0x0, .plain, .none⟩,
  ⟨0x09C, 1, 0x0, 0x0, 0x0, 0x0, 0x0, 0x0, .plain, .none⟩,
  ⟨0x0A0, 1, 0x0, 0x0, 0x0, 0x0, 0x0, 0x0, .plain, .none⟩]

/-- The PTP page (07 R144). -/
def bolovPtpRows : List RegRow := [
  ⟨0x020, 1, 0x0, 0xFFF300, 0x0, 0x80000000, 0x3000, 0x0, .plain, .none⟩,
  ⟨0x028, 1, 0x0, 0xFFFFFFFF, 0x0, 0x0, 0x0, 0x0, .lo, .none⟩,
  ⟨0x02C, 1, 0x0, 0xFFFFFFFF, 0x0, 0x0, 0x0, 0x0, .hi, .none⟩,
  ⟨0x030, 1, 0x0, 0xFFFF, 0x0, 0x0, 0x0, 0x0, .plain, .none⟩,
  ⟨0x034, 1, 0x0, 0xFFFFFFFF, 0x0, 0x0, 0x0, 0x0, .plain, .none⟩,
  ⟨0x038, 1, 0x0, 0x0, 0x0, 0x0, 0x0, 0x0, .plain, .none⟩,
  ⟨0x03C, 1, 0x0, 0xFFFFFFFF, 0x0, 0x0, 0x0, 0x0, .plain, .none⟩,
  ⟨0x040, 1, 0x0, 0x0, 0x0, 0x0, 0x0, 0x0, .lo, .none⟩,
  ⟨0x044, 1, 0x0, 0x0, 0x0, 0x0, 0x0, 0x0, .hi, .none⟩,
  ⟨0x048, 1, 0x0, 0x0, 0x0, 0x0, 0x0, 0x0, .ctrLo, .none⟩,
  ⟨0x04C, 1, 0x0, 0x0, 0x0, 0x0, 0x0, 0x0, .ctrHi, .none⟩]

/-- The SORT page (08 R168). -/
def bolovSortRows : List RegRow := [
  ⟨0x020, 1, 0x0, 0x5, 0x0, 0xC0000000, 0x4, 0x0, .plain, .none⟩,
  ⟨0x024, 1, 0x0, 0x0, 0x34000000, 0x0, 0x0, 0x0, .plain, .none⟩,
  ⟨0x028, 1, 0x0, 0x3F8, 0x0, 0x0, 0x20, 0x0, .plain, .none⟩,
  ⟨0x02C, 1, 0x0, 0xFF, 0x0, 0x0, 0x40, 0x0, .plain, .none⟩,
  ⟨0x030, 1, 0x0, 0xFFFFFFFF, 0x0, 0x0, 0x0, 0x0, .lo, .none⟩,
  ⟨0x034, 1, 0x0, 0xFFFF, 0x0, 0x0, 0x0, 0x0, .hi, .none⟩,
  ⟨0x038, 1, 0x0, 0x0, 0x0, 0x0, 0x0, 0x0, .lo, .none⟩,
  ⟨0x03C, 1, 0x0, 0x0, 0x0, 0x0, 0x0, 0x0, .hi, .none⟩,
  ⟨0x040, 1, 0x0, 0x0, 0x0, 0x0, 0x0, 0x0, .lo, .none⟩,
  ⟨0x044, 1, 0x0, 0x0, 0x0, 0x0, 0x0, 0x0, .hi, .none⟩,
  ⟨0x048, 1, 0x0, 0x0, 0x0, 0x0, 0x0, 0x0, .plain, .none⟩,
  ⟨0x04C, 1, 0x0, 0x0, 0x0, 0x0, 0x0, 0x0, .plain, .none⟩,
  ⟨0x050, 1, 0x0, 0x0, 0x0, 0x0, 0x0, 0x0, .ctrLo, .none⟩,
  ⟨0x054, 1, 0x0, 0x0, 0x0, 0x0, 0x0, 0x0, .ctrHi, .none⟩,
  ⟨0x058, 1, 0x0, 0x0, 0x0, 0x0, 0x0, 0x0, .ctrLo, .none⟩,
  ⟨0x05C, 1, 0x0, 0x0, 0x0, 0x0, 0x0, 0x0, .ctrHi, .none⟩,
  ⟨0x060, 1, 0x0, 0x0, 0x0, 0x0, 0x0, 0x0, .ctrLo, .none⟩,
  ⟨0x064, 1, 0x0, 0x0, 0x0, 0x0, 0x0, 0x0, .ctrHi, .none⟩,
  ⟨0x068, 1, 0x0, 0x0, 0x0, 0x0, 0x0, 0x0, .ctrLo, .none⟩,
  ⟨0x06C, 1, 0x0, 0x0, 0x0, 0x0, 0x0, 0x0, .ctrHi, .none⟩,
  ⟨0x070, 1, 0x0, 0x0, 0x0, 0x0, 0x0, 0x0, .plain, .none⟩,
  ⟨0x074, 1, 0x0, 0x0, 0x80000000, 0x0, 0x0, 0x0, .plain, .none⟩,
  ⟨0x100, 1, 0x0, 0x7F, 0x0, 0x0, 0x0, 0x0, .plain, .none⟩,
  ⟨0x108, 1, 0x0, 0x0, 0x0, 0x0, 0x0, 0x0, .ctrLo, .port⟩,
  ⟨0x10C, 1, 0x0, 0x0, 0x0, 0x0, 0x0, 0x0, .ctrHi, .port⟩,
  ⟨0x110, 1, 0x0, 0x0, 0x0, 0x0, 0x0, 0x0, .ctrLo, .port⟩,
  ⟨0x114, 1, 0x0, 0x0, 0x0, 0x0, 0x0, 0x0, .ctrHi, .port⟩,
  ⟨0x118, 1, 0x0, 0x0, 0x0, 0x0, 0x0, 0x0, .ctrLo, .port⟩,
  ⟨0x11C, 1, 0x0, 0x0, 0x0, 0x0, 0x0, 0x0, .ctrHi, .port⟩,
  ⟨0x120, 1, 0x0, 0x0, 0x0, 0x0, 0x0, 0x0, .ctrLo, .port⟩,
  ⟨0x124, 1, 0x0, 0x0, 0x0, 0x0, 0x0, 0x0, .ctrHi, .port⟩,
  ⟨0x128, 1, 0x0, 0x0, 0x0, 0x0, 0x0, 0x0, .ctrLo, .port⟩,
  ⟨0x12C, 1, 0x0, 0x0, 0x0, 0x0, 0x0, 0x0, .ctrHi, .port⟩,
  ⟨0x130, 1, 0x0, 0x0, 0x0, 0x0, 0x0, 0x0, .ctrLo, .port⟩,
  ⟨0x134, 1, 0x0, 0x0, 0x0, 0x0, 0x0, 0x0, .ctrHi, .port⟩,
  ⟨0x138, 1, 0x0, 0x0, 0x0, 0x0, 0x0, 0x0, .ctrLo, .port⟩,
  ⟨0x13C, 1, 0x0, 0x0, 0x0, 0x0, 0x0, 0x0, .ctrHi, .port⟩]

/-- The OUT page (09 R190). -/
def bolovOutRows : List RegRow := [
  ⟨0x020, 1, 0x0, 0x3, 0x0, 0x80000000, 0x1, 0x1, .plain, .none⟩,
  ⟨0x024, 1, 0x0, 0x0, 0x80000000, 0x0, 0x0, 0x0, .plain, .none⟩,
  ⟨0x028, 1, 0x0, 0xFFFF, 0x0, 0x0, 0x0, 0xFFFF, .plain, .none⟩,
  ⟨0x02C, 1, 0x0, 0x0, 0x0, 0x0, 0x0, 0x0, .plain, .none⟩,
  ⟨0x030, 1, 0x0, 0x8000000F, 0x0, 0x0, 0x80000000, 0x0, .plain, .none⟩,
  ⟨0x034, 1, 0x0, 0xFFFF, 0x0, 0x0, 0x0, 0xFFFF, .plain, .none⟩,
  ⟨0x038, 1, 0x0, 0x1F, 0x0, 0x0, 0x10, 0x0, .plain, .none⟩,
  ⟨0x03C, 1, 0x0, 0x1FFFFF, 0x0, 0x0, 0x199A, 0x0, .plain, .none⟩,
  ⟨0x040, 1, 0x0, 0xFFFF, 0x0, 0x0, 0x400, 0x0, .plain, .none⟩,
  ⟨0x100, 1, 0x0, 0xF, 0x0, 0x0, 0x0, 0x0, .plain, .none⟩,
  ⟨0x108, 1, 0x0, 0x0, 0x0, 0x0, 0x0, 0x0, .ctrLo, .lane⟩,
  ⟨0x10C, 1, 0x0, 0x0, 0x0, 0x0, 0x0, 0x0, .ctrHi, .lane⟩,
  ⟨0x110, 1, 0x0, 0x0, 0x0, 0x0, 0x0, 0x0, .ctrLo, .lane⟩,
  ⟨0x114, 1, 0x0, 0x0, 0x0, 0x0, 0x0, 0x0, .ctrHi, .lane⟩,
  ⟨0x118, 1, 0x0, 0x0, 0x0, 0x0, 0x0, 0x0, .ctrLo, .lane⟩,
  ⟨0x11C, 1, 0x0, 0x0, 0x0, 0x0, 0x0, 0x0, .ctrHi, .lane⟩,
  ⟨0x120, 1, 0x0, 0x0, 0x0, 0x0, 0x0, 0x0, .ctrLo, .lane⟩,
  ⟨0x124, 1, 0x0, 0x0, 0x0, 0x0, 0x0, 0x0, .ctrHi, .lane⟩,
  ⟨0x128, 1, 0x0, 0x0, 0x0, 0x0, 0x0, 0x0, .ctrLo, .lane⟩,
  ⟨0x12C, 1, 0x0, 0x0, 0x0, 0x0, 0x0, 0x0, .ctrHi, .lane⟩]

/-- The TRG page (10 R209). -/
def bolovTrgRows : List RegRow := [
  ⟨0x020, 1, 0x0, 0x20000000, 0x0, 0xC0000000, 0x0, 0x0, .plain, .none⟩,
  ⟨0x024, 1, 0x0, 0x0, 0x0, 0x0, 0x0, 0x0, .plain, .none⟩,
  ⟨0x100, 6, 0x20, 0xF0FFFFFF, 0x0, 0x0, 0x40010, 0x0, .plain, .none⟩,
  ⟨0x104, 4, 0x20, 0xFFF00FF, 0x0, 0x0, 0x3E80014, 0x0, .plain, .none⟩,
  ⟨0x108, 4, 0x20, 0xFFFFFFFF, 0x0, 0x0, 0x0, 0x0, .plain, .none⟩,
  ⟨0x110, 6, 0x20, 0x0, 0x0, 0x0, 0x0, 0x0, .ctrLo, .none⟩,
  ⟨0x114, 6, 0x20, 0x0, 0x0, 0x0, 0x0, 0x0, .ctrHi, .none⟩]

/-- The RATE page (10 R210). -/
def bolovRateRows : List RegRow := [
  ⟨0x020, 1, 0x0, 0x3D, 0x0, 0x80000000, 0x31, 0x0, .plain, .none⟩,
  ⟨0x024, 1, 0x0, 0x0, 0x0, 0x0, 0x0, 0x0, .plain, .none⟩,
  ⟨0x028, 1, 0x0, 0xFF, 0x0, 0x0, 0x10, 0x0, .plain, .none⟩,
  ⟨0x02C, 1, 0x0, 0xFF, 0x0, 0x0, 0x10, 0x0, .plain, .none⟩,
  ⟨0x030, 1, 0x0, 0xFFFF, 0x0, 0x0, 0x0, 0xFFFF, .plain, .none⟩,
  ⟨0x034, 1, 0x0, 0x0, 0x0, 0x0, 0x0, 0x0, .plain, .none⟩,
  ⟨0x040, 1, 0x0, 0xFFFFFFFF, 0x0, 0x0, 0x50004000, 0x0, .plain, .none⟩,
  ⟨0x044, 1, 0x0, 0xFFFFFFFF, 0x0, 0x0, 0x20001800, 0x0, .plain, .none⟩,
  ⟨0x048, 1, 0x0, 0xFFFFFFFF, 0x0, 0x0, 0x68005800, 0x0, .plain, .none⟩,
  ⟨0x04C, 1, 0x0, 0xFFFFFFFF, 0x0, 0x0, 0x30002800, 0x0, .plain, .none⟩,
  ⟨0x050, 1, 0x0, 0xFFFFFFFF, 0x0, 0x0, 0x80007000, 0x0, .plain, .none⟩,
  ⟨0x054, 1, 0x0, 0xFFFFFFFF, 0x0, 0x0, 0x40003800, 0x0, .plain, .none⟩,
  ⟨0x060, 8, 0x4, 0xFFFFFFFF, 0x0, 0x0, 0xFFFFFFFF, 0x0, .plain, .none⟩,
  ⟨0x080, 1, 0x0, 0x0, 0x0, 0x0, 0x0, 0x0, .plain, .none⟩,
  ⟨0x084, 1, 0x0, 0x7, 0x0, 0x0, 0x0, 0x0, .plain, .none⟩,
  ⟨0x088, 1, 0x0, 0x0, 0x0, 0x0, 0x0, 0x0, .ctrLo, .cause⟩,
  ⟨0x08C, 1, 0x0, 0x0, 0x0, 0x0, 0x0, 0x0, .ctrHi, .cause⟩,
  ⟨0x090, 1, 0x0, 0x0, 0x0, 0x0, 0x0, 0x0, .ctrLo, .cause⟩,
  ⟨0x094, 1, 0x0, 0x0, 0x0, 0x0, 0x0, 0x0, .ctrHi, .cause⟩,
  ⟨0x098, 1, 0x0, 0x0, 0x0, 0x0, 0x0, 0x0, .ctrLo, .none⟩,
  ⟨0x09C, 1, 0x0, 0x0, 0x0, 0x0, 0x0, 0x0, .ctrHi, .none⟩,
  ⟨0x0A0, 1, 0x0, 0x0, 0x0, 0x0, 0x0, 0x0, .ctrLo, .none⟩,
  ⟨0x0A4, 1, 0x0, 0x0, 0x0, 0x0, 0x0, 0x0, .ctrHi, .none⟩,
  ⟨0x0A8, 1, 0x0, 0x0, 0x0, 0x0, 0x0, 0x0, .ctrLo, .none⟩,
  ⟨0x0AC, 1, 0x0, 0x0, 0x0, 0x0, 0x0, 0x0, .ctrHi, .none⟩]

/-- The IS page (11 R223). -/
def bolovIsRows : List RegRow := [
  ⟨0x020, 1, 0x0, 0x0, 0x0, 0x80000000, 0x0, 0x0, .plain, .none⟩,
  ⟨0x100, 4, 0x80, 0xBE000000, 0x0, 0x40000000, 0x0, 0x0, .plain, .none⟩,
  ⟨0x104, 4, 0x80, 0xF8FFF8FF, 0x0, 0x0, 0x0, 0x0, .plain, .none⟩,
  ⟨0x108, 4, 0x80, 0x1FFFFFF, 0x0, 0x0, 0x100, 0x0, .plain, .none⟩,
  ⟨0x10C, 4, 0x80, 0xFFFFFFFF, 0x0, 0x0, 0x20000, 0x0, .plain, .none⟩,
  ⟨0x110, 4, 0x80, 0xFFFFFFF, 0x0, 0x0, 0x400, 0x0, .plain, .none⟩,
  ⟨0x114, 4, 0x80, 0xFFFFFFFF, 0x0, 0x0, 0x0, 0x0, .plain, .none⟩,
  ⟨0x118, 4, 0x80, 0x0, 0x18000000, 0x0, 0x0, 0x0, .plain, .none⟩,
  ⟨0x11C, 4, 0x80, 0x0, 0x0, 0x0, 0x0, 0x0, .plain, .none⟩,
  ⟨0x120, 4, 0x80, 0x0, 0x0, 0x0, 0x0, 0x0, .plain, .none⟩,
  ⟨0x128, 4, 0x80, 0x0, 0x0, 0x0, 0x0, 0x0, .lo, .none⟩,
  ⟨0x12C, 4, 0x80, 0x0, 0x0, 0x0, 0x0, 0x0, .hi, .none⟩,
  ⟨0x130, 4, 0x80, 0x0, 0x0, 0x0, 0x0, 0x0, .lo, .none⟩,
  ⟨0x134, 4, 0x80, 0x0, 0x0, 0x0, 0x0, 0x0, .hi, .none⟩,
  ⟨0x138, 4, 0x80, 0x0, 0x0, 0x0, 0x0, 0x0, .lo, .none⟩,
  ⟨0x13C, 4, 0x80, 0x0, 0x0, 0x0, 0x0, 0x0, .hi, .none⟩,
  ⟨0x140, 4, 0x80, 0x0, 0x0, 0x0, 0x0, 0x0, .lo, .none⟩,
  ⟨0x144, 4, 0x80, 0x0, 0x0, 0x0, 0x0, 0x0, .hi, .none⟩,
  ⟨0x148, 4, 0x80, 0x0, 0x0, 0x0, 0x0, 0x0, .lo, .none⟩,
  ⟨0x14C, 4, 0x80, 0x0, 0x0, 0x0, 0x0, 0x0, .hi, .none⟩,
  ⟨0x150, 4, 0x80, 0x0, 0x0, 0x0, 0x0, 0x0, .lo, .none⟩,
  ⟨0x154, 4, 0x80, 0x0, 0x0, 0x0, 0x0, 0x0, .hi, .none⟩,
  ⟨0x158, 4, 0x80, 0x0, 0x0, 0x0, 0x0, 0x0, .lo, .none⟩,
  ⟨0x15C, 4, 0x80, 0x0, 0x0, 0x0, 0x0, 0x0, .mid, .none⟩,
  ⟨0x160, 4, 0x80, 0x0, 0x0, 0x0, 0x0, 0x0, .hi, .none⟩,
  ⟨0x164, 4, 0x80, 0x0, 0x0, 0x0, 0x0, 0x0, .lo, .none⟩,
  ⟨0x168, 4, 0x80, 0x0, 0x0, 0x0, 0x0, 0x0, .hi, .none⟩,
  ⟨0x170, 4, 0x80, 0x0, 0x0, 0x0, 0x0, 0x0, .ctrLo, .none⟩,
  ⟨0x174, 4, 0x80, 0x0, 0x0, 0x0, 0x0, 0x0, .ctrHi, .none⟩]

/-- The TARN page (12 R244). -/
def bolovTarnRows : List RegRow := [
  ⟨0x020, 1, 0x0, 0x38000000, 0x0, 0xC0000000, 0x28000000, 0x0, .plain, .none⟩,
  ⟨0x024, 1, 0x0, 0x0, 0x0, 0x0, 0x0, 0x0, .plain, .none⟩,
  ⟨0x028, 1, 0x0, 0x7F, 0x0, 0x0, 0x32, 0x0, .plain, .none⟩,
  ⟨0x02C, 1, 0x0, 0xFFFF, 0x0, 0x0, 0x100, 0x0, .plain, .none⟩,
  ⟨0x030, 1, 0x0, 0xFFFFFFFF, 0x0, 0x0, 0x0, 0x0, .plain, .none⟩,
  ⟨0x034, 1, 0x0, 0x0, 0x0, 0x0, 0x0, 0x0, .plain, .none⟩,
  ⟨0x038, 1, 0x0, 0x0, 0x0, 0x0, 0x0, 0x0, .plain, .none⟩,
  ⟨0x03C, 1, 0x0, 0x0, 0x0, 0x0, 0x0, 0x0, .plain, .none⟩,
  ⟨0x040, 1, 0x0, 0x0, 0x0, 0x0, 0x0, 0x0, .plain, .none⟩,
  ⟨0x044, 1, 0x0, 0x7000003F, 0x0, 0x80000000, 0x0, 0x0, .plain, .none⟩,
  ⟨0x048, 1, 0x0, 0x0, 0x0, 0x0, 0x0, 0x0, .plain, .none⟩,
  ⟨0x04C, 1, 0x0, 0xFFFFFFFF, 0x0, 0x0, 0x0, 0x0, .plain, .none⟩,
  ⟨0x050, 1, 0x0, 0xFFFFFFFF, 0x0, 0x0, 0x0, 0x0, .plain, .none⟩,
  ⟨0x054, 1, 0x0, 0x3FFFFFFF, 0x0, 0x0, 0x0, 0x0, .plain, .none⟩,
  ⟨0x058, 1, 0x0, 0x0, 0x0, 0x0, 0x0, 0x0, .plain, .none⟩,
  ⟨0x060, 1, 0x0, 0x0, 0x0, 0x0, 0x0, 0x0, .ctrLo, .none⟩,
  ⟨0x064, 1, 0x0, 0x0, 0x0, 0x0, 0x0, 0x0, .ctrHi, .none⟩,
  ⟨0x068, 1, 0x0, 0x0, 0x0, 0x0, 0x0, 0x0, .ctrLo, .none⟩,
  ⟨0x06C, 1, 0x0, 0x0, 0x0, 0x0, 0x0, 0x0, .ctrHi, .none⟩,
  ⟨0x070, 1, 0x0, 0x0, 0x0, 0x0, 0x0, 0x0, .ctrLo, .none⟩,
  ⟨0x074, 1, 0x0, 0x0, 0x0, 0x0, 0x0, 0x0, .ctrHi, .none⟩,
  ⟨0x078, 1, 0x0, 0x0, 0x0, 0x0, 0x0, 0x0, .ctrLo, .none⟩,
  ⟨0x07C, 1, 0x0, 0x0, 0x0, 0x0, 0x0, 0x0, .ctrHi, .none⟩]

/-- The MERE page (13 R259). -/
def bolovMereRows : List RegRow := [
  ⟨0x020, 1, 0x0, 0x3, 0x0, 0xC0000000, 0x3, 0x0, .plain, .none⟩,
  ⟨0x024, 1, 0x0, 0xFFFFFFFF, 0x0, 0x0, 0xA03E8, 0x0, .plain, .none⟩,
  ⟨0x028, 1, 0x0, 0xFFFF00FF, 0x0, 0x0, 0x3E80010, 0x0, .plain, .none⟩,
  ⟨0x02C, 1, 0x0, 0x0, 0x0, 0x0, 0x0, 0x0, .plain, .none⟩,
  ⟨0x030, 1, 0x0, 0x1F, 0x0, 0x0, 0x0, 0x0, .plain, .none⟩,
  ⟨0x034, 1, 0x0, 0x0, 0x80000000, 0x0, 0x0, 0x0, .plain, .unit⟩,
  ⟨0x038, 1, 0x0, 0x0, 0x0, 0x0, 0x0, 0x0, .plain, .unit⟩,
  ⟨0x03C, 1, 0x0, 0x0, 0x0, 0x0, 0x0, 0x0, .plain, .none⟩,
  ⟨0x040, 1, 0x0, 0x3F, 0x0, 0x0, 0x0, 0x0, .plain, .none⟩,
  ⟨0x044, 1, 0x0, 0x0, 0x0, 0x0, 0x0, 0x0, .plain, .none⟩,
  ⟨0x048, 1, 0x0, 0x0, 0x0, 0x0, 0x0, 0x0, .plain, .none⟩,
  ⟨0x100, 1, 0x0, 0x0, 0x0, 0x0, 0x0, 0x0, .ctrLo, .unit⟩,
  ⟨0x104, 1, 0x0, 0x0, 0x0, 0x0, 0x0, 0x0, .ctrHi, .unit⟩,
  ⟨0x108, 1, 0x0, 0x0, 0x0, 0x0, 0x0, 0x0, .ctrLo, .unit⟩,
  ⟨0x10C, 1, 0x0, 0x0, 0x0, 0x0, 0x0, 0x0, .ctrHi, .unit⟩,
  ⟨0x110, 1, 0x0, 0x0, 0x0, 0x0, 0x0, 0x0, .ctrLo, .unit⟩,
  ⟨0x114, 1, 0x0, 0x0, 0x0, 0x0, 0x0, 0x0, .ctrHi, .unit⟩,
  ⟨0x118, 1, 0x0, 0x0, 0x0, 0x0, 0x0, 0x0, .ctrLo, .unit⟩,
  ⟨0x11C, 1, 0x0, 0x0, 0x0, 0x0, 0x0, 0x0, .ctrHi, .unit⟩,
  ⟨0x120, 1, 0x0, 0x0, 0x0, 0x0, 0x0, 0x0, .ctrLo, .unit⟩,
  ⟨0x124, 1, 0x0, 0x0, 0x0, 0x0, 0x0, 0x0, .ctrHi, .unit⟩,
  ⟨0x130, 1, 0x0, 0x0, 0x0, 0x0, 0x0, 0x0, .ctrLo, .none⟩,
  ⟨0x134, 1, 0x0, 0x0, 0x0, 0x0, 0x0, 0x0, .ctrHi, .none⟩,
  ⟨0x138, 1, 0x0, 0x0, 0x0, 0x0, 0x0, 0x0, .ctrLo, .none⟩,
  ⟨0x13C, 1, 0x0, 0x0, 0x0, 0x0, 0x0, 0x0, .ctrHi, .none⟩]

/-- The POD page (14 R279). -/
def bolovPodRows : List RegRow := [
  ⟨0x020, 1, 0x0, 0xF, 0x0, 0xF8000000, 0x8, 0x0, .plain, .none⟩,
  ⟨0x024, 1, 0x0, 0x0, 0x1000000, 0x0, 0x0, 0x0, .plain, .none⟩,
  ⟨0x028, 1, 0x0, 0xFFFF, 0x0, 0x0, 0x0, 0x0, .plain, .none⟩,
  ⟨0x02C, 1, 0x0, 0xFF00FFFF, 0x0, 0x0, 0x80000064, 0x0, .plain, .none⟩,
  ⟨0x030, 1, 0x0, 0xFFFF, 0x0, 0x0, 0xA, 0x0, .plain, .none⟩,
  ⟨0x034, 1, 0x0, 0xFFFF, 0x0, 0x0, 0xA, 0x0, .plain, .none⟩,
  ⟨0x038, 1, 0x0, 0xFFFF, 0x0, 0x80000000, 0x64, 0x0, .plain, .none⟩,
  ⟨0x040, 1, 0x0, 0x0, 0x0, 0x0, 0x0, 0x0, .lo, .none⟩,
  ⟨0x044, 1, 0x0, 0x0, 0x0, 0x0, 0x0, 0x0, .hi, .none⟩,
  ⟨0x050, 3, 0x8, 0x0, 0x0, 0x0, 0x0, 0x0, .lo, .none⟩,
  ⟨0x054, 3, 0x8, 0x0, 0x0, 0x0, 0x0, 0x0, .hi, .none⟩,
  ⟨0x068, 3, 0x8, 0x0, 0x0, 0x0, 0x0, 0x0, .lo, .none⟩,
  ⟨0x06C, 3, 0x8, 0x0, 0x0, 0x0, 0x0, 0x0, .hi, .none⟩,
  ⟨0x100, 1, 0x0, 0x0, 0x0, 0x0, 0x0, 0x0, .ctrLo, .none⟩,
  ⟨0x104, 1, 0x0, 0x0, 0x0, 0x0, 0x0, 0x0, .ctrHi, .none⟩,
  ⟨0x108, 1, 0x0, 0x0, 0x0, 0x0, 0x0, 0x0, .ctrLo, .none⟩,
  ⟨0x10C, 1, 0x0, 0x0, 0x0, 0x0, 0x0, 0x0, .ctrHi, .none⟩,
  ⟨0x110, 1, 0x0, 0x0, 0x0, 0x0, 0x0, 0x0, .ctrLo, .none⟩,
  ⟨0x114, 1, 0x0, 0x0, 0x0, 0x0, 0x0, 0x0, .ctrHi, .none⟩,
  ⟨0x118, 1, 0x0, 0x0, 0x0, 0x0, 0x0, 0x0, .ctrLo, .none⟩,
  ⟨0x11C, 1, 0x0, 0x0, 0x0, 0x0, 0x0, 0x0, .ctrHi, .none⟩,
  ⟨0x120, 1, 0x0, 0x0, 0x0, 0x0, 0x0, 0x0, .ctrLo, .none⟩,
  ⟨0x124, 1, 0x0, 0x0, 0x0, 0x0, 0x0, 0x0, .ctrHi, .none⟩,
  ⟨0x128, 1, 0x0, 0x0, 0x0, 0x0, 0x0, 0x0, .ctrLo, .none⟩,
  ⟨0x12C, 1, 0x0, 0x0, 0x0, 0x0, 0x0, 0x0, .ctrHi, .none⟩,
  ⟨0x130, 1, 0x0, 0x0, 0x0, 0x0, 0x0, 0x0, .ctrLo, .none⟩,
  ⟨0x134, 1, 0x0, 0x0, 0x0, 0x0, 0x0, 0x0, .ctrHi, .none⟩,
  ⟨0x138, 1, 0x0, 0x0, 0x0, 0x0, 0x0, 0x0, .ctrLo, .none⟩,
  ⟨0x13C, 1, 0x0, 0x0, 0x0, 0x0, 0x0, 0x0, .ctrHi, .none⟩,
  ⟨0x140, 1, 0x0, 0x0, 0x0, 0x0, 0x0, 0x0, .ctrLo, .none⟩,
  ⟨0x144, 1, 0x0, 0x0, 0x0, 0x0, 0x0, 0x0, .ctrHi, .none⟩,
  ⟨0x148, 1, 0x0, 0x0, 0x0, 0x0, 0x0, 0x0, .ctrLo, .none⟩,
  ⟨0x14C, 1, 0x0, 0x0, 0x0, 0x0, 0x0, 0x0, .ctrHi, .none⟩]

/-- The MON page (15 R296). -/
def bolovMonRows : List RegRow := [
  ⟨0x020, 1, 0x0, 0x20000001, 0x0, 0xC0000000, 0x0, 0x0, .plain, .none⟩,
  ⟨0x024, 1, 0x0, 0x0, 0x0, 0x0, 0x0, 0x0, .plain, .none⟩,
  ⟨0x028, 1, 0x0, 0x8000FFFF, 0x0, 0x0, 0x3E8, 0x0, .plain, .none⟩,
  ⟨0x02C, 1, 0x0, 0x0, 0x0, 0x0, 0x0, 0x0, .plain, .none⟩,
  ⟨0x030, 1, 0x0, 0x0, 0x0, 0x0, 0x0, 0x0, .ctrLo, .none⟩,
  ⟨0x034, 1, 0x0, 0x0, 0x0, 0x0, 0x0, 0x0, .ctrHi, .none⟩,
  ⟨0x100, 4, 0x20, 0x3C00FFFF, 0x0, 0xC0000000, 0x3E8, 0x0, .plain, .none⟩,
  ⟨0x104, 4, 0x20, 0xFFFF, 0x0, 0x0, 0x0, 0x0, .plain, .none⟩,
  ⟨0x108, 4, 0x20, 0x0, 0x0, 0x0, 0x0, 0x0, .plain, .none⟩,
  ⟨0x110, 4, 0x20, 0x0, 0x0, 0x0, 0x0, 0x0, .ctrLo, .none⟩,
  ⟨0x114, 4, 0x20, 0x0, 0x0, 0x0, 0x0, 0x0, .ctrHi, .none⟩,
  ⟨0x200, 16, 0x10, 0xBFFFFFE0, 0x0, 0x0, 0x0, 0x0, .plain, .none⟩,
  ⟨0x204, 16, 0x10, 0xFFFFFFFC, 0x0, 0x0, 0x38, 0x0, .plain, .none⟩,
  ⟨0x208, 16, 0x10, 0x0, 0x0, 0x0, 0x0, 0x0, .lo, .none⟩,
  ⟨0x20C, 16, 0x10, 0x0, 0x0, 0x0, 0x0, 0x0, .hi, .none⟩]

/-- The GRD page (16 R312). -/
def bolovGrdRows : List RegRow := [
  ⟨0x020, 1, 0x0, 0x0, 0x0, 0xE00000FF, 0x0, 0x0, .plain, .none⟩,
  ⟨0x024, 1, 0x0, 0x0, 0x180000F0, 0x0, 0x0, 0x0, .plain, .none⟩,
  ⟨0x028, 1, 0x0, 0xFF, 0x0, 0x0, 0xA, 0x0, .plain, .none⟩,
  ⟨0x02C, 1, 0x0, 0xF, 0x0, 0x0, 0x0, 0x0, .plain, .none⟩,
  ⟨0x030, 1, 0x0, 0x7F, 0x0, 0x0, 0x0, 0x0, .plain, .none⟩,
  ⟨0x034, 1, 0x0, 0x0, 0x0, 0xFFFFFFFF, 0x0, 0x0, .plain, .none⟩,
  ⟨0x038, 1, 0x0, 0x0, 0x0, 0x0, 0x0, 0x0, .plain, .none⟩,
  ⟨0x03C, 1, 0x0, 0x0, 0x0, 0x0, 0x0, 0x0, .plain, .none⟩,
  ⟨0x040, 4, 0x4, 0x0, 0x0, 0x0, 0xC004, 0x0, .plain, .none⟩,
  ⟨0x060, 4, 0x4, 0x8FFFFF1F, 0x0, 0x0, 0xFF0014, 0x0, .plain, .none⟩,
  ⟨0x080, 1, 0x0, 0x0, 0x0, 0x0, 0x0, 0x0, .plain, .none⟩,
  ⟨0x084, 1, 0x0, 0x0, 0x0, 0x0, 0x0, 0x0, .plain, .none⟩,
  ⟨0x088, 1, 0x0, 0xFFFFFFFF, 0x0, 0x0, 0x0, 0x0, .plain, .none⟩,
  ⟨0x0A0, 8, 0x4, 0x0, 0x0, 0x0, 0x0, 0x0, .plain, .none⟩,
  ⟨0x0C0, 16, 0x4, 0x0, 0x0, 0x0, 0x0, 0x0, .plain, .none⟩,
  ⟨0x200, 16, 0x10, 0xCFFFF3FF, 0x0, 0x0, 0x14, 0x0, .plain, .none⟩,
  ⟨0x204, 16, 0x10, 0xFFFFFFFF, 0x0, 0x0, 0x0, 0x0, .plain, .none⟩,
  ⟨0x208, 16, 0x10, 0xFFFFFFFF, 0x0, 0x0, 0x0, 0x0, .plain, .none⟩,
  ⟨0x300, 16, 0x8, 0xFFFFFFFF, 0x0, 0x0, 0x0, 0x0, .plain, .none⟩,
  ⟨0x304, 16, 0x8, 0xFFFFFFFF, 0x0, 0x0, 0x0, 0x0, .plain, .none⟩]

/-- The SEC page (19 R363). -/
def bolovSecRows : List RegRow := [
  ⟨0x020, 1, 0x0, 0x0, 0x0, 0x80000000, 0x0, 0x0, .plain, .none⟩,
  ⟨0x024, 1, 0x0, 0x0, 0x6000000, 0x0, 0x0, 0x0, .plain, .none⟩,
  ⟨0x028, 1, 0x0, 0x0, 0x0, 0x0, 0x0, 0x0, .plain, .none⟩]

/-- The INT page (17 R324). -/
def bolovIntRows : List RegRow := [
  ⟨0x020, 1, 0x0, 0x1, 0x0, 0x0, 0x0, 0x0, .plain, .none⟩,
  ⟨0x024, 1, 0x0, 0x0, 0x0, 0x0, 0x0, 0x0, .plain, .none⟩,
  ⟨0x028, 1, 0x0, 0x0, 0x0, 0x0, 0x0, 0x0, .plain, .none⟩]

/-- The CMT page (18 R346). -/
def bolovCmtRows : List RegRow := [
  ⟨0x020, 1, 0x0, 0x3, 0x0, 0xE0000000, 0x1, 0x0, .plain, .none⟩,
  ⟨0x024, 1, 0x0, 0x0, 0x0, 0x0, 0x0, 0x0, .plain, .none⟩,
  ⟨0x028, 1, 0x0, 0xFFFFFFFF, 0x0, 0x0, 0x0, 0x0, .lo, .none⟩,
  ⟨0x02C, 1, 0x0, 0xFFFF, 0x0, 0x0, 0x0, 0x0, .hi, .none⟩,
  ⟨0x030, 1, 0x0, 0xFFFF, 0x0, 0x0, 0x2000, 0x0, .plain, .none⟩,
  ⟨0x034, 1, 0x0, 0x0, 0x0, 0x0, 0x0, 0x0, .plain, .none⟩,
  ⟨0x038, 1, 0x0, 0x0, 0x0, 0x0, 0x0, 0x0, .lo, .none⟩,
  ⟨0x03C, 1, 0x0, 0x0, 0x0, 0x0, 0x0, 0x0, .hi, .none⟩,
  ⟨0x040, 1, 0x0, 0x0, 0x0, 0x0, 0x0, 0x0, .lo, .none⟩,
  ⟨0x044, 1, 0x0, 0x0, 0x0, 0x0, 0x0, 0x0, .hi, .none⟩,
  ⟨0x050, 1, 0x0, 0x0, 0x0, 0x0, 0x0, 0x0, .ctrLo, .none⟩,
  ⟨0x054, 1, 0x0, 0x0, 0x0, 0x0, 0x0, 0x0, .ctrHi, .none⟩,
  ⟨0x058, 1, 0x0, 0x0, 0x0, 0x0, 0x0, 0x0, .ctrLo, .none⟩,
  ⟨0x05C, 1, 0x0, 0x0, 0x0, 0x0, 0x0, 0x0, .ctrHi, .none⟩]

/-- The PQ page (17 R326). -/
def bolovPqRows : List RegRow := [
  ⟨0x100, 8, 0x100, 0x0, 0x0, 0x0, 0x0, 0x0, .plain, .none⟩,
  ⟨0x104, 8, 0x100, 0x0, 0x0, 0xE0000000, 0x0, 0x0, .plain, .none⟩,
  ⟨0x108, 8, 0x100, 0x0, 0xE0000000, 0x0, 0x0, 0x0, .plain, .none⟩,
  ⟨0x110, 8, 0x100, 0x0, 0x0, 0x0, 0x0, 0x0, .ctrLo, .none⟩,
  ⟨0x114, 8, 0x100, 0x0, 0x0, 0x0, 0x0, 0x0, .ctrHi, .none⟩]

/-- The QD page (06 R121). -/
def bolovQdRows : List RegRow := [
  ⟨0x100, 4, 0x40, 0xF00CD, 0x0, 0x30, 0x8000C, 0x0, .plain, .none⟩,
  ⟨0x104, 4, 0x40, 0x0, 0x0, 0x0, 0x0, 0x0, .plain, .none⟩,
  ⟨0x108, 4, 0x40, 0x0, 0x0, 0x0, 0x0, 0x0, .plain, .none⟩,
  ⟨0x10C, 4, 0x40, 0x0, 0x0, 0x0, 0x0, 0x0, .plain, .none⟩,
  ⟨0x110, 4, 0x40, 0xFFFF, 0x0, 0x0, 0x0, 0x0, .plain, .none⟩,
  ⟨0x114, 4, 0x40, 0x3FFC0000, 0x0, 0x80000000, 0x0, 0x0, .plain, .none⟩,
  ⟨0x118, 4, 0x40, 0x0, 0x0, 0x0, 0x0, 0x0, .ctrLo, .none⟩,
  ⟨0x11C, 4, 0x40, 0x0, 0x0, 0x0, 0x0, 0x0, .ctrHi, .none⟩,
  ⟨0x120, 4, 0x40, 0x0, 0x0, 0x0, 0x0, 0x0, .ctrLo, .none⟩,
  ⟨0x124, 4, 0x40, 0x0, 0x0, 0x0, 0x0, 0x0, .ctrHi, .none⟩,
  ⟨0x128, 4, 0x40, 0x80000FFF, 0x0, 0x0, 0x0, 0x0, .plain, .none⟩,
  ⟨0x12C, 4, 0x40, 0x0, 0x0, 0x0, 0x4C0, 0x0, .plain, .none⟩,
  ⟨0x130, 4, 0x40, 0x0, 0x0, 0x0, 0x0, 0x0, .lo, .none⟩,
  ⟨0x134, 4, 0x40, 0x0, 0x0, 0x0, 0x0, 0x0, .hi, .none⟩,
  ⟨0x138, 4, 0x40, 0x0, 0x0, 0x80000000, 0x0, 0x0, .plain, .none⟩]

/-- The RMT page (17 R333). -/
def bolovRmtRows : List RegRow := [
  ⟨0x020, 1, 0x0, 0xF, 0x0, 0x80000000, 0x2, 0x0, .plain, .none⟩,
  ⟨0x024, 1, 0x0, 0x0, 0x80000000, 0x0, 0x0, 0x0, .plain, .none⟩,
  ⟨0x028, 1, 0x0, 0xFFFF, 0x0, 0x0, 0x2000, 0x0, .plain, .none⟩,
  ⟨0x030, 1, 0x0, 0xFFFFFFFF, 0x0, 0x0, 0x0, 0x0, .plain, .none⟩,
  ⟨0x034, 1, 0x0, 0x0, 0x0, 0xFFC0FFFF, 0x0, 0x0, .plain, .none⟩,
  ⟨0x040, 4, 0x4, 0xFFFFFFFF, 0x0, 0x0, 0x0, 0x0, .plain, .none⟩,
  ⟨0x050, 1, 0x0, 0xFFF0000, 0x0, 0x80000000, 0x0, 0x0, .plain, .none⟩,
  ⟨0x054, 1, 0x0, 0xFFFFFFFF, 0x0, 0x0, 0x0, 0x0, .plain, .none⟩,
  ⟨0x058, 1, 0x0, 0xFFFFFFFF, 0x0, 0x0, 0x0, 0x0, .lo, .none⟩,
  ⟨0x05C, 1, 0x0, 0xFFFF, 0x0, 0x0, 0x0, 0x0, .hi, .none⟩,
  ⟨0x060, 1, 0x0, 0x0, 0x0, 0x0, 0x0, 0x0, .plain, .none⟩,
  ⟨0x068, 1, 0x0, 0x0, 0x0, 0x0, 0x0, 0x0, .lo, .none⟩,
  ⟨0x06C, 1, 0x0, 0x0, 0x0, 0x0, 0x0, 0x0, .hi, .none⟩,
  ⟨0x070, 1, 0x0, 0x0, 0x0, 0x0, 0x0, 0x0, .ctrLo, .none⟩,
  ⟨0x074, 1, 0x0, 0x0, 0x0, 0x0, 0x0, 0x0, .ctrHi, .none⟩]

/-- The TW page (17 R328). -/
def bolovTwRows : List RegRow := [
  ⟨0x020, 1, 0x0, 0x3FFFF, 0x0, 0x0, 0x0, 0x0, .plain, .none⟩,
  ⟨0x024, 1, 0x0, 0x0, 0x18000000, 0x0, 0x0, 0x0, .plain, .none⟩,
  ⟨0x028, 1, 0x0, 0xFFFFFFFF, 0x0, 0x0, 0x0, 0x0, .plain, .none⟩,
  ⟨0x02C, 1, 0x0, 0xFFFFFFFF, 0x0, 0x0, 0x0, 0x0, .plain, .none⟩,
  ⟨0x030, 1, 0x0, 0xFFFFFFFF, 0x0, 0x0, 0x0, 0x0, .plain, .none⟩,
  ⟨0x034, 1, 0x0, 0xFFFFFFFF, 0x0, 0x0, 0x0, 0x0, .plain, .none⟩]

/-- `RATE_REGION` [0] to [63]: regions 4m to 4m + 3, eight bits each: shed, group, k (10 R210). -/
def rateRegionRows : List RegRow := [⟨0x200, 64, 4, 0xFFFFFFFF, 0, 0, 0, 0xFFFFFFFF, .plain, .none⟩]

/-- The head registers `PQ_q_RECn` of the queues (17 R326): host-bound records read only, the buffers of the
Bolov-bound queues 0 and 3 read and write. -/
def pqRecRows : List RegRow := [
  ⟨0x140, 16, 4, 0xFFFFFFFF, 0, 0, 0, 0, .plain, .none⟩, ⟨0x240, 16, 4, 0, 0, 0, 0, 0, .plain, .none⟩,
  ⟨0x340, 4, 4, 0, 0, 0, 0, 0, .plain, .none⟩, ⟨0x440, 8, 4, 0xFFFFFFFF, 0, 0, 0, 0, .plain, .none⟩,
  ⟨0x540, 8, 4, 0, 0, 0, 0, 0, .plain, .none⟩, ⟨0x640, 4, 4, 0, 0, 0, 0, 0, .plain, .none⟩,
  ⟨0x740, 16, 4, 0, 0, 0, 0, 0, .plain, .none⟩, ⟨0x840, 4, 4, 0, 0, 0, 0, 0, .plain, .none⟩]

/-- The common page header of every Bolov page (17 R321). -/
def headerRows : List RegRow := [
  ⟨0x000, 1, 0, 0, 0, 0, 0, 0, .plain, .none⟩,
  ⟨0x004, 1, 0, 0, 0, 0, 0, 0, .plain, .none⟩,
  ⟨0x008, 1, 0, 0x3, 0, 0, 0x2, 0, .plain, .none⟩,
  ⟨0x00C, 1, 0, 0, 0, 0, 0, 0, .plain, .none⟩,
  ⟨0x010, 1, 0, 0, 0, 0, 0, 0, .plain, .none⟩,
  ⟨0x014, 1, 0, 0xFFFFFFFF, 0, 0, 0, 0, .plain, .none⟩,
  ⟨0x018, 1, 0, 0, 0, 0xFFFFFFFF, 0, 0, .plain, .none⟩,
  ⟨0x01C, 1, 0, 0xF, 0, 0, 0x1, 0, .plain, .none⟩]

/-- The rows of a Jilek page (R329). -/
def jilekRows (page : Nat) : List RegRow :=
  match page with
  | 0x0 => jilekFeRows
  | 0x1 => jilekVnRows
  | 0x2 => jilekCalRows
  | 0x3 => jilekTpRows
  | 0x4 => jilekLkRows
  | 0x5 => jilekCmRows
  | 0x6 => jilekJidRows
  | 0x7 => jilekJpwRows
  | _ => []

/-- The rows of a Bolov page (R320), the header included; [] where the page does not exist. -/
def bolovRows (page : Nat) : List RegRow :=
  if 0x020 ≤ page ∧ page < 0x040 then headerRows ++ bolovQdRows
  else if 0x041 ≤ page ∧ page < 0x047 then headerRows ++ bolovTwRows
  else match page with
  | 0x000 => headerRows ++ bolovGlbRows
  | 0x001 => headerRows ++ bolovIdRows
  | 0x002 => headerRows ++ bolovPwrRows
  | 0x003 => headerRows ++ bolovTmRows
  | 0x004 => headerRows ++ bolovPtpRows
  | 0x005 => headerRows ++ bolovSortRows
  | 0x006 => headerRows ++ bolovOutRows
  | 0x007 => headerRows ++ bolovTrgRows
  | 0x008 => headerRows ++ bolovRateRows ++ rateRegionRows
  | 0x009 => headerRows ++ bolovIsRows
  | 0x00A => headerRows ++ bolovTarnRows
  | 0x00B => headerRows ++ bolovMereRows
  | 0x00C => headerRows ++ bolovPodRows
  | 0x00D => headerRows ++ bolovMonRows
  | 0x00E => headerRows ++ bolovGrdRows
  | 0x00F => headerRows ++ bolovSecRows
  | 0x010 => headerRows ++ bolovIntRows
  | 0x011 => headerRows ++ bolovCmtRows
  | 0x012 => headerRows ++ bolovPqRows ++ pqRecRows
  | 0x040 => headerRows ++ bolovRmtRows
  | _ => []

end Sys2Proof.Machine
end

