-- ==== Sys2Proof/Machine/RegNames.lean ====
section
/-!
DEFINITION. The addresses of the registers by the spec's names: the Jilek's 16-bit addresses (R329) and the Bolov's
24-bit ones (R320). A register that repeats is a function of its number; a LO/HI value stands at its _LO.
-/

namespace Sys2Proof.Machine.Reg

abbrev FE_THR_GLOBAL : Nat := 0x0
abbrev FE_TP_CHARGE : Nat := 0x4
abbrev FE_TP_PHASE : Nat := 0x8
abbrev FE_CTRL : Nat := 0xC
abbrev FE_CELL_INDEX : Nat := 0x10
abbrev FE_CELL_DATA : Nat := 0x14
abbrev FE_STUCK_COUNT : Nat := 0x18
abbrev FE_PILEUP (i : Nat) : Nat := 0x100 + 0x8 * i
abbrev VN_OVERRUN : Nat := 0x1000
abbrev VN_LAST_OVERRUN : Nat := 0x1008
abbrev VN_CTRL : Nat := 0x100C
abbrev CAL_CTRL : Nat := 0x2000
abbrev CAL_CELL_INDEX : Nat := 0x2010
abbrev CAL_CELL_DATA : Nat := 0x2014
abbrev CAL_TILE_STATE (i : Nat) : Nat := 0x2100 + 0x8 * i
abbrev CAL_TILE_TEMP (i : Nat) : Nat := 0x2104 + 0x8 * i
abbrev TP_CTRL : Nat := 0x3000
abbrev TP_LINK_MAP : Nat := 0x3004
abbrev TP_FE_ID : Nat := 0x3008
abbrev TP_GOV : Nat := 0x300C
abbrev TP_FLUSH : Nat := 0x3010
abbrev TP_MERGE_PACE : Nat := 0x3014
abbrev TP_POISON : Nat := 0x3018
abbrev TP_OVERAGE : Nat := 0x3020
abbrev TP_FLUSHED : Nat := 0x3028
abbrev TP_MERGE_PACE_PREV : Nat := 0x3030
abbrev TP_TILE_PACE (i : Nat) : Nat := 0x3100 + 0x10 * i
abbrev TP_TILE_LIMIT (i : Nat) : Nat := 0x3104 + 0x10 * i
abbrev TP_REFUSED (i : Nat) : Nat := 0x3108 + 0x10 * i
abbrev LK_CTRL : Nat := 0x4000
abbrev LK_STATE : Nat := 0x4004
abbrev LK_PHASE (i : Nat) : Nat := 0x4008 + 0x4 * i
abbrev LK_LEASE : Nat := 0x4010
abbrev LK_EYE (i : Nat) : Nat := 0x4014 + 0x4 * i
abbrev LK_CRC (i : Nat) : Nat := 0x4020 + 0x8 * i
abbrev LK_IGNORED : Nat := 0x4030
abbrev CM_STATE : Nat := 0x5000
abbrev CM_SWITCH : Nat := 0x5004
abbrev CM_TARGET : Nat := 0x500C
abbrev JID_UNIT : Nat := 0x6000
abbrev JID_STATUS : Nat := 0x6008
abbrev JPW_TILE_ON : Nat := 0x7000
abbrev JPW_LINK_ON : Nat := 0x7004
abbrev JPW_STATUS : Nat := 0x7008
abbrev GLB_CTRL : Nat := 0x20
abbrev GLB_HOST : Nat := 0x24
abbrev GLB_SCRATCH : Nat := 0x28
abbrev GLB_UNMAPPED : Nat := 0x30
abbrev GLB_PROTO_ERR : Nat := 0x38
abbrev ID_UNIT : Nat := 0x1020
abbrev ID_PORT_SEL : Nat := 0x1028
abbrev ID_PORT_STATUS : Nat := 0x102C
abbrev ID_PORT_UNIT : Nat := 0x1030
abbrev PWR_STATUS : Nat := 0x2020
abbrev PWR_DOM_ON0 : Nat := 0x2024
abbrev PWR_DOM_ON1 : Nat := 0x2028
abbrev PWR_DOM_ON2 : Nat := 0x202C
abbrev PWR_DOM_STATE0 : Nat := 0x2030
abbrev PWR_DOM_STATE1 : Nat := 0x2034
abbrev PWR_DOM_STATE2 : Nat := 0x2038
abbrev PWR_VCORE : Nat := 0x203C
abbrev PWR_TJ : Nat := 0x2040
abbrev PWR_ABSENT (i : Nat) : Nat := 0x2048 + 0x4 * i
abbrev TM_CTRL : Nat := 0x3020
abbrev TM_STATUS : Nat := 0x3024
abbrev TM_SERVO_KP : Nat := 0x3028
abbrev TM_SERVO_KI : Nat := 0x302C
abbrev TM_STEP_THR : Nat := 0x3030
abbrev TM_LOCK_THR : Nat := 0x3034
abbrev TM_INCR_BASE : Nat := 0x3038
abbrev TM_INCR : Nat := 0x3040
abbrev TM_OFFSET : Nat := 0x3048
abbrev TM_INTEG : Nat := 0x3050
abbrev TM_HOLD : Nat := 0x3054
abbrev TM_PPS_DELAY : Nat := 0x3058
abbrev TM_PPS_OUT : Nat := 0x305C
abbrev TM_PPS_SEC : Nat := 0x3060
abbrev TM_SET_SEC : Nat := 0x3068
abbrev TM_SET_NS : Nat := 0x3070
abbrev TM_TICK : Nat := 0x3078
abbrev TM_TICK_PRESET : Nat := 0x3080
abbrev TM_SNAP_TICK : Nat := 0x3088
abbrev TM_SNAP_SEC : Nat := 0x3090
abbrev TM_SNAP_NS : Nat := 0x3098
abbrev TM_SNAP_FRAC : Nat := 0x309C
abbrev TM_UTC : Nat := 0x30A0
abbrev PTP_CTRL : Nat := 0x4020
abbrev PTP_MASTER_ID : Nat := 0x4028
abbrev PTP_MASTER_PORT : Nat := 0x4030
abbrev PTP_ASYM : Nat := 0x4034
abbrev PTP_PATH_DELAY : Nat := 0x4038
abbrev PTP_IP : Nat := 0x403C
abbrev PTP_MAC : Nat := 0x4040
abbrev PTP_DISCARD : Nat := 0x4048
abbrev SORT_CTRL : Nat := 0x5020
abbrev SORT_STATUS : Nat := 0x5024
abbrev SORT_SLICE_LEN : Nat := 0x5028
abbrev SORT_MARGIN_PAD : Nat := 0x502C
abbrev SORT_S0 : Nat := 0x5030
abbrev SORT_OLDEST : Nat := 0x5038
abbrev SORT_NEWEST : Nat := 0x5040
abbrev SORT_POOL_USED : Nat := 0x5048
abbrev SORT_POOL_PEAK : Nat := 0x504C
abbrev SORT_OUTSIDE : Nat := 0x5050
abbrev SORT_POOL_LOSS : Nat := 0x5058
abbrev SORT_SKIPPED : Nat := 0x5060
abbrev SORT_MARGIN_CLOSE : Nat := 0x5068
abbrev SORT_LATE_Q : Nat := 0x5070
abbrev SORT_BIN_OVF : Nat := 0x5074
abbrev SORT_PORT_SEL : Nat := 0x5100
abbrev SORT_P_EXCLUDED : Nat := 0x5108
abbrev SORT_P_LATE : Nat := 0x5110
abbrev SORT_P_LATE_DROP : Nat := 0x5118
abbrev SORT_P_REFUSED : Nat := 0x5120
abbrev SORT_P_TERM : Nat := 0x5128
abbrev SORT_P_AHEAD : Nat := 0x5130
abbrev SORT_P_TICK_ERR : Nat := 0x5138
abbrev OUT_CTRL : Nat := 0x6020
abbrev OUT_STATUS : Nat := 0x6024
abbrev OUT_LANE_EN : Nat := 0x6028
abbrev OUT_LANE_STATE : Nat := 0x602C
abbrev OUT_EXPRESS : Nat := 0x6030
abbrev OUT_STREAM_ID : Nat := 0x6034
abbrev OUT_XOFF_WIN : Nat := 0x6038
abbrev OUT_XOFF_MAX : Nat := 0x603C
abbrev OUT_XOFF_HOLD : Nat := 0x6040
abbrev OUT_LANE_SEL : Nat := 0x6100
abbrev OUT_L_FRAMES : Nat := 0x6108
abbrev OUT_L_REDIRECT : Nat := 0x6110
abbrev OUT_L_HELD : Nat := 0x6118
abbrev OUT_L_BREACH : Nat := 0x6120
abbrev OUT_L_EXP_DROP : Nat := 0x6128
abbrev TRG_CTRL : Nat := 0x7020
abbrev TRG_STATUS : Nat := 0x7024
abbrev TRG_SRC_CFG (i : Nat) : Nat := 0x7100 + 0x20 * i
abbrev TRG_SRC_LEVEL (i : Nat) : Nat := 0x7104 + 0x20 * i
abbrev TRG_SRC_DELAY (i : Nat) : Nat := 0x7108 + 0x20 * i
abbrev TRG_SRC_MARKS (i : Nat) : Nat := 0x7110 + 0x20 * i
abbrev RATE_CTRL : Nat := 0x8020
abbrev RATE_STATUS : Nat := 0x8024
abbrev RATE_HOLD : Nat := 0x8028
abbrev RATE_TP_SPAN : Nat := 0x802C
abbrev RATE_CLASS_EXEMPT : Nat := 0x8030
abbrev RATE_BACKLOG : Nat := 0x8034
abbrev RATE_POOL_WM1 : Nat := 0x8040
abbrev RATE_BL_WM1 : Nat := 0x8044
abbrev RATE_POOL_WM2 : Nat := 0x8048
abbrev RATE_BL_WM2 : Nat := 0x804C
abbrev RATE_POOL_WM3 : Nat := 0x8050
abbrev RATE_BL_WM3 : Nat := 0x8054
abbrev RATE_THROTTLE (i : Nat) : Nat := 0x8060 + 0x4 * i
abbrev RATE_THROTTLE_STATE : Nat := 0x8080
abbrev RATE_DT_SEL : Nat := 0x8084
abbrev RATE_DT_RECORDS : Nat := 0x8088
abbrev RATE_DT_CELLTICKS : Nat := 0x8090
abbrev RATE_PRESCALED : Nat := 0x8098
abbrev RATE_TP_DROPPED : Nat := 0x80A0
abbrev RATE_REFUSED : Nat := 0x80A8
abbrev IS_CTRL : Nat := 0x9020
abbrev IS_n_CTRL (i : Nat) : Nat := 0x9100 + 0x80 * i
abbrev IS_n_SRC (i : Nat) : Nat := 0x9104 + 0x80 * i
abbrev IS_n_N (i : Nat) : Nat := 0x9108 + 0x80 * i
abbrev IS_n_TIMEOUT (i : Nat) : Nat := 0x910C + 0x80 * i
abbrev IS_n_GATE (i : Nat) : Nat := 0x9110 + 0x80 * i
abbrev IS_n_OFFSET (i : Nat) : Nat := 0x9114 + 0x80 * i
abbrev IS_n_STATUS (i : Nat) : Nat := 0x9118 + 0x80 * i
abbrev IS_n_RESULT_SEQ (i : Nat) : Nat := 0x911C + 0x80 * i
abbrev IS_n_COUNT (i : Nat) : Nat := 0x9120 + 0x80 * i
abbrev IS_n_MEAN (i : Nat) : Nat := 0x9128 + 0x80 * i
abbrev IS_n_SD (i : Nat) : Nat := 0x9130 + 0x80 * i
abbrev IS_n_MIN (i : Nat) : Nat := 0x9138 + 0x80 * i
abbrev IS_n_MAX (i : Nat) : Nat := 0x9140 + 0x80 * i
abbrev IS_n_PIVOT (i : Nat) : Nat := 0x9148 + 0x80 * i
abbrev IS_n_SUM (i : Nat) : Nat := 0x9150 + 0x80 * i
abbrev IS_n_SUMSQ (i : Nat) : Nat := 0x9158 + 0x80 * i
abbrev IS_n_EDGES (i : Nat) : Nat := 0x9164 + 0x80 * i
abbrev IS_n_MISSED (i : Nat) : Nat := 0x9170 + 0x80 * i
abbrev TARN_CTRL : Nat := 0xA020
abbrev TARN_STATUS : Nat := 0xA024
abbrev TARN_PIN_MAX : Nat := 0xA028
abbrev TARN_GUARD : Nat := 0xA02C
abbrev TARN_MARK_CFG : Nat := 0xA030
abbrev TARN_WRITE : Nat := 0xA034
abbrev TARN_WSEQ : Nat := 0xA038
abbrev TARN_HIST : Nat := 0xA03C
abbrev TARN_PINNED : Nat := 0xA040
abbrev TARN_MARK_CMD : Nat := 0xA044
abbrev TARN_MARK_RES : Nat := 0xA048
abbrev TARN_MARK_ARG : Nat := 0xA04C
abbrev TARN_MARK_ARG2 : Nat := 0xA054
abbrev TARN_ACTIVE : Nat := 0xA058
abbrev TARN_LOST : Nat := 0xA060
abbrev TARN_EDC_RETRY : Nat := 0xA068
abbrev TARN_EDC_FAIL : Nat := 0xA070
abbrev TARN_AUTO_MISS : Nat := 0xA078
abbrev MERE_CTRL : Nat := 0xB020
abbrev MERE_SCRUB : Nat := 0xB024
abbrev MERE_BKT_CFG : Nat := 0xB028
abbrev MERE_BKT_STATE : Nat := 0xB02C
abbrev MERE_SEL : Nat := 0xB030
abbrev MERE_U_LEVEL : Nat := 0xB034
abbrev MERE_U_LAST : Nat := 0xB038
abbrev MERE_BAD_GROUPS : Nat := 0xB03C
abbrev MERE_TRK_INDEX : Nat := 0xB040
abbrev MERE_TRK_ADDR : Nat := 0xB044
abbrev MERE_TRK_STATE : Nat := 0xB048
abbrev MERE_U_CORRECTED : Nat := 0xB100
abbrev MERE_U_TRANSIENT : Nat := 0xB108
abbrev MERE_U_UNCORR : Nat := 0xB110
abbrev MERE_U_POISON_READ : Nat := 0xB118
abbrev MERE_U_POISON_WRITE : Nat := 0xB120
abbrev MERE_QPAR : Nat := 0xB130
abbrev MERE_TRK_FULL : Nat := 0xB138
abbrev POD_CTRL : Nat := 0xC020
abbrev POD_STATUS : Nat := 0xC024
abbrev POD_LEASE_ID : Nat := 0xC028
abbrev POD_HEALTH_CFG : Nat := 0xC02C
abbrev POD_FENCE_CFG : Nat := 0xC030
abbrev POD_REVERT_HOLD : Nat := 0xC034
abbrev POD_WDOG : Nat := 0xC038
abbrev POD_PROGRESS : Nat := 0xC040
abbrev POD_HREPORT (i : Nat) : Nat := 0xC050 + 0x8 * i
abbrev POD_PREPORT (i : Nat) : Nat := 0xC068 + 0x8 * i
abbrev POD_HB_MISSED : Nat := 0xC100
abbrev POD_XL_CRC : Nat := 0xC108
abbrev POD_TWIN_OK : Nat := 0xC110
abbrev POD_TWIN_EXPL : Nat := 0xC118
abbrev POD_TWIN_DIV : Nat := 0xC120
abbrev POD_TWIN_SKIP : Nat := 0xC128
abbrev POD_CLAIM_REFUSED : Nat := 0xC130
abbrev POD_FENCE_COUNT : Nat := 0xC138
abbrev POD_SELFTEST_FAIL : Nat := 0xC140
abbrev POD_TAKEOVERS : Nat := 0xC148
abbrev MON_CTRL : Nat := 0xD020
abbrev MON_STATUS : Nat := 0xD024
abbrev MON_PWM : Nat := 0xD028
abbrev MON_BROKEN : Nat := 0xD02C
abbrev MON_RESULT_LOST : Nat := 0xD030
abbrev MON_C_START (i : Nat) : Nat := 0xD100 + 0x20 * i
abbrev MON_C_DELAY (i : Nat) : Nat := 0xD104 + 0x20 * i
abbrev MON_C_STATE (i : Nat) : Nat := 0xD108 + 0x20 * i
abbrev MON_C_MISS (i : Nat) : Nat := 0xD110 + 0x20 * i
abbrev MON_SLOT_ROUTE (i : Nat) : Nat := 0xD200 + 0x10 * i
abbrev MON_SLOT_CONV (i : Nat) : Nat := 0xD204 + 0x10 * i
abbrev MON_SLOT_LAST (i : Nat) : Nat := 0xD208 + 0x10 * i
abbrev GRD_CTRL : Nat := 0xE020
abbrev GRD_STATUS : Nat := 0xE024
abbrev GRD_HOLD : Nat := 0xE028
abbrev GRD_CONV : Nat := 0xE02C
abbrev GRD_PW_LEN : Nat := 0xE030
abbrev GRD_PW_DATA : Nat := 0xE034
abbrev GRD_PW_RES : Nat := 0xE038
abbrev GRD_SESSION : Nat := 0xE03C
abbrev GRD_OUT_STATE (i : Nat) : Nat := 0xE040 + 0x4 * i
abbrev GRD_H_CFG (i : Nat) : Nat := 0xE060 + 0x4 * i
abbrev GRD_LOG_SEQ : Nat := 0xE080
abbrev GRD_LOG_OLDEST : Nat := 0xE084
abbrev GRD_LOG_SEL : Nat := 0xE088
abbrev GRD_LOG_HEAD (i : Nat) : Nat := 0xE0A0 + 0x4 * i
abbrev GRD_LOG_DATA (i : Nat) : Nat := 0xE0C0 + 0x4 * i
abbrev GRD_P_CFG (i : Nat) : Nat := 0xE200 + 0x10 * i
abbrev GRD_P (i : Nat) : Nat := 0xE204 + 0x10 * i
abbrev GRD_SCALE_GAIN (i : Nat) : Nat := 0xE300 + 0x8 * i
abbrev GRD_SCALE_OFFSET (i : Nat) : Nat := 0xE304 + 0x8 * i
abbrev SEC_CTRL : Nat := 0xF020
abbrev SEC_STATUS : Nat := 0xF024
abbrev SEC_IMAGE : Nat := 0xF028
abbrev INT_CTRL : Nat := 0x10020
abbrev INT_SUM_FUNC : Nat := 0x10024
abbrev INT_SUM_QUAD : Nat := 0x10028
abbrev CMT_CTRL : Nat := 0x11020
abbrev CMT_STATUS : Nat := 0x11024
abbrev CMT_TARGET : Nat := 0x11028
abbrev CMT_WAIT : Nat := 0x11030
abbrev CMT_LATE : Nat := 0x11034
abbrev CMT_FIRST_SLICE : Nat := 0x11038
abbrev CMT_MERGE_END : Nat := 0x11040
abbrev CMT_DONE : Nat := 0x11050
abbrev CMT_REFUSED : Nat := 0x11058
abbrev PQ_COUNT (i : Nat) : Nat := 0x12100 + 0x100 * i
abbrev PQ_CMD (i : Nat) : Nat := 0x12104 + 0x100 * i
abbrev PQ_STATUS (i : Nat) : Nat := 0x12108 + 0x100 * i
abbrev PQ_LOST (i : Nat) : Nat := 0x12110 + 0x100 * i
abbrev QD_LINK_CTRL (port : Nat) : Nat := 0x020000 + port / 4 * 0x1000 + 0x40 * (port % 4) + 0x100
abbrev QD_LINK_STATE (port : Nat) : Nat := 0x020000 + port / 4 * 0x1000 + 0x40 * (port % 4) + 0x104
abbrev QD_DELAY (port : Nat) : Nat := 0x020000 + port / 4 * 0x1000 + 0x40 * (port % 4) + 0x108
abbrev QD_DELAY_UP (port : Nat) : Nat := 0x020000 + port / 4 * 0x1000 + 0x40 * (port % 4) + 0x10C
abbrev QD_ASYM (port : Nat) : Nat := 0x020000 + port / 4 * 0x1000 + 0x40 * (port % 4) + 0x110
abbrev QD_EYE (port : Nat) : Nat := 0x020000 + port / 4 * 0x1000 + 0x40 * (port % 4) + 0x114
abbrev QD_SYNC_ERR (port : Nat) : Nat := 0x020000 + port / 4 * 0x1000 + 0x40 * (port % 4) + 0x118
abbrev QD_CW_ERR (port : Nat) : Nat := 0x020000 + port / 4 * 0x1000 + 0x40 * (port % 4) + 0x120
abbrev QD_SORT_CTRL (port : Nat) : Nat := 0x020000 + port / 4 * 0x1000 + 0x40 * (port % 4) + 0x128
abbrev QD_MARGIN (port : Nat) : Nat := 0x020000 + port / 4 * 0x1000 + 0x40 * (port % 4) + 0x12C
abbrev QD_HORIZON (port : Nat) : Nat := 0x020000 + port / 4 * 0x1000 + 0x40 * (port % 4) + 0x130
abbrev QD_QUEUE (port : Nat) : Nat := 0x020000 + port / 4 * 0x1000 + 0x40 * (port % 4) + 0x138
abbrev RMT_CTRL : Nat := 0x40020
abbrev RMT_STATUS : Nat := 0x40024
abbrev RMT_TIMEOUT : Nat := 0x40028
abbrev RMT_REQ_DATA : Nat := 0x40030
abbrev RMT_REQ : Nat := 0x40034
abbrev RMT_FC_PORTS (i : Nat) : Nat := 0x40040 + 0x4 * i
abbrev RMT_FC_CMD : Nat := 0x40050
abbrev RMT_FC_TILES : Nat := 0x40054
abbrev RMT_FC_TICK : Nat := 0x40058
abbrev RMT_FC_STATUS : Nat := 0x40060
abbrev RMT_FC_SENT : Nat := 0x40068
abbrev RMT_TIMEOUTS : Nat := 0x40070
abbrev TW_INDEX (window : Nat) : Nat := 0x041020 + 0x1000 * window
abbrev TW_STATUS (window : Nat) : Nat := 0x041024 + 0x1000 * window
abbrev TW_DATA3 (window : Nat) : Nat := 0x041028 + 0x1000 * window
abbrev TW_DATA2 (window : Nat) : Nat := 0x04102C + 0x1000 * window
abbrev TW_DATA1 (window : Nat) : Nat := 0x041030 + 0x1000 * window
abbrev TW_DATA0 (window : Nat) : Nat := 0x041034 + 0x1000 * window
abbrev RATE_REGION (m : Nat) : Nat := 0x8200 + 4 * m
abbrev PQ_REC (queue n : Nat) : Nat := 0x12140 + 0x100 * queue + 4 * n

end Sys2Proof.Machine.Reg
end

