-- ==== Sys2Proof/Machine/JilekOps.lean ====
section
/-!
DEFINITION. The shared operations of the Jilek: time, registers and counters, status words, the values in force at a
hit tick (R46), uplink words, refusal and flush accounting (R92 to R96), runs that become due (R66).
-/

namespace Sys2Proof.Machine

/-- One tick in femtoseconds: 3.125 ns. -/
def tickFs : Nat := 3125000

/-- One code of phase, 2.5 ps, in femtoseconds (R114). -/
def codeFs : Nat := 2500

/-- The codes by which `n` tick edges together move: at most 40 each, until none is left (R114). -/
def Jilek.moved (j : Jilek) (n : Nat) : Int := max (-(40 * n : Int)) (min (40 * n : Int) j.slew)

/-- `n` tick edges pass at the Jilek; no command waits. -/
def Jilek.tickOn (n : Nat) (j : Jilek) : Jilek :=
  { j with
    tick := j.tick + BitVec.ofNat 48 n, up := j.up + n, shift := j.shift + j.moved n, slew := j.slew - j.moved n
    edgeMove := if n = 0 then j.edgeMove else j.moved n - j.moved (n - 1) }

/-- The instant `fs` femtoseconds after the current tick edge: phase steps have moved the edges (R59, R114). -/
def Jilek.now (j : Jilek) (fs : Nat) : Nat := ((j.up * tickFs + fs : Int) + j.shift * codeFs).toNat

/-- How long after the current tick edge the `k`-th edge from now falls. -/
def Jilek.edgeAfter (j : Jilek) (k : Nat) : Nat := ((k * tickFs : Int) + j.moved k * codeFs).toNat

/-- The number of tick edges up to and including the first one later than `fs` after the current one. -/
def Jilek.edgesTo (j : Jilek) (fs : Nat) : Nat :=
  let k := fs / tickFs
  if fs < j.edgeAfter k then k else if fs < j.edgeAfter (k + 1) then k + 1 else k + 2

/-! ### Registers and counters -/

/-- The row and the copy number at a byte offset of a page. -/
def findRow : List RegRow → Nat → Option (RegRow × Nat)
  | [], _ => none
  | r :: l, off =>
    if r.off ≤ off ∧ off < r.off + (r.count - 1) * r.stride + 4 ∧ (r.stride = 0 ∨ (off - r.off) % r.stride = 0)
      ∧ (r.stride ≠ 0 ∨ off = r.off)
    then some (r, if r.stride = 0 then 0 else (off - r.off) / r.stride)
    else findRow l off

/-- The row of a Jilek address (R329); none where no register stands there. -/
def jilekRow (addr : Nat) : Option RegRow :=
  if addr % 4 = 0 then (findRow (jilekRows (addr / 0x1000)) (addr % 0x1000)).map Prod.fst else none

/-- The reset value of a Jilek register (R7). -/
def jilekReset (addr : Nat) : Word :=
  match jilekRow addr with
  | some r => BitVec.ofNat 32 r.reset
  | none => 0

/-- The RW and W1C bits in force of a Jilek register. -/
def Jilek.reg (j : Jilek) (addr : Nat) : Word := fget (jilekReset addr) j.regs addr

/-- Put a value in force in a Jilek register. -/
def Jilek.setReg (j : Jilek) (addr : Nat) (v : Word) : Jilek :=
  { j with regs := fset (jilekReset addr) j.regs addr v }

/-- The largest value of a counter (R45). -/
def maxCount : Nat := 2 ^ 48 - 1

/-- A counter after `n` more events: it stops at 2^48 − 1 and sets its sat bit there (R45, R64, R102). -/
def ctrAdd (c : Ctr) (n : Nat) : Ctr :=
  { val := if c.val + n > maxCount then maxCount else c.val + n, sat := c.sat || decide (c.val + n ≥ maxCount) }

/-- The counter whose _LO stands at an address. -/
def Jilek.ctr (j : Jilek) (addr : Nat) : Ctr := fget {} j.counters addr

/-- Clear a counter and its sat bit. -/
def Jilek.clearCtr (addr : Nat) (j : Jilek) : Jilek := { j with counters := fset {} j.counters addr {} }

/-! ### Uplinks and words -/

/-- The uplink that carries tile `t`, and so its merge and framer (R85): 0 in redundant mode. -/
def Jilek.linkOf (j : Jilek) (t : Nat) : Fin 2 :=
  if fld (j.reg Reg.TP_CTRL) 0 0 = 1 then (if bit (j.reg Reg.TP_LINK_MAP).toNat t then 1 else 0) else 0

/-- The chip is in aggregated mode (R85). -/
def Jilek.aggregated (j : Jilek) : Bool := bit (j.reg Reg.TP_CTRL).toNat 0

/-- The uplinks that carry tile `t`: both in redundant mode. -/
def Jilek.linksOf (j : Jilek) (t : Nat) : List (Fin 2) :=
  if j.aggregated then [j.linkOf t] else [0, 1]

/-- Some uplink that carries tile `t` is in its data state. -/
def Jilek.tileInData (j : Jilek) (t : Nat) : Bool := (j.linksOf t).any (fun u => j.upState[u] == .data)

/-- Change a framer. -/
def Jilek.modFramer (u : Fin 2) (f : Framer → Framer) (j : Jilek) : Jilek :=
  { j with framers := j.framers.set u (f j.framers[u]) }

/-- Change a merge. -/
def Jilek.modMerge (u : Fin 2) (f : Merge → Merge) (j : Jilek) : Jilek :=
  { j with merges := j.merges.set u (f j.merges[u]) }

/-- Change a downlink receiver. -/
def Jilek.modDown (d : Fin 2) (f : Downlink → Downlink) (j : Jilek) : Jilek :=
  { j with downlinks := j.downlinks.set d (f j.downlinks[d]) }

/-- The other uplink or downlink. -/
def other (d : Fin 2) : Fin 2 := if d = 0 then 1 else 0

/-- The framer that sends status words and register responses, chosen as they leave (R106). -/
def Jilek.replyFramer (j : Jilek) : Fin 2 :=
  if j.aggregated then
    match j.lease with
    | some l => if j.upState[l.owner] == .off then other l.owner else l.owner
    | none => if j.upState[(0 : Fin 2)] == .off then 1 else 0
  else 0

/-- Queue a status word (R106). -/
def Jilek.status (code a b : Nat) (j : Jilek) : Jilek :=
  { j with statuses := j.statuses ++ [controlWord sStatus (statusPayload code a b)] }

/-- Count `n` events; the first saturation raises status 0x02 with the counter's page and offset (R45, R102, R106). -/
def Jilek.count (addr n : Nat) (j : Jilek) : Jilek :=
  let c := j.ctr addr
  let c' := ctrAdd c n
  let j' := { j with counters := fset {} j.counters addr c' }
  if c'.sat && !c.sat then j'.status 0x02 (addr / 0x1000) (addr % 0x1000) else j'

/-! ### Cells and tiles -/

/-- A cell (R11). -/
def Jilek.cell (j : Jilek) (c : Nat) : CellState := fget {} j.cells c

/-- Change a cell. -/
def Jilek.modCell (c : Nat) (f : CellState → CellState) (j : Jilek) : Jilek := { j with cells := fmod {} j.cells c f }

/-- A tile (R11). -/
def Jilek.tile (j : Jilek) (t : Nat) : TileState := fget {} j.tiles t

/-- Change a tile. -/
def Jilek.modTile (t : Nat) (f : TileState → TileState) (j : Jilek) : Jilek := { j with tiles := fmod {} j.tiles t f }

/-- The key of a cell entry in the staged values. -/
def cellKey (c : Nat) : Nat := 0x10000 + c

/-- The tile's power domain is on (R369). -/
def Jilek.tileOn (j : Jilek) (t : Nat) : Bool := bit (j.reg Reg.JPW_TILE_ON).toNat t

/-- The pending commit switches at tick `h` or before it (R338, R46). -/
def Jilek.switchedBy (j : Jilek) (h : Tick) : Bool :=
  match j.commit with
  | some c => notBefore h c.switchAt
  | none => false

/-- The entry of a cell in force at tick `h` (R46). -/
def Jilek.entryAt (j : Jilek) (c : Nat) (h : Tick) : BitVec 10 :=
  match (if j.switchedBy h then fget none j.taken (cellKey c) else none) with
  | some w => w.setWidth 10
  | none => (j.cell c).entry

/-- The value of a register with Applies "commit" in force at tick `h` (R46). -/
def Jilek.regAt (j : Jilek) (addr : Nat) (h : Tick) : Word :=
  match (if j.switchedBy h then fget none j.taken addr else none) with
  | some w => w
  | none => j.reg addr

/-- The bits of a cell entry (R44). -/
def entMask (e : BitVec 10) : Bool := e.getLsbD 6
def entExpress (e : BitVec 10) : Bool := e.getLsbD 7
def entTpEn (e : BitVec 10) : Bool := e.getLsbD 8
def entFeOff (e : BitVec 10) : Bool := e.getLsbD 9

/-- 50 µs in ticks (R31). -/
def settleTicks : Nat := 16000

/-- The cell acts as masked for a crossing with hit tick `h` (R31, R37, R369). -/
def Jilek.maskedAt (j : Jilek) (c : Nat) (h : Tick) : Bool :=
  let s := j.cell c
  let e := j.entryAt c h
  -- the 50 µs of R31 begin at the switch that clears fe_off, so a hit at the switch tick itself is masked
  entMask e || entFeOff e || entFeOff s.entry || s.stuck || !j.tileOn (c / 64)
    || (match s.settle with | some u => decide (j.up < u + settleTicks) | none => false)

/-- The resume tick of a run that started at `s` (R70). -/
def resumeTick (s : Tick) : Tick := s + 81920

/-- The tile's run closes it for a crossing with hit tick `h` (R71): from S up to the resume tick. -/
def Jilek.closedAt (j : Jilek) (t : Nat) (h : Tick) : Bool :=
  match (j.tile t).run with
  | some r => notBefore h r.s && later (resumeTick r.s) h
  | none => false

/-- The stale flag in force at tick `h` (R75). -/
def Jilek.staleAt (j : Jilek) (t : Nat) (h : Tick) : Bool :=
  let s := j.tile t
  match s.run with
  | some r => s.stale && !(r.phase == .complete && notBefore h (resumeTick r.s))
  | none => s.stale

/-- The trim of an entry (R44). -/
def entTrim (e : BitVec 10) : BitVec 6 := e.setWidth 6

/-- Put a cell entry in force; a fall of fe_off starts the 50 µs of R31, a new trim the settling of R30. -/
def Jilek.setEntry (c : Nat) (e : BitVec 10) (j : Jilek) : Jilek :=
  j.modCell c (fun s =>
    { s with entry := e,
             trimWas := if entTrim e = entTrim s.entry then s.trimWas else entTrim s.entry,
             trimAt := if entTrim e = entTrim s.entry then s.trimAt else some j.up,
             settle := if entFeOff e then none else if entFeOff s.entry then some j.up else s.settle })

/-! ### Refusals, dead-time reports and flushes -/

/-- The smallest of some ticks, seen from tick `d` (R125). -/
def minTick (d : Tick) (l : List Tick) : Tick := l.foldl earliest d

/-- The largest of some ticks, seen from tick `d` (R125). -/
def maxTick (d : Tick) (l : List Tick) : Tick := l.foldl latest d

/-- Queue a dead-time report on the uplinks that carry the tile. -/
def Jilek.report (cause t count length : Nat) (start : Tick) (j : Jilek) : Jilek :=
  j.modFramer (j.linkOf t) (fun f =>
    { f with deadTime := f.deadTime ++
        [controlWord sDeadTime (deadTimePayload cause t count length (start.toNat % 65536))] })

/-- Report a span from `a` to `b`, in consecutive reports of at most 4,095 ticks (R93). -/
def Jilek.reportSpan (cause t : Nat) (hits : List Tick) : Nat → Tick → Tick → Jilek → Jilek
  | 0, _, _, j => j
  | fuel + 1, a, b, j =>
    if later b a then
      let len := cap 4095 (tickDiff b a)
      let e := a + BitVec.ofNat 48 len
      let inside := hits.filter (fun h => notBefore h a && later e h)
      Jilek.reportSpan cause t hits fuel e b (j.report cause t inside.length len a)
    else j

/-- The reports of one span: from the smallest hit tick to the largest plus one (R92, R95). -/
def Jilek.reportHits (cause t : Nat) (hits : List Tick) (atLeast : Option Tick) (j : Jilek) : Jilek :=
  match hits with
  | [] => j
  | h :: l =>
    let a := minTick h l
    let e := maxTick h l + 1
    let b := match atLeast with | some x => latest e x | none => e
    j.reportSpan cause t hits (tickDiff b a / 4095 + 1) a b

/-- A record with hit tick `h` is refused at tile `t` (R89, R92, R96). -/
def Jilek.refuse (t : Nat) (h : Tick) (j : Jilek) : Jilek :=
  if j.tileInData t then
    j.modTile t (fun s =>
      match s.span with
      | some p => { s with span := some { p with lastAt := j.up, hits := p.hits ++ [h] } }
      | none => { s with span := some ⟨j.up, j.up, [h]⟩ })
  else j.count (Reg.TP_REFUSED t) 1

/-- Close the tile's open refusal span (R92): report it and count every record refused in it. -/
def Jilek.closeSpan (t : Nat) (j : Jilek) : Jilek :=
  match (j.tile t).span with
  | none => j
  | some p => ((j.modTile t (fun s => { s with span := none })).reportHits 0 t p.hits none).count
      (Reg.TP_REFUSED t) p.hits.length

/-- The hit tick of a record in a tile queue. -/
def QRec.tick (r : QRec) : Tick := r.w1.setWidth 48

/-- Flush the tile's queue (R95), with further lost hit ticks `more`, of which `latched` are records in latches, and
the span reaching at least to `atLeast` (R96): the records are removed, a record half read leaves as a poisoned terminator, and a report of cause flush
follows where at least one record was removed. DESIGN CHOICE (log entry 162): a service cut by the flush is not a turn, and
the tile served last stays as it was. -/
def Jilek.flushTile (t : Nat) (more : List Tick) (latched : Nat) (atLeast : Option Tick) (j : Jilek) : Jilek :=
  let u := j.linkOf t
  let s := j.tile t
  let half := match j.merges[u].half with
    | some h => if h.tile = t then some h else none
    | none => none
  let lost := (s.queue.map QRec.tick) ++ more
  let j1 := j.modTile t (fun s => { s with queue := [] })
  let j2 := match half, s.queue with
    | some h, q :: _ =>
      (j1.modMerge u (fun m => { m with half := none })).modFramer u (fun f =>
        { f with records := f.records ++ [⟨.terminator, t, h.w0, q.tick, q.tick⟩] })
    | _, _ => j1
  if lost = [] then j2
  else (j2.reportHits 1 t lost atLeast).count Reg.TP_FLUSHED (s.queue.length + latched)

/-! ### Calibration words and due runs -/

/-- Queue a calibration-result word on the uplinks that carry the tile (R77). -/
def Jilek.calWord (t payload : Nat) (start : Bool) (j : Jilek) : Jilek :=
  j.modFramer (j.linkOf t) (fun f => { f with cal := f.cal ++ [⟨controlWord sCal payload, t, start⟩] })

/-- A run of the tile becomes due (R66): nothing is added while one is due or running. -/
def Jilek.runDue (t : Nat) (cause : BitVec 2) (forced : Bool) (j : Jilek) : Jilek :=
  let s := j.tile t
  if s.due.isSome || s.run.isSome then j
  else j.modTile t (fun s => { s with due := some ⟨cause, forced, j.up⟩, stale := true, cause := cause })

/-- Abort the tile's run with an outcome (R80): the old masks stay, a report follows, the tile stays closed until R. -/
def Jilek.abortRun (t : Nat) (outcome : Nat) (j : Jilek) : Jilek :=
  match (j.tile t).run with
  | some r =>
    (j.modTile t (fun s =>
      { s with
        run := some { r with phase := .aborted }
        cause := 0
        outcome := BitVec.ofNat 3 outcome
        reported := true })).calWord t
      (runReportPayload t outcome (j.tile t).seq.toNat (r.s.toNat % 2 ^ 20)) false
  | none => j

/-- The run's step 7 has come at tick `now`: from S + 57,344 (R80). -/
def fromStep7 (r : Run) (now : Tick) : Bool := notBefore now (r.s + 57344)

/-- A cancel (outcome 4) or RESET_TILE (outcome 5) meets the tile's run (R80). DESIGN CHOICE (log entry 163): once the
report is formed at step 9, neither changes its outcome. -/
def Jilek.interruptRun (t : Nat) (outcome : Nat) (j : Jilek) : Jilek :=
  match (j.tile t).run with
  | some r =>
    if r.phase = .aborted ∨ r.phase = .complete then j
    else if fromStep7 r j.tick then j.modTile t (fun s => { s with run := some { r with refused := true } })
    else j.abortRun t outcome
  | none => j

end Sys2Proof.Machine
end

