-- ==== Sys2Proof/Machine/BolovOps.lean ====
section
/-!
DEFINITION. The shared operations of the Bolov: time, registers, counters, events and queues (17 R318 to R327), slices
and maps in force (08), notices and dead-time records (08 R154, 09 R179, 10 R205 to R207).
-/

namespace Sys2Proof.Machine

/-! ### Time -/

/-- Time of day wraps with its 64-bit seconds (R126). -/
def todMod : Nat := 2 ^ 64 * 1000000000 * 2 ^ 32

/-- `n` tick edges are counted: each adds INCR to time of day (R127). -/
def Bolov.pass (n : Nat) (b : Bolov) : Bolov :=
  { b with
    tick := b.tick + BitVec.ofNat 48 n
    up := b.up + n
    time := { b.time with tod := (b.time.tod + n * b.time.incr) % todMod, slew := b.time.slew - 40 * n } }

/-- 1 ms, 1 µs, 1 s, 10 ms, 50 µs and 10 µs in ticks. -/
def ticksMs : Nat := 320000
def ticksUs : Nat := 320
def ticksS : Nat := 320000000

/-- A moment less than 2^46 ticks (2.5 days) ago. What is older bears on no slice in flight and on no window that is open, and
its tick numbers return as the counter wraps (R125). -/
def Bolov.recent (b : Bolov) (at' : Nat) : Bool := decide (b.up < at' + 2 ^ 46)

/-! ### Registers -/

/-- The reset value of a Bolov register (R7); `RATE_REGION` carries group region div 32. -/
def bolovReset (addr : Nat) : Word :=
  if 0x8200 ≤ addr ∧ addr < 0x8300 then BitVec.ofNat 32 (0x10101010 * ((addr - 0x8200) / 4 / 8))
  else match findRow (bolovRows (addr / 0x1000)) (addr % 0x1000) with
    | some (r, _) => BitVec.ofNat 32 r.reset
    | none => 0

/-- The stored bits of a register: its RW and W1C fields, and EVT_RAW. -/
def Bolov.reg (b : Bolov) (addr : Nat) : Word := fget (bolovReset addr) b.regs addr

/-- Store the bits of a register. -/
def Bolov.setReg (addr : Nat) (v : Word) (b : Bolov) : Bolov :=
  { b with regs := fset (bolovReset addr) b.regs addr v }

/-- Set or clear one stored bit. -/
def Bolov.setRegBit (addr i : Nat) (v : Bool) (b : Bolov) : Bolov := b.setReg addr (setBit (b.reg addr) i v)

/-- Bit i of a register. -/
def Bolov.regBit (b : Bolov) (addr i : Nat) : Bool := bit (b.reg addr).toNat i

/-- Bits [hi:lo] of a register. -/
def Bolov.regFld (b : Bolov) (addr hi lo : Nat) : Nat := fld (b.reg addr) hi lo

/-- A LO/HI value of RW registers. -/
def Bolov.reg64 (b : Bolov) (addr : Nat) : Nat := (b.reg addr).toNat + 2 ^ 32 * (b.reg (addr + 4)).toNat

/-- Store a LO/HI value. -/
def Bolov.setReg64 (addr v : Nat) (b : Bolov) : Bolov :=
  (b.setReg addr (BitVec.ofNat 32 v)).setReg (addr + 4) (BitVec.ofNat 32 (v / 2 ^ 32))

/-! ### Queues (R325 to R327) -/

/-- The queue numbers of R325. -/
def qHostCmd : Fin 8 := 0
def qHostRsp : Fin 8 := 1
def qEventLog : Fin 8 := 2
def qReplayReq : Fin 8 := 3
def qReplayDone : Fin 8 := 4
def qMonResult : Fin 8 := 5
def qGuardLog : Fin 8 := 6
def qRemoteRsp : Fin 8 := 7

/-- Words per record, and records, of a queue. -/
def qWords (q : Fin 8) : Nat := [8, 8, 2, 4, 4, 2, 8, 2].getD q 0
def qCap (q : Fin 8) : Nat := [16, 16, 1024, 64, 64, 1024, 64, 1024].getD q 0

/-- The queue is written by the host. -/
def qFromHost (q : Fin 8) : Bool := q == 0 || q == 3

/-- Change a queue. -/
def Bolov.modQueue (q : Fin 8) (f : Queue → Queue) (b : Bolov) : Bolov :=
  { b with queues := b.queues.set q (f b.queues[q]) }

/-- A record is free to reserve (R325). -/
def Bolov.qRoom (b : Bolov) (q : Fin 8) : Bool :=
  decide (b.queues[q].records.length + b.queues[q].reserved < qCap q)

/-- Reserve a record of a lossless queue. -/
def Bolov.qReserve (q : Fin 8) (b : Bolov) : Bolov := b.modQueue q (fun x => { x with reserved := x.reserved + 1 })

/-- Post a record to a lossless queue, in the place reserved for it. -/
def Bolov.qPost (q : Fin 8) (r : List W64) (b : Bolov) : Bolov :=
  b.modQueue q (fun x => { records := x.records ++ [r], reserved := x.reserved - 1 })

/-! ### Counters and events (R318, R322) -/

/-- The key of a counter: the address of its _LO, and which copy. -/
def ctrKey (lo copy : Nat) : Nat := lo + copy * 2 ^ 24

/-- A counter. -/
def Bolov.ctr (b : Bolov) (lo copy : Nat) : Ctr := fget {} b.counters (ctrKey lo copy)

/-- Clear a counter and its sat bit. -/
def Bolov.clearCtr (lo copy : Nat) (b : Bolov) : Bolov := { b with counters := fset {} b.counters (ctrKey lo copy) {} }

/-- Clear `n` copies of a counter. -/
def Bolov.clearCtrs (lo n : Nat) (b : Bolov) : Bolov := forUpTo n (fun i => Bolov.clearCtr lo i) b

/-- The page header registers (R321). -/
def evtCtrl (page : Nat) : Nat := page * 0x1000 + 0x008
def evtRaw (page : Nat) : Nat := page * 0x1000 + 0x010
def evtEn (page : Nat) : Nat := page * 0x1000 + 0x014
def evtClr (page : Nat) : Nat := page * 0x1000 + 0x018
def evtPins (page : Nat) : Nat := page * 0x1000 + 0x01C

/-- The pending set of a page: EVT_RAW & EVT_EN. -/
def Bolov.pendingSet (b : Bolov) (page : Nat) : Word := b.reg (evtRaw page) &&& b.reg (evtEn page)

/-- A page owes an IBI (R322). -/
def Bolov.owe (page : Nat) (b : Bolov) : Bolov :=
  if b.regBit (evtCtrl page) 0 && !b.owed.contains page then { b with owed := b.owed ++ [page] } else b

/-- Append an EVENT_LOG record (R325, R327): a full queue drops it and counts the drop. -/
def Bolov.logEvent (page e : Nat) (b : Bolov) : Bolov :=
  if b.qRoom qEventLog then
    { b.modQueue qEventLog (fun x => { x with records := x.records ++
        [[word64 [(12, page), (5, e), (1, b2n b.logLost), (46, 0)], word64 [(16, 0), (48, b.tick.toNat)]]] }) with
      logLost := false }
  else
    { b with
      logLost := true
      counters := fset {} b.counters (ctrKey (Reg.PQ_LOST 2) 0) (ctrAdd (b.ctr (Reg.PQ_LOST 2) 0) 1) }

/-- EVENT_RAISE (R322): event `e` of a page. An event that finds its bit set changes nothing. -/
def Bolov.raise (page e : Nat) (b : Bolov) : Bolov :=
  if b.regBit (evtRaw page) e then b
  else
    let empty := decide (b.pendingSet page = 0)
    let b1 := b.setRegBit (evtRaw page) e true
    let b2 := if b1.regBit (evtCtrl page) 1 then b1.logEvent page e else b1
    if empty && decide (b2.pendingSet page ≠ 0) then b2.owe page else b2

/-- The counter_sat event of the page of a counter (R318): the page of the timing port lists no number for it. -/
def satEvent (lo : Nat) : Option Nat :=
  let page := lo / 0x1000
  if 0x020 ≤ page ∧ page < 0x040 then some (8 * ((lo % 0x1000 - 0x100) / 0x40) + 4)
  else match page with
    | 0x000 => some 1
    | 0x004 => some Config.ptpSatEvent
    | 0x005 => some 7
    | 0x006 => some 5
    | 0x007 => some 3
    | 0x008 => some 3
    | 0x009 => some 16
    | 0x00A => some 4
    | 0x00B => some 9
    | 0x00C => some 8
    | 0x00D => some 6
    | 0x011 => some 5
    | 0x040 => some 3
    | _ => none

/-- Count `n` events in copy `copy` of a counter; its first saturation raises counter_sat (R318). -/
def Bolov.countAt (lo copy n : Nat) (b : Bolov) : Bolov :=
  let c := b.ctr lo copy
  let c' := ctrAdd c n
  let b1 := { b with counters := fset {} b.counters (ctrKey lo copy) c' }
  if c'.sat && !c.sat then
    match satEvent lo with
    | some e => b1.raise (lo / 0x1000) e
    | none => b1
  else b1

/-- Count in a counter that has one copy. -/
def Bolov.count (lo n : Nat) (b : Bolov) : Bolov := b.countAt lo 0 n

/-- Post a record to a lossy queue; a full queue drops it and counts the drop (R325). -/
def Bolov.qOffer (q : Fin 8) (r : List W64) (b : Bolov) : Bolov :=
  if b.qRoom q then b.modQueue q (fun x => { x with records := x.records ++ [r] })
  else b.count (if q = qMonResult then Reg.MON_RESULT_LOST else Reg.PQ_LOST q) 1

/-! ### Ports -/

/-- A port (R12). -/
def Bolov.port (b : Bolov) (p : Nat) : PortState := fget {} b.ports p

/-- Change a port. -/
def Bolov.modPort (p : Nat) (f : PortState → PortState) (b : Bolov) : Bolov := { b with ports := fmod {} b.ports p f }

/-- The quad page of a port, and event k of the port on it (R321). -/
def quadPage (p : Nat) : Nat := 0x020 + p / 4
def Bolov.raisePort (p k : Nat) (b : Bolov) : Bolov := b.raise (quadPage p) (8 * (p % 4) + k)

/-- The bit of `PWR_DOM_ONk` of a power domain of the Bolov (R368). -/
def Bolov.domBit (b : Bolov) (d : Nat) : Bool :=
  b.regBit (if d < 32 then Reg.PWR_DOM_ON0 else if d < 64 then Reg.PWR_DOM_ON1 else Reg.PWR_DOM_ON2) (d % 32)

/-- A power domain works (R368): it is on as written and as `PWR_DOM_STATE` shows. DESIGN CHOICE (log 195): a domain stops working
as its bit is cleared, and works again when PWR_DOMAIN_SWITCHED shows it on. -/
def Bolov.domOn (b : Bolov) (d : Nat) : Bool := b.domBit d && b.pwr.domState.getLsbD d

/-- The downlink transmitter of a port is on (R121, R368); a fenced partner's float (R275). -/
def Bolov.txOn (b : Bolov) (p : Nat) : Bool :=
  b.regBit (Reg.QD_LINK_CTRL p) 0 && b.domOn (p / 4) && b.pod.state != .fenced

/-- Some port is in data. -/
def Bolov.anyPortData (b : Bolov) : Bool := b.ports.any (fun e => e.2.rx == .data)

/-- 1 ns in the unit of the link delays, 2^-18 / 800 ns (R116). -/
def delayNs : Nat := 800 * 2 ^ 18

/-- ⌈x ÷ 3.125 ns⌉ of a link delay. -/
def ceilTicks (x : Int) : Nat := (-((-x) / (2500 * 2 ^ 18 : Nat))).toNat

/-- dly(p) of R157: ⌈d_up ÷ 3.125 ns⌉, or 640 without a valid delay. -/
def Bolov.dly (b : Bolov) (p : Nat) : Nat := if (b.port p).delayValid then ceilTicks (b.port p).dUp else 640

/-- ⌈d_down ÷ 3.125 ns⌉ of a port, or 640 without a valid delay (R332, R336). -/
def Bolov.downTicks (b : Bolov) (p : Nat) : Nat := if (b.port p).delayValid then ceilTicks (b.port p).dDown else 640

/-! ### Slices, maps and contexts (08) -/

/-- Change the sort engine. -/
def Bolov.modSort (f : SortState → SortState) (b : Bolov) : Bolov := { b with sort := f b.sort }

/-- L of R145: bits [2:0] read zero, from 8 to 512. -/
def Bolov.sliceLen (b : Bolov) : Nat :=
  let v := b.regFld Reg.SORT_SLICE_LEN 9 3 * 8
  if v < 8 then 8 else if v > 512 then 512 else v

/-- S0 (R145). -/
def Bolov.s0 (b : Bolov) : Tick := BitVec.ofNat 48 (b.reg64 Reg.SORT_S0)

/-- The number of the slice that holds a tick, reckoned from the slice to open next and so across wraps of the counter (R145);
negative before S0. -/
def Bolov.sliceNum (b : Bolov) (t : Tick) : Int := b.sort.nextSlice + tickGap t b.sort.nextStart / (b.sliceLen : Int)

/-- The slice number of a tick, where it lies in slice 0 to the final slice (R147). -/
def Bolov.sliceInRun (b : Bolov) (t : Tick) : Option Nat :=
  let n := b.sliceNum t
  if n < 0 then none
  else match b.sort.final with
    | some f => if n ≤ f then some n.toNat else none
    | none => some n.toNat

/-- The start tick of a slice (R145). -/
def Bolov.sliceStart (b : Bolov) (n : Nat) : Tick :=
  b.sort.nextStart + BitVec.ofInt 48 (((n : Int) - b.sort.nextSlice) * b.sliceLen)

/-- The offset of a tick from the start of its slice (R145). -/
def Bolov.inSliceOffset (b : Bolov) (t : Tick) : Nat := (tickGap t b.sort.nextStart % (b.sliceLen : Int)).toNat

/-- EK-4 compatibility mode (R188). -/
def Bolov.ek4 (b : Bolov) : Bool := b.regBit Reg.OUT_CTRL 1

/-- A region-map entry: none where excluded (R148). -/
def SliceCfg.region (c : SliceCfg) (port tile : Nat) : Option Nat :=
  let e := fget (0x0100#16) c.regionMap (port * 32 + tile)
  if bit e.toNat 8 then none else some (e.toNat % 256)

/-- `RATE_REGION` of a region (R210). -/
def SliceCfg.rate (c : SliceCfg) (r : Nat) : Nat :=
  match fget none c.rateRegion r with
  | some v => v.toNat
  | none => r / 32 * 16

/-- The lane of a steering entry (R182). -/
def SliceCfg.lane (c : SliceCfg) (i : Nat) : Nat :=
  match fget none c.steering i with
  | some v => v.toNat
  | none => i % 16

/-- The fe_id copy of a port (R342). -/
def SliceCfg.feId (c : SliceCfg) (p : Nat) : BitVec 16 := fget 0 c.feIds p

/-- The end tick of a slice. -/
def Bolov.sliceEnd (b : Bolov) (s : Slice) : Tick := s.start + BitVec.ofNat 48 b.sliceLen

/-- Tick `t` lies in a slice. -/
def Bolov.inSlice (b : Bolov) (s : Slice) (t : Tick) : Bool := notBefore t s.start && later (b.sliceEnd s) t

/-- The slice that holds a tick, among those opened and not yet emitted. -/
def Bolov.sliceOf (b : Bolov) (t : Tick) : Option Slice := b.sort.slices.find? (fun s => b.inSlice s t)

/-- Change the slice of a number. -/
def Bolov.modSlice (n : Nat) (f : Slice → Slice) (b : Bolov) : Bolov :=
  { b with sort := { b.sort with slices := b.sort.slices.map (fun s => if s.num = n then f s else s) } }

/-- The configuration in force at a tick: the one replaced first after it, or the present one. -/
def Bolov.cfgAt (b : Bolov) (t : Tick) : SliceCfg :=
  match (b.sort.oldCfgs.filter (fun e => b.recent e.at' && later e.until' t)).getLast? with
  | some e => e.cfg
  | none => b.sort.cfg

/-- The context index of a cell (R162). -/
def ctxIndex (port cell : Nat) : Nat := port * 2048 + cell

/-- A context as it is held (R162). -/
def Bolov.ctx (b : Bolov) (i : Nat) : BitVec 128 := fget 0 b.sort.contexts i

/-- Change a context. -/
def Bolov.modCtx (i : Nat) (f : BitVec 128 → BitVec 128) (b : Bolov) : Bolov :=
  { b with sort := { b.sort with contexts := fmod 0 b.sort.contexts i f } }

/-- Pool lines in use (R155). -/
def Bolov.poolUsed (b : Bolov) : Nat := b.sort.freshLine - b.sort.freeLines.length

/-- The lines of a slice's bins. -/
def Slice.lineCount (s : Slice) : Nat := (s.chains.map (fun e => e.2.lines.length)).foldl (· + ·) 0

/-- Backlog: lines held by bins closed or emitting (R198). -/
def Bolov.backlog (b : Bolov) : Nat :=
  (b.sort.slices.map (fun s =>
    (s.chains.map (fun e => if s.open'.getLsbD (e.1 / 128) then 0 else e.2.lines.length)).foldl (· + ·) 0)).foldl (· + ·) 0

/-! ### Notices and dead-time records -/

/-- Issue a notice. -/
def Bolov.notice (words : List W64) (after : Option Tick) (b : Bolov) : Bolov :=
  { b with notices := b.notices ++ [⟨words, after⟩] }

/-- The words of a dead-time record (R205). -/
def DtRec.words (r : DtRec) : List W64 :=
  let regional := r.scope == 3
  let sub := if r.scope = 0 then r.sub % 2048 else if r.scope = 1 then r.sub % 32 else if r.scope = 3 then r.sub % 256 else 0
  [word64 [(8, 1), (8, 3), (4, r.cause), (3, r.scope), (7, if regional then 0 else r.port), (2, 0), (32, r.count)],
   word64 [(5, 0), (11, sub), (48, r.start.toNat)],
   word64 [(16, if regional then 0 else r.feId), (48, r.stop.toNat)]]

/-- The cells of a record (R207). -/
def Bolov.dtCells (b : Bolov) (r : DtRec) : Nat :=
  let c := b.cfgAt r.start
  match r.scope with
  | 0 => 1
  | 1 => 64
  | 2 => 64 * ((List.range 32).filter (fun t => (c.region r.port t).isSome)).length
  | _ => 64 * (c.regionMap.filter (fun e => !bit e.2.toNat 8 && decide (e.2.toNat % 256 = r.sub))).length

/-- A count of records lost, saturating at 0xFFFF_FFFE; not known (R205). -/
def dtCount (n : Nat) : Nat := cap 0xFFFFFFFE n
def dtUnknown : Nat := 0xFFFFFFFF

/-- A dead-time record is counted by cause and kept (R206, R207); in EK-4 compatibility mode no notice is sent (R188). -/
def Bolov.keepDt (r : DtRec) (after : Option Tick) (b : Bolov) : Bolov :=
  let b1 := (b.countAt Reg.RATE_DT_RECORDS r.cause 1).countAt Reg.RATE_DT_CELLTICKS r.cause
    (b.dtCells r * (if later r.stop r.start then tickDiff r.stop r.start else 0))
  let b2 := { b1 with issued := (b1.up, r) :: b1.issued }
  if b2.ek4 then b2 else b2.notice r.words after

/-- Issue a dead-time record in the frame of the earliest slice that overlaps its span (R154). -/
def Bolov.issueDt (r : DtRec) (b : Bolov) : Bolov := b.keepDt r (some r.start)

/-- Issue a dead-time record in the next frame (R73). -/
def Bolov.issueDtNext (r : DtRec) (b : Bolov) : Bolov := b.keepDt r none

/-- Cause codes of R205. -/
def dtCalibration : Nat := 0
def dtAdmission : Nat := 1
def dtLate : Nat := 2
def dtFlush : Nat := 3
def dtRate : Nat := 4
def dtLinkDown : Nat := 5
def dtFailover : Nat := 6

/-- Scope codes of R205. -/
def scCell : Nat := 0
def scTile : Nat := 1
def scPort : Nat := 2
def scRegion : Nat := 3

/-- Open or extend a span of a port (R92, R151, R161). -/
def PortSpan.add (up : Nat) (t : Tick) (s : PortSpan) : PortSpan :=
  match s with
  | some p => some { p with lastAt := up, hits := p.hits ++ [t] }
  | none => some ⟨up, up, [t]⟩

/-- A span may close: 64 ticks without a refusal, or 1,024 ticks after it opened (R92). -/
def Span.over (up : Nat) (p : Span) : Bool := decide (p.lastAt + 64 ≤ up) || decide (p.openAt + 1024 ≤ up)

/-- The dead-time record of a port's span. -/
def Bolov.spanRecord (b : Bolov) (cause port : Nat) (p : Span) : DtRec :=
  let h := p.hits.headD b.tick
  { cause := cause, scope := scPort, port := port, start := minTick h p.hits, stop := maxTick h p.hits + 1,
    count := dtCount p.hits.length, feId := ((b.cfgAt h).feId port).toNat }

end Sys2Proof.Machine
end

