-- ==== Sys2Proof/Machine/Coding.lean ====
section
/-!
DEFINITION. The line coding of the links and lanes: 64b/66b blocks with the self-synchronising scrambler x^58 + x^39 + 1
(06 R103, R104; 09 R171, R172), and the additive scrambler of downlink and cross-link frames (06 R107; 14 R262).
-/

namespace Sys2Proof.Machine

/-- What the self-synchronising scrambler adds to 64 bits, first bit on top: the bits 39 and 58 places before each, taken
from the 58 line bits before them and from the line bits `c` themselves. -/
def lineTaps (prev : BitVec 58) (c : W64) : W64 :=
  let full : BitVec 122 := prev ++ c
  (full >>> 39).setWidth 64 ^^^ (full >>> 58).setWidth 64

/-- 64 payload bits scrambled: the first 39 depend on earlier line bits only, the others on those 39 as well. -/
def scramble (prev : BitVec 58) (w : W64) : W64 := w ^^^ lineTaps prev (w ^^^ lineTaps prev 0)

/-- 64 line bits descrambled. -/
def descramble (prev : BitVec 58) (c : W64) : W64 := c ^^^ lineTaps prev c

/-- The last 58 bits of 64 line bits, which the next block's scrambling depends on. -/
def lineTail (c : W64) : BitVec 58 := c.setWidth 58

/-- A block as it goes out, first bit on top: sync header 0b01 before data, 0b10 before a control block (R104, R172). -/
def lineBlock (header : BitVec 2) (c : W64) : BitVec 66 := header ++ c

/-- One step of the PRBS x^15 + x^14 + 1 (R107): the register's oldest bit goes out. -/
def prbsStep (p : Nat × Nat) : Nat × Nat :=
  let old := p.1 / 2 ^ 14
  let fb := (old + p.1 / 2 ^ 13) % 2
  (p.1 * 2 % 2 ^ 15 + fb, p.2 * 2 + old)

/-- The 124 bits that are added to bits [123:0] of a frame (R107), from a register of 0x7FFF. -/
def framePrbs : BitVec 128 := BitVec.ofNat 128 (forUpTo 124 (fun _ => prbsStep) (0x7FFF, 0)).2

/-- A downlink or cross-link frame between its plain and its line form (R107): the same addition both ways. -/
def scrambleFrame (f : BitVec 128) : BitVec 128 := f ^^^ framePrbs

end Sys2Proof.Machine
end

