-- ==== Sys2Proof/Machine/Flow.lean ====
section
/-!
DEFINITION. What runs at the Bolov as time passes: the blocks of the output lanes (09 R171, R172, R186), the pool lines that
return as a frame is sent (08 R155, R156), the held blocks (09 R190), the throttle pins (10 R204).
-/

namespace Sys2Proof.Machine

/-- Change a lane. -/
def Bolov.modLane (n : Fin 16) (f : Lane → Lane) (b : Bolov) : Bolov := { b with lanes := b.lanes.set n (f b.lanes[n]) }

/-- Change the rate block. -/
def Bolov.modRate (f : RateState → RateState) (b : Bolov) : Bolov := { b with rate := f b.rate }

/-- The rate page. -/
def pgRate : Nat := 0x008

/-! ### Blocks (R171, R172, R186) -/

/-- Blocks in a number of ticks: 2.56 ns each, 6.4 ns in EK-4 compatibility mode. -/
def Bolov.blocksIn (b : Bolov) (ticks : Nat) : Nat := ticks * 3125 / (if b.ek4 then 6400 else 2560)

/-- The number of the block at a moment, counted from when the lane began to send. -/
def Bolov.blocksAt (b : Bolov) (l : Lane) (up : Nat) : Nat :=
  match l.ranFrom with
  | some u => b.blocksIn (up - u)
  | none => 0

/-- The holds of a lane, the running one up to now. -/
def Bolov.holdsNow (b : Bolov) (l : Lane) : List (Nat × Nat) :=
  match l.heldFrom with
  | some u => l.holds ++ [(u, b.up)]
  | none => l.holds

/-- The blocks of a lane from moment `m` to `z`, less those of each hold behind its first 16: within 16 blocks of the falling
edge the lane sends idle blocks alone (R186). -/
def Bolov.blocksFree (b : Bolov) (l : Lane) (m z : Nat) : Nat :=
  let n := b.blocksAt l
  (b.holdsNow l).foldl (fun k h => k - (min (n h.2) (n z) - max (n h.1 + 16) (n m))) (n z - n m)

/-- A lane that is held now and has stopped (R186). -/
def Bolov.laneStopped (b : Bolov) (l : Lane) : Bool :=
  match l.heldFrom with
  | some u => decide (b.blocksAt l u + 16 ≤ b.blocksAt l b.up)
  | none => false

/-- Words that a lane can have sent by moment `z` since its last SOF or resume block, express units apart (R173). -/
def Bolov.wordsRoom (b : Bolov) (l : Lane) (z : Nat) : Nat := b.blocksFree l l.since z - (if b.ek4 then 0 else 1) - l.extra

/-- Words of the frame on a lane that are sent by now. Idle blocks may stand anywhere (R173): how many is a free value. -/
def Bolov.wordsSent (b : Bolov) (l : Lane) (f : FrameOut) : Nat :=
  min f.words.length (b.wordsRoom l b.up - Config.laneIdle l.since b.up)

/-- The idle block (R172). -/
def idleBlock : Byte × BitVec 56 := (0x1E#8, 0)

/-- Control blocks as they go out on the line behind 58 line bits (R171, R172): sync header 0b10, the type byte and the
payload scrambled. -/
def lineBlocks : BitVec 58 → List (Byte × BitVec 56) → List (BitVec 66)
  | _, [] => []
  | prev, x :: l =>
    let c := scramble prev (x.1 ++ x.2)
    lineBlock 2 c :: lineBlocks (lineTail c) l

/-- A lane sends control blocks (R171, R172): what its scrambler holds before them is a free value. -/
def Bolov.laneSend (n : Fin 16) (bl : List (Byte × BitVec 56)) (b : Bolov) : Bolov :=
  b.modLane n (fun l => { l with blocks := bl, line := lineBlocks (Config.laneScrambler n b.up) bl })

/-- A data block as it goes out behind 58 line bits (R172). -/
def dataBlock (prev : BitVec 58) (w : W64) : BitVec 66 := lineBlock 1 (scramble prev w)

/-! ### Pool lines (R155, R156) -/

/-- A slice without some of its lines. -/
def Slice.without (back : List Nat) (s : Slice) : Slice :=
  { s with chains := s.chains.map (fun e => (e.1, { e.2 with lines := e.2.lines.filter (fun l => !back.contains l) })) }

/-- The lines of the frame on a lane whose last record lies in the first `sent` words return; with the last of them the column
of its slice is free. -/
def Bolov.linesBack (n : Fin 16) (f : FrameOut) (sent : Nat) (b : Bolov) : Bolov :=
  let back := (f.lines.filter (fun x => decide (x.1 ≤ sent))).map Prod.snd
  let rest := f.lines.filter (fun x => decide (sent < x.1))
  let b1 := b.modLane n (fun l => { l with frame := some { f with lines := rest } })
  if f.again then b1
  else b1.modSort (fun x => { x with
    freeLines := x.freeLines ++ back
    slices := if rest.isEmpty then x.slices.filter (fun s => s.num != f.slice)
      else x.slices.map (fun s => if s.num = f.slice then s.without back else s) })

/-- The held blocks of a lane are counted up to now (R186, R190). -/
def Bolov.heldCount (n : Fin 16) (b : Bolov) : Bolov :=
  let l := b.lanes[n]
  match l.heldFrom with
  | some u =>
    let k := b.blocksAt l b.up - b.blocksAt l u
    (b.modLane n (fun l => { l with heldDone := k })).countAt Reg.OUT_L_HELD n (k - l.heldDone)
  | none => b

/-- On every lane the held blocks are counted, and the lines read by now return. -/
def Bolov.flow (b : Bolov) : Bolov :=
  forAll (List.finRange 16) (fun n b0 =>
    let b := b0.heldCount n
    match (b.lanes[n]).frame with
    | some f => b.linesBack n f (b.wordsSent (b.lanes[n]) f)
    | none => b) b

/-! ### Throttle pins (R204) -/

/-- Pool lines held by bins of a region group. -/
def Bolov.groupLines (b : Bolov) (g : Nat) : Nat :=
  (b.sort.slices.map (fun s => (s.chains.map (fun e =>
    if s.cfg.rate (e.1 / 128) / 16 % 8 = g then e.2.lines.length else 0)).foldl (· + ·) 0)).foldl (· + ·) 0

/-- The pins follow the occupancy. -/
def Bolov.throttle (b : Bolov) : Bolov :=
  forUpTo 8 (fun g b =>
    let hi := b.regFld (Reg.RATE_THROTTLE g) 31 16
    let lo := min hi (b.regFld (Reg.RATE_THROTTLE g) 15 0)
    let occ := b.groupLines g / 8
    let now := b.rate.throttle.getLsbD g
    let nxt := if occ ≥ hi then true else if occ < lo then false else now
    if nxt = now then b
    else (b.modRate (fun x => { x with throttle := setBit x.throttle g nxt })).raise pgRate 2) b

/-- `n` tick edges pass at the Bolov. The pins are compared at the first of them and, as lines return, at the last: between the
two the occupancy only falls. -/
def Bolov.advance (n : Nat) (b : Bolov) : Bolov :=
  if n = 0 then b else ((b.pass n).throttle.flow).throttle

end Sys2Proof.Machine
end

