-- ==== Sys2Proof/Machine/Cell.lean ====
section
/-!
DEFINITION. The cell events: crossing, conversion, trailing edge, dead time, stuck masking, settling, injection, and the
actions of the front-end and vernier pages (02 R26 to R46, 03 R47 to R64).
-/

namespace Sys2Proof.Machine

/-- 15 ns, 25 ns, 4 ns, 1 ns, 14.5 ns and 10 ps in femtoseconds (R38, R49, R52, R57). -/
def ns15 : Nat := 15000000
def ns25 : Nat := 25000000
def ns4 : Nat := 4000000
def ns1 : Nat := 1000000
def ns14_5 : Nat := 14500000
def ps10 : Nat := 10000
def ps1 : Nat := 1000

/-- When the dead time ends (R57); none while the trailing edge is still to come. -/
def CellState.deadEnd (c : CellState) : Option Nat :=
  c.deadTrail.map (fun e => max (c.deadFrom + ns15) (e + ns4))

/-- The cell is in its dead time at an instant (R57). -/
def CellState.inDead (c : CellState) (now : Nat) : Bool :=
  c.dead && (match c.deadEnd with | some e => decide (now < e) | none => true)

/-- A finished record leaves the cell (R82, R39): into its entry latch, or refused at once where that is full. -/
def Jilek.handoff (c : Nat) (v : Conv) (h : Tick) (nv : BitVec 6) (tot : BitVec 9) (j : Jilek) : Jilek :=
  let s := j.cell c
  let r : LatchRec :=
    { tick := h, na := v.na, nv := nv, tot := tot, stale := v.stale, pileup := v.caseC || s.pend,
      express := entExpress v.entry, feId := v.feId }
  if s.latch.isSome then
    (j.modCell c (fun s => { s with conv := none, pend := false })).refuse (c / 64) h
  else j.modCell c (fun s => { s with conv := none, pend := false, latch := some r })

/-- Hand the record over once NV and ToT are both latched (R49 step 6). -/
def Jilek.finish (c : Nat) (j : Jilek) : Jilek :=
  match (j.cell c).conv with
  | some v =>
    match v.hit, v.nv, v.tot with
    | some h, some nv, some tot => j.handoff c v h nv tot
    | _, _, _ => j
  | none => j

/-- DISCRIMINATOR_CROSSING (R27, R31, R38, R49): the output goes high `fs` after the current tick edge; oscillator A
of the cell has period `ta`. DESIGN CHOICE (log entry 164): a crossing in the dead time of an earlier hit is case B of R38,
also where its hit tick lies in a calibration run. -/
def Jilek.crossing (c fs ta : Nat) (j : Jilek) : Jilek :=
  let s := j.cell c
  let now := j.now fs
  let k := j.edgesTo fs
  let h := j.tick + BitVec.ofNat 48 k
  -- a tick edge less than 10 ps after the crossing may be passed over (R49 step 2)
  let near := decide (j.edgeAfter k < fs + ps10)
  let open' := fun k => !(j.maskedAt c k)
  if s.high || !j.tileOn (c / 64) || entFeOff (j.entryAt c h) then j
  else
    let j1 := j.modCell c (fun s => { s with high := true, edgeAt := now })
    if !(open' h || (near && open' (h + 1))) then j1
    else if s.inDead now then
      (j1.modCell c (fun s => { s with pend := true, lastCross := some now })).count (Reg.FE_PILEUP (c / 64)) 1
    else if j.closedAt (c / 64) h && !(near && !(j.closedAt (c / 64) (h + 1))) then
      j1.modCell c (fun s => { s with lastCross := some now })
    else
      let caseC := match s.lastCross with | some p => decide (now < p + ns25) | none => false
      j1.modCell c (fun s =>
        { s with
          lastCross := some now
          dead := true
          deadFrom := now
          deadTrail := none
          conv := some { crossAt := now, ta := ta, entry := j.entryAt c h, caseC := caseC } })

/-- NA over an interval `d` with period `ta` (R50); `extra`: the start gate counts an A edge that falls at the tick
edge or less than 1 ps after it. NA stops at its top code (R54). -/
def countNA (ta d : Nat) (extra : Bool) : Nat :=
  let n := max 1 (ceilDiv d ta)
  let n := if extra && decide (n * ta < d + ps1) then n + 1 else n
  cap 31 n

/-- OSC_B_START (R49, R50): the current tick edge starts oscillator B, of period `tb`. The edge must be the first one
after the crossing, or the second where the first came less than 10 ps after it. -/
def Jilek.oscB (c tb : Nat) (extra : Bool) (j : Jilek) : Jilek :=
  match (j.cell c).conv with
  | some v =>
    let d := j.now 0 - v.crossAt
    let h := j.tick
    -- from the edge before this one to this one
    let step := ((tickFs : Int) + j.edgeMove * codeFs).toNat
    if v.hit.isSome || decide (d = 0) || decide (d ≥ step + ps10) then j
    else if j.maskedAt c h || j.closedAt (c / 64) h then j.modCell c (fun s => { s with conv := none, dead := false })
    else
      j.modCell c (fun s =>
        { s with conv := some { v with
            tb := tb, hit := some h, span := d, entry := j.entryAt c h,
            na := BitVec.ofNat 5 (countNA v.ta d extra),
            stale := j.staleAt (c / 64) h,
            feId := (j.regAt Reg.TP_FE_ID h).setWidth 16 } })
  | none => j

/-- The B period at which the comparison ends (R49, R51): with r = span − (NA − 1) × T_A, the first n from 1 with
r ≤ n × (T_A − T_B), which is max(1, ⌈r ÷ ΔT⌉) where B is the faster ring; a slower B is at or before A in its first period or
never. Where the edges coincide it ends there or, with `next`, at the following period (R59). None: B never catches up. -/
def bPeriods (v : Conv) (next : Bool) : Option Nat :=
  let r : Int := (v.span : Int) - ((v.na.toNat : Int) - 1) * v.ta
  let dT : Int := (v.ta : Int) - v.tb
  let n := if dT > 0 then max 1 (ceilDiv r.toNat dT.toNat) else 1
  if r ≤ n * dT then some (if next && decide (r = n * dT) then n + 1 else n) else none

/-- The comparison ends within the limits of R52: by the 63rd B period and by 14.5 ns after the crossing. -/
def catches (v : Conv) (n : Nat) : Bool := decide (n ≤ 63) && decide (v.span + n * v.tb ≤ ns14_5)

/-- NV_LATCH (R51): B has caught up with A, and the comparison is latched. -/
def Jilek.latchNV (c : Nat) (next : Bool) (fs : Nat) (j : Jilek) : Jilek :=
  match (j.cell c).conv with
  | some v =>
    match v.hit, v.nv, bPeriods v next with
    | some _, none, some n =>
      if catches v n && decide (v.crossAt + v.span + n * v.tb ≤ j.now fs) then
        (j.modCell c (fun s => { s with conv := some { v with nv := some (BitVec.ofNat 6 n) } })).finish c
      else j
    | _, _, _ => j
  | none => j

/-- The status words of an overrun (R64): the first one since reset or clear. -/
def Jilek.overrunCount (c : Nat) (j : Jilek) : Jilek :=
  let j1 := (j.count Reg.VN_OVERRUN 1)
  let j2 := if j.overrunSeen then j1 else j1.status 0x03 0 c
  { (j2.setReg Reg.VN_LAST_OVERRUN (setBit (j2.reg Reg.VN_LAST_OVERRUN) 31 true)) with
    overrunSeen := true, lastOverrun := BitVec.ofNat 11 c }

/-- VERNIER_OVERRUN (R52): B has not caught up by the 63rd period or by 14.5 ns after the crossing. -/
def Jilek.overrun (c : Nat) (fs : Nat) (j : Jilek) : Jilek :=
  match (j.cell c).conv with
  | some v =>
    let late := match bPeriods v false with | some n => !(catches v n) | none => true
    let limit := min (v.crossAt + ns14_5) (v.crossAt + v.span + 63 * v.tb)
    if v.hit.isSome && v.nv.isNone && late && decide (limit ≤ j.now fs) then
      ((j.modCell c (fun s => { s with conv := some { v with nv := some 0 } })).overrunCount c).finish c
    else j
  | none => j

/-- ToT of a pulse of width `w` (R55); `skip`: an A edge that coincides with the trailing edge is not counted (R59). -/
def countToT (ta w : Nat) (skip : Bool) : Nat :=
  let n := w / ta
  cap 511 (if skip && decide (0 < n) && decide (w = n * ta) then n - 1 else n)

/-- TRAILING_EDGE (R27, R55): the output goes low; ToT is latched and the dead time gets its end. -/
def Jilek.trailing (c fs : Nat) (skip : Bool) (j : Jilek) : Jilek :=
  let now := j.now fs
  if !(j.cell c).high then j
  else
    (j.modCell c (fun s =>
      { s with
        high := false
        edgeAt := now
        deadTrail := if s.dead && s.deadTrail.isNone then some now else s.deadTrail
        conv := s.conv.map (fun v =>
          if v.tot.isNone then { v with tot := some (BitVec.ofNat 9 (countToT v.ta (now - v.crossAt) skip)) }
          else v) })).finish c

/-- TOT_SATURATION (R36): the output is still high when ToT reaches 511. -/
def Jilek.totSat (c fs : Nat) (j : Jilek) : Jilek :=
  match (j.cell c).conv with
  | some v =>
    if (j.cell c).high && v.tot.isNone && decide (v.crossAt + 511 * v.ta ≤ j.now fs) then
      (j.modCell c (fun s => { s with conv := some { v with tot := some 511 } })).finish c
    else j
  | none => j

/-- DEAD_TIME_END (R57): with a tolerance of 1 ns before its end. -/
def Jilek.deadTimeEnd (c fs : Nat) (j : Jilek) : Jilek :=
  match (j.cell c).deadEnd with
  | some e =>
    if (j.cell c).dead && decide (e ≤ j.now fs + ns1) then j.modCell c (fun s => { s with dead := false }) else j
  | none => j

/-- The stuck limit in ticks (R37). DESIGN CHOICE (log entry 165): the time runs from the rising edge, and a release of the
cell while its output is still high does not start it again. -/
def Jilek.stuckLimit (j : Jilek) : Nat := 2 ^ (13 + fld (j.reg Reg.FE_CTRL) 2 1)

/-- STUCK_MASK (R37): the output has stayed high for the stuck limit. -/
def Jilek.stuckMask (c : Nat) (j : Jilek) : Jilek :=
  let s := j.cell c
  if s.high && !s.stuck && decide (s.edgeAt + j.stuckLimit * tickFs ≤ j.now 0) then
    (j.modCell c (fun s => { s with stuck := true })).status 0x01 0 c
  else j

/-- STUCK_RELEASE (R37): with stuck_release = 1 the output has stayed low for 65,536 ticks. -/
def Jilek.stuckRelease (c : Nat) (j : Jilek) : Jilek :=
  let s := j.cell c
  if s.stuck && !s.high && bit (j.reg Reg.FE_CTRL).toNat 4 && decide (s.edgeAt + 65536 * tickFs ≤ j.now 0) then
    j.modCell c (fun s => { s with stuck := false })
  else j

/-- FE_OFF_SETTLE_END (R31): 50 µs after fe_off returned to 0. -/
def Jilek.settleEnd (c : Nat) (j : Jilek) : Jilek :=
  match (j.cell c).settle with
  | some u => if u + settleTicks ≤ j.up then j.modCell c (fun s => { s with settle := none }) else j
  | none => j

/-- The cells whose tp_en is 1 at tick `h`. -/
def Jilek.tpCells (j : Jilek) (h : Tick) : List Nat := (List.range 2048).filter (fun c => entTpEn (j.entryAt c h))

/-! ### Thresholds and injection (R28 to R35); charges in 10^-4 fC -/

/-- A number held between two bounds. -/
def between (lo hi v : Int) : Int := max lo (min hi v)

/-- The untrimmed offset of a cell at this moment: within ±0.5 fC (R29). -/
def Jilek.offset (j : Jilek) (c : Nat) : Int := between (-5000) 5000 (Config.untrimmedOffset c j.up)

/-- Q_thr of a cell for a chip-wide code and a trim, a two's-complement value (R28). -/
def Jilek.thresholdOf (j : Jilek) (c : Nat) (code : BitVec 10) (trim : BitVec 6) : Int :=
  500 * code.toNat + 200 * trim.toInt + j.offset c

/-- A switch less than 10 µs ago (R30). -/
def Jilek.settling (j : Jilek) (since : Option Nat) : Bool := match since with | some u => decide (j.up < u + 3200) | none => false

/-- The effective threshold of a cell at tick `h` (R28, R30): while a new code or trim settles it lies anywhere between
the old value and the new one. -/
def Jilek.threshold (j : Jilek) (c : Nat) (h : Tick) : Int :=
  let code := (j.regAt Reg.FE_THR_GLOBAL h).setWidth 10
  let trim := entTrim (j.entryAt c h)
  let s := j.cell c
  let new := j.thresholdOf c code trim
  let old := j.thresholdOf c (if j.settling j.thrAt then j.thrWas else code) (if j.settling s.trimAt then s.trimWas else trim)
  between (min old new) (max old new) (Config.settlingThreshold c j.up)

/-- The charge that an injection of a code puts into a cell: code × 0.1 fC to within ±5% ± 0.2 fC (R33, R34). -/
def Jilek.injectedCharge (j : Jilek) (c : Nat) (code : BitVec 10) : Int :=
  let q : Int := 1000 * code.toNat
  between (q - q / 20 - 2000) (q + q / 20 + 2000) (Config.injectedCharge c j.up)

/-- An injection into a cell produces a crossing where its charge reaches the effective threshold (R27, R35), treated like any
other: at the injection edge, which falls `phase` × 78.125 ps after the tick edge, and the delay of the front end. -/
def Jilek.injectCell (code : BitVec 10) (phase c : Nat) (j : Jilek) : Jilek :=
  if j.threshold c j.tick ≤ j.injectedCharge c code then
    j.crossing c (phase * 78125 + Config.injectionDelay c j.up) (Config.injectionPeriod c j.up)
  else j

/-- TEST_PULSE_INJECTION (R33, R35, R109): the injection of a pending tick, which frees its place and reaches every cell whose
tp_en is 1. -/
def Jilek.inject (j : Jilek) : Jilek :=
  let t := j.tick
  if j.injections.contains t then
    let code := (j.regAt Reg.FE_TP_CHARGE t).setWidth 10
    let phase := cap 39 (fld (j.regAt Reg.FE_TP_PHASE t) 5 0)
    let cells := j.tpCells t
    forAll cells (Jilek.injectCell code phase)
      { j with
        injections := dropFirst (· == t) j.injections
        lastInjection := some { tick := t, charge := code, phase := phase, cells := cells } }
  else j

/-- `FE_CTRL.pileup_clear` (R44). -/
def Jilek.pileupClear (j : Jilek) : Jilek := forUpTo 32 (fun t => Jilek.clearCtr (Reg.FE_PILEUP t)) j

/-- `FE_CTRL.stuck_clear` (R37): every stuck-masked cell is released. -/
def Jilek.stuckClear (j : Jilek) : Jilek :=
  forAll (fkeys j.cells) (fun c => Jilek.modCell c (fun s => { s with stuck := false })) j

/-- `VN_CTRL.overrun_clear` (R63, R64). -/
def Jilek.overrunClear (j : Jilek) : Jilek := { Jilek.clearCtr Reg.VN_OVERRUN j with overrunSeen := false }

/-- The number of stuck-masked cells (R37). -/
def Jilek.stuckCount (j : Jilek) : Nat := (j.cells.filter (fun e => e.2.stuck)).length

end Sys2Proof.Machine
end

