-- ==== Sys2Proof/Machine/Calibration.lean ====
section
/-!
DEFINITION. Calibration on the Jilek: sensor samples, causes, hold, runs and their words (04 R65 to R77, R80, R81).
-/

namespace Sys2Proof.Machine

/-! ### Element selection (R72) -/

/-- The positions of the bits of a selection mask that equal `v`, in rising order. -/
def maskBits (m : BitVec 14) (v : Bool) : List Nat := (List.range 14).filter (fun i => m.getLsbD i == v)

/-- swap(m, k): set bit number k div 3 is replaced by clear bit number k mod 3. -/
def swapMask (m : BitVec 14) (k : Nat) : BitVec 14 :=
  let s := (maskBits m true).getD (k / 3) 0
  let c := (maskBits m false).getD (k % 3) 0
  setBit (setBit m s false) c true

/-- The period of a ring in ps from its count over `w` ticks. -/
def ringPeriod (draw cell : Nat) (ringB : Bool) (m : BitVec 14) (w pass k : Nat) : Rat :=
  let n := Config.ringCount draw cell ringB m w pass k
  if n = 0 then Config.stoppedRing draw cell pass k else (w * 3125 : Rat) / n

/-- |x| of a rational. -/
def rabs (x : Rat) : Rat := if x < 0 then -x else x

/-- keep(pa, pb) of R72, in ps. -/
def keepPair (pa pb : Rat) : Bool :=
  decide (152 ≤ pa) && decide (pa ≤ 159) && decide (252 / 100 ≤ pa - pb) && decide (pa - pb ≤ 285 / 100)
    && decide (pa ≤ 60 * (pa - pb))

/-- The best masks and errors found in a pass. -/
structure Best where
  ba : BitVec 14
  ea : Rat
  bb : BitVec 14
  eb : Rat

/-- One trial of a pass (R72): comparisons are strict, so the lowest k wins. -/
def trial (draw cell pass : Nat) (a b : BitVec 14) (pa : Rat) (k : Nat) (s : Best) : Best :=
  let qa := ringPeriod draw cell false (swapMask a k) 512 pass k
  let qb := ringPeriod draw cell true (swapMask b k) 512 pass k
  let s1 := if rabs (qa - 625 / 4) < s.ea then { s with ea := rabs (qa - 625 / 4), ba := swapMask a k } else s
  if rabs (pa - qb - 268 / 100) < s.eb then { s1 with eb := rabs (pa - qb - 268 / 100), bb := swapMask b k } else s1

/-- The passes of R72, at most `fuel` of them. -/
def selectPasses (draw cell : Nat) : Nat → Nat → BitVec 14 → BitVec 14 → Rat → Rat → BitVec 14 × BitVec 14
  | 0, _, a, b, _, _ => (a, b)
  | fuel + 1, pass, a, b, pa, pb =>
    let r := forUpTo 33 (trial draw cell pass a b pa) ⟨a, rabs (pa - 625 / 4), b, rabs (pa - pb - 268 / 100)⟩
    if r.ba = a ∧ r.bb = b then (a, b)
    else
      let pa' := ringPeriod draw cell false r.ba 512 pass 33
      let pb' := ringPeriod draw cell true r.bb 512 pass 33
      if keepPair pa' pb' then (r.ba, r.bb) else selectPasses draw cell fuel (pass + 1) r.ba r.bb pa' pb'

/-- Element selection of one cell (R72) from its masks `a`, `b`. -/
def selectMasks (draw cell : Nat) (a b : BitVec 14) : BitVec 14 × BitVec 14 :=
  let pa := ringPeriod draw cell false a 1024 3 0
  let pb := ringPeriod draw cell true b 1024 3 0
  if keepPair pa pb then (a, b) else selectPasses draw cell 3 0 a b pa pb

/-! ### Causes (R66, R67) -/

/-- A reading is out of the sensor's range: below −60 °C or above +125 °C (R67). -/
def badReading (r : BitVec 12) : Bool := decide (signed 12 r.toNat < -960) || decide (signed 12 r.toNat > 2000)

/-- The sensor after a reading (R67). -/
def TileState.sense (up : Nat) (r : BitVec 12) (s : TileState) : TileState :=
  let same := if s.sampledAt.isSome && s.sensorNow == r then s.sameRun + 1 else 1
  let faulty := badReading r || decide (same ≥ 64)
  let ok := if badReading r then [] else (r :: s.okRun).take 64
  let clear := decide (ok.length = 64) && !(ok.all (· == r))
  { s with sampledAt := some up, sensorNow := r, sameRun := same, okRun := ok,
           sensorFault := if faulty then true else s.sensorFault && !clear }

/-- The temperature threshold in 1/16 °C; 0 acts as 1 (R81). -/
def Jilek.tempThr (j : Jilek) : Nat := max 1 (fld (j.reg Reg.CAL_CTRL) 19 12)

/-- A reading differs from the reference by more than the threshold (R66). -/
def Jilek.tempOut (j : Jilek) (t : Nat) (r : BitVec 12) : Bool :=
  decide ((signed 12 r.toNat - signed 12 (j.tile t).sensorRef.toNat).natAbs > j.tempThr)

/-- TILE_TEMP_SAMPLE (R66, R67): 4,096 ticks after the last sample. -/
def Jilek.tempSample (t : Nat) (r : BitVec 12) (j : Jilek) : Jilek :=
  let ready := match (j.tile t).sampledAt with | some u => decide (u + 4096 ≤ j.up) | none => true
  if !(j.tileOn t && ready) then j
  else
    let j1 := j.modTile t (TileState.sense j.up r)
    if bit (j.reg Reg.CAL_CTRL).toNat 2 && !(j1.tile t).sensorFault && j1.tempOut t r then j1.runDue t 1 false else j1

/-- CAL_INTERVAL_DUE (R66): the interval cause or the sensor fallback. -/
def Jilek.intervalDue (t : Nat) (j : Jilek) : Jilek :=
  let s := j.tile t
  match s.resumeAt with
  | some u =>
    let interval := bit (j.reg Reg.CAL_CTRL).toNat 1 && decide (u + 2 ^ (24 + fld (j.reg Reg.CAL_CTRL) 22 20) ≤ j.up)
    let fallback := s.sensorFault && decide (u + 2 ^ 24 ≤ j.up)
    if j.tileOn t && (interval || fallback) then j.runDue t 2 false else j
  | none => j

/-! ### CAL_START (R68) -/

/-- Apply a tile action to every tile whose bit in the mask is 1, in rising order. -/
def forTiles (mask : BitVec 32) (f : Nat → Jilek → Jilek) (j : Jilek) : Jilek :=
  forUpTo 32 (fun t j => if mask.getLsbD t then f t j else j) j

/-- Action run. -/
def Jilek.calRun (mask : BitVec 32) (j : Jilek) : Jilek := forTiles mask (fun t j => j.runDue t 3 false) j

/-- Action force. -/
def Jilek.calForce (mask : BitVec 32) (j : Jilek) : Jilek :=
  forTiles mask (fun t j =>
    match (j.tile t).due with
    | some d => j.modTile t (fun s => { s with due := some { d with forced := true } })
    | none => j.runDue t 3 true) j

/-- Action cancel. -/
def Jilek.calCancel (mask : BitVec 32) (j : Jilek) : Jilek :=
  forTiles mask (fun t j =>
    if (j.tile t).due.isSome then j.modTile t (fun s => { s with due := none, cause := 0 })
    else j.interruptRun t 4) j

/-- Action hold: for 2^20 ticks. -/
def Jilek.calHold (j : Jilek) : Jilek := { j with holdUntil := some (j.up + 2 ^ 20) }

/-- Action release. -/
def Jilek.calRelease (j : Jilek) : Jilek := { j with holdUntil := none }

/-- CAL_HOLD_EXPIRY (R68). -/
def Jilek.holdExpiry (j : Jilek) : Jilek :=
  match j.holdUntil with
  | some u => if u ≤ j.up then { j with holdUntil := none } else j
  | none => j

/-- The chip is held (R68). -/
def Jilek.held (j : Jilek) : Bool := match j.holdUntil with | some u => decide (j.up < u) | none => false

/-! ### The run (R70, R71) -/

/-- The tiles whose run counts as running (R70). -/
def Jilek.runningTiles (j : Jilek) : Nat := ((List.range 32).filter (fun t => (j.tile t).run.isSome)).length

/-- The due run of tile `t` may start as far as hold goes (R70). -/
def Jilek.startable (j : Jilek) (t : Nat) : Bool :=
  match (j.tile t).due with
  | some d => j.tileOn t && (j.tile t).run.isNone && (d.forced || !j.held)
  | none => false

/-- The due run of tile `a` comes before the one of tile `b` (R70). -/
def Jilek.dueBefore (j : Jilek) (a b : Nat) : Bool :=
  match (j.tile a).due, (j.tile b).due with
  | some x, some y => decide (x.dueAt < y.dueAt) || (decide (x.dueAt = y.dueAt) && decide (a < b))
  | _, _ => false

/-- The tile's due run is the next to start (R70). -/
def Jilek.nextToStart (j : Jilek) (t : Nat) : Bool :=
  j.startable t && (List.range 32).all (fun o => !(j.startable o && j.dueBefore o t))

/-- A crossing whose hit tick is not before `s`, or whose B has not started, starts no conversion (R59, R71 step 1), and so no
dead time. -/
def CellState.dropFrom (s : Tick) (c : CellState) : CellState :=
  match c.conv with
  | some v =>
    if (match v.hit with | some h => later s h | none => false) then c else { c with conv := none, dead := false }
  | none => c

/-- At the run start a tile's cells drop the conversions that are not to be converted (R71 step 1). -/
def Jilek.dropConversions (t : Nat) (s : Tick) (j : Jilek) : Jilek :=
  forUpTo 64 (fun k => Jilek.modCell (64 * t + k) (CellState.dropFrom s)) j

/-- CAL_RUN_START (R70, R71 steps 1 and 2): the run starts at the current tick, a multiple of 64. -/
def Jilek.runStart (t : Nat) (j : Jilek) : Jilek :=
  match (j.tile t).due with
  | some d =>
    if j.nextToStart t && decide (j.runningTiles ≤ fld (j.reg Reg.CAL_CTRL) 9 8) && decide (j.tick.toNat % 64 = 0) then
      let seq := (j.tile t).seq + 1
      ((j.modTile t (fun s =>
          { s with due := none, run := some { s := j.tick, cause := d.cause }, seq := seq, cause := d.cause })).dropConversions
        t j.tick).calWord t (runStartPayload t d.cause.toNat seq.toNat (j.tick.toNat % 2 ^ 20)) true
    else j
  | none => j

/-- Every conversion of the tile has been acknowledged. -/
def Jilek.quiet (j : Jilek) (t : Nat) : Bool := (List.range 64).all (fun k => (j.cell (64 * t + k)).conv.isNone)

/-- Move the tile's run on: from phase `p` to `q` at offset `off` or later (R71). -/
def Jilek.runPhase (j : Jilek) (t : Nat) (p : RunPhase) (off : Nat) : Option Run :=
  match (j.tile t).run with
  | some r => if r.phase = p ∧ notBefore j.tick (r.s + BitVec.ofNat 48 off) then some r else none
  | none => none

/-- Set the phase of the tile's run. -/
def Jilek.setRun (t : Nat) (r : Run) (j : Jilek) : Jilek := j.modTile t (fun s => { s with run := some r })

/-- CAL_TAKE_RINGS (R71 step 3). -/
def Jilek.takeRings (t : Nat) (j : Jilek) : Jilek :=
  match j.runPhase t .started 0 with
  | some r => if j.quiet t then j.setRun t { r with phase := .rings } else j
  | none => j

/-- CAL_ELEMENT_SELECTION (R71 step 6, R72): the selected masks wait until the run completes. -/
def Jilek.elementSelection (t : Nat) (j : Jilek) : Jilek :=
  match j.runPhase t .rings 1088 with
  | some r =>
    let d := j.draws
    let j1 := forUpTo 64 (fun k => Jilek.modCell (64 * t + k) (fun c =>
      let m := selectMasks d (64 * t + k) c.selA c.selB
      { c with newA := m.1, newB := m.2 })) j
    { j1.setRun t { r with phase := .selected } with draws := d + 1 }
  | none => j

/-- CAL_REFERENCE_SAMPLE (R71 step 7). DESIGN CHOICE (log entry 166): it is a reading of R67 like any other, and the next one
comes 4,096 ticks after it. -/
def Jilek.referenceSample (t : Nat) (reading : BitVec 12) (j : Jilek) : Jilek :=
  match j.runPhase t .selected 57344 with
  | some r => (j.modTile t (fun s => { TileState.sense j.up reading s with sensorRef := reading })).setRun t
      { r with phase := .final }
  | none => j

/-- The status of a cell from its final counts over 16,384 ticks (R74, R47). A period is 51,200,000 ps ÷ count, and the
three conditions are compared without division. -/
def calStatusOf (ca cb : Nat) : Nat :=
  if ca < 262144 ∨ cb < 262144 ∨ ca ≥ 524287 ∨ cb ≥ 524287 then 2
  else
    let k := 51200000   -- 16,384 × 3,125 ps
    let ta := decide (150 * ca ≤ k) && decide (k ≤ 160 * ca)
    -- ΔT = k (cb − ca) ÷ (ca cb), in ps
    let dt := decide (ca ≤ cb) && decide (245 * (ca * cb) ≤ 100 * (k * (cb - ca)))
      && decide (k * (cb - ca) ≤ 3 * (ca * cb))
    -- T_A ≤ 63 ΔT
    let ratio := decide (ca ≤ cb) && decide (cb ≤ 63 * (cb - ca))
    if ta && dt && ratio then 0 else 1

/-- A final count as the tile keeps it: 19 bits, saturating (R76). -/
def satCount (n : Nat) : Nat := cap 524287 n

/-- CAL_RUN_COMPLETE (R71 step 9, R74, R76): from the 64 pairs of final counts. DESIGN CHOICE (log entry 167): outcome and
reported of `CAL_TILE_STATE` change as the report is queued. -/
def Jilek.runComplete (t : Nat) (counts : List (Nat × Nat)) (j : Jilek) : Jilek :=
  match j.runPhase t .final 73728 with
  | some r =>
    let pair := fun k => let p := counts.getD k (0, 0); (satCount p.1, satCount p.2)
    let st := fun k => calStatusOf (pair k).1 (pair k).2
    let good := (List.range 64).all (fun k => st k == 0)
    let outcome := (if good then 0 else 1) + (if r.refused then 2 else 0)
    let j1 := forUpTo 64 (fun k => Jilek.modCell (64 * t + k) (fun c =>
      { c with selA := c.newA, selB := c.newB, calStatus := BitVec.ofNat 2 (st k) })) j
    let j2 := (j1.modTile t (fun s =>
      { s with run := some { r with phase := .complete }, outcome := BitVec.ofNat 3 outcome, reported := true })).calWord t
        (runReportPayload t outcome (j.tile t).seq.toNat (r.s.toNat % 2 ^ 20)) false
    forUpTo 64 (fun k j => j.calWord t (cellResultPayload t k (st k) (pair k).1 (pair k).2) false) j2
  | none => j

/-- CAL_RUN_RESUME (R71 step 12, R75, R80): at the resume tick the run is over; stale clears after a complete run. -/
def Jilek.runResume (t : Nat) (j : Jilek) : Jilek :=
  match (j.tile t).run with
  | some r =>
    if notBefore j.tick (resumeTick r.s) then
      j.modTile t (fun s =>
        if r.phase = .complete then { s with run := none, cause := 0, stale := false, resumeAt := some j.up }
        else { s with run := none, cause := 0 })
    else j
  | none => j

end Sys2Proof.Machine
end

