-- ==== Sys2Proof/Machine/TilePath.lean ====
section
/-!
DEFINITION. The tile path: entry, governor, refusal spans, flush and reset, merge and framer (05 R82 to R102).
-/

namespace Sys2Proof.Machine

/-! ### Entry (R82, R83, R89) -/

/-- The admission limit in force (R88, R96, R369): 0 while the tile is off or no uplink that carries it is in data. -/
def Jilek.limitNow (j : Jilek) (t : Nat) : Nat :=
  let s := j.tile t
  if j.tileOn t && j.tileInData t then (if s.limitAt < j.up then s.limit else s.limitWas) else 0

/-- The record that a latched record becomes in the tile queue (R83, R84). -/
def queueRec (r : LatchRec) (cell : Nat) : QRec :=
  let w0 := queueWord0 r cell
  let w1 := queueWord1 r
  ⟨w0, parityOf w0, w1, parityOf w1⟩

/-- RECORD_ENTRY (R82, R83, R89): the check unit takes the record of a cell's latch and admits or refuses it. -/
def Jilek.recordEntry (c : Nat) (j : Jilek) : Jilek :=
  match (j.cell c).latch with
  | some r =>
    let j1 := j.modCell c (fun s => { s with latch := none })
    let t := c / 64
    if (j.tile t).queue.length < j.limitNow t then
      j1.modTile t (fun s => { s with queue := s.queue ++ [queueRec r c] })
    else j1.refuse t r.tick
  | none => j

/-- REFUSAL_SPAN_CLOSE (R92): 64 ticks without a refusal, or 1,024 ticks after the span opened. -/
def Jilek.spanClose (t : Nat) (j : Jilek) : Jilek :=
  match (j.tile t).span with
  | some p => if p.lastAt + 64 ≤ j.up ∨ p.openAt + 1024 ≤ j.up then j.closeSpan t else j
  | none => j

/-! ### Governor (R87, R88) -/

/-- A pace ring after an interval: a complete count shifts in, saturating at 65,535 (R87). -/
def Pace.shift (complete : Bool) (n : Nat) (p : Pace) : Pace :=
  if complete then { last := cap 65535 n, prev := p.last, complete := min 2 (p.complete + 1) } else p

/-- The count the governor uses: the lower of the last two, or the only one (R88). -/
def Pace.lower (p : Pace) : Nat := if p.complete ≥ 2 then min p.last p.prev else p.last

/-- The admission limit from the tile's and the merge's counts, for `n` tiles on the merge and a cap (R88). Times are
in 2^-10 tick; p = count × 15 ÷ 16,384 cycles per tick. DESIGN CHOICE (log entry 168): a complete count of 0, which leaves
the quotient without a value, gives limit 0. -/
def admissionLimit (pt pm n gcap : Nat) : Nat :=
  if pt = 0 ∨ pm = 0 then 0
  else
    let s := max 2560 (ceilDiv (36 * 1024 * 16384) (15 * pm))
    let e := ceilDiv (136 * 1024 * 16384) (15 * pt)
    let lim := ((512 - 27 - 24) * 1024 - e) / (n * s)
    min lim (min 16 gcap)

/-- The number of tiles that the merge of tile `t` carries (R86). -/
def Jilek.carried (j : Jilek) (t : Nat) : Nat :=
  if j.aggregated then ((List.range 32).filter (fun k => j.linkOf k == j.linkOf t)).length else 32

/-- The limit of one tile at a recomputation (R88). -/
def Jilek.newLimit (j : Jilek) (t : Nat) : Nat :=
  let pt := (j.tile t).pace
  let pm := j.merges[j.linkOf t].pace
  if !(j.tileInData t) || !(j.tileOn t) || decide (pt.complete = 0) || decide (pm.complete = 0) then 0
  else admissionLimit pt.lower pm.lower (j.carried t) (fld (j.reg Reg.TP_GOV) 4 0)

/-- GOVERNOR_RECOMPUTE (R87, R88): at a tick that is a multiple of 1,024, from the ring counts of the interval. -/
def Jilek.governor (tileCounts mergeCounts : List Nat) (j : Jilek) : Jilek :=
  if j.tick.toNat % 1024 = 0 then
    let j1 := forUpTo 32 (fun t => Jilek.modTile t (fun s =>
      { s with pace := s.pace.shift (j.tileOn t && decide (s.onSince + 1024 ≤ j.up)) (tileCounts.getD t 0) })) j
    let j2 := (j1.modMerge 0 (fun m => { m with pace := m.pace.shift (decide (1024 ≤ j.up)) (mergeCounts.getD 0 0) })).modMerge
      1 (fun m => { m with pace := m.pace.shift (decide (1024 ≤ j.up)) (mergeCounts.getD 1 0) })
    forUpTo 32 (fun t j => j.modTile t (fun s =>
      { s with limitWas := if s.limitAt < j.up then s.limit else s.limitWas, limit := j.newLimit t, limitAt := j.up })) j2
  else j

/-! ### Merge (R86, R94) -/

/-- A word as the merge reads it: upsets flip its bits; bit 64 of `flip` flips the stored parity. -/
def readWord (w : W64) (p : Bool) (flip : BitVec 65) : W64 × Bool :=
  let r := w ^^^ flip.setWidth 64
  (r, parityOf r != (p != flip.getLsbD 64))

/-- The next tile with a record for merge `u`: rising tile number after the last one served, wrapping (R86). -/
def Jilek.nextTile (j : Jilek) (u : Fin 2) : Option Nat :=
  ((List.range 32).map (fun i => (j.merges[u].lastTile + 1 + i) % 32)).find?
    (fun t => j.linkOf t == u && !((j.tile t).queue.isEmpty))

/-- Move a record whose word 0 has been read into the framer (R86, R94). -/
def Jilek.moveRecord (u : Fin 2) (h : HalfRead) (flip1 : BitVec 65) (j : Jilek) : Jilek :=
  match (j.tile h.tile).queue with
  | q :: rest =>
    let r1 := readWord q.w1 q.p1 flip1
    ((j.modTile h.tile (fun s => { s with queue := rest })).modMerge u (fun m =>
      { m with half := none, lastTile := h.tile })).modFramer u (fun f =>
        { f with records := f.records ++
            [⟨if h.bad || r1.2 then .poisoned else .hit, h.tile, h.w0, r1.1.setWidth 48, q.tick⟩] })
  | [] => j.modMerge u (fun m => { m with half := none })

/-- MERGE_SERVICE (R86): one record moves, word 0 then word 1; with `half` the merge has read word 0 only so far, and
the next service of the merge moves word 1. -/
def Jilek.mergeService (u : Fin 2) (flip0 flip1 : BitVec 65) (half : Bool) (j : Jilek) : Jilek :=
  match j.merges[u].half with
  | some h => j.moveRecord u h flip1
  | none =>
    match j.nextTile u with
    | some t =>
      match (j.tile t).queue with
      | q :: _ =>
        let r0 := readWord q.w0 q.p0 flip0
        let h : HalfRead := ⟨t, r0.1, r0.2⟩
        if half then j.modMerge u (fun m => { m with half := some h }) else j.moveRecord u h flip1
      | [] => j
    | none => j

/-! ### Framer (R97 to R100) -/

/-- The uplinks on which framer `u` sends (R85). -/
def Jilek.framerLinks (j : Jilek) (u : Fin 2) : List (Fin 2) :=
  if j.aggregated then [u] else if u = 0 then [0, 1] else []

/-- A word leaves an uplink as a 64b/66b data block (R103, R104); none: the transmitter floats. -/
def Jilek.putWord (v : Fin 2) (w : Option W64) (j : Jilek) : Jilek :=
  let c := w.map (scramble j.upScr[v])
  { j with
    upSent := j.upSent.set v w
    upBlock := j.upBlock.set v (c.map (lineBlock 1))
    upScr := match c with | some c => j.upScr.set v (lineTail c) | none => j.upScr }

/-- Put a word on the uplinks of a framer: in train echo replies, register responses, status and calibration words go out,
and an idle word in place of any other (R111); with `only`, the other uplinks send an idle word in the slot (R99). -/
def Jilek.sendWord (u : Fin 2) (w : W64) (trainOk : Bool) (only : Option (Fin 2)) (j : Jilek) : Jilek :=
  let idle := controlWord sIdle 0
  forAll (j.framerLinks u) (fun v j =>
    let mine := match only with | some o => v == o | none => true
    j.putWord v (match j.upState[v] with
      | .off => none
      | .train => some (if mine && trainOk then w else idle)
      | .data => some (if mine then w else idle))) j

/-- The hit ticks that hold a horizon down on the uplink of framer `u` (R98); flushed records do not count. -/
def Jilek.heldTicks (j : Jilek) (u : Fin 2) : List Tick :=
  let mine := fun t => j.linkOf t == u
  let cells := j.cells.flatMap (fun e =>
    if mine (e.1 / 64) then
      (match e.2.latch with | some r => [r.tick] | none => []) ++
      (match e.2.conv with | some v => (match v.hit with | some h => [h] | none => []) | none => [])
    else [])
  let queues := j.tiles.flatMap (fun e => if mine e.1 then e.2.queue.map QRec.tick else [])
  let framed := (j.framers[u].records.filter (fun r => r.kind != .terminator)).map FrRec.hit
  let runs := j.tiles.flatMap (fun e =>
    match e.2.run with
    | some r => if mine e.1 && !r.startSent then [r.s] else []
    | none => [])
  cells ++ queues ++ framed ++ runs

/-- H of R98: the smallest of the tick plus one and the held ticks; never below the H sent before it. -/
def Jilek.horizon (j : Jilek) (u : Fin 2) : Tick :=
  let h := minTick (j.tick + 1) (j.heldTicks u)
  match j.framers[u].lastH with
  | some l => latest l h
  | none => h

/-- The uplink word of a record (R94, R95, R99): the framer writes the tick offset. -/
def recordWord (r : FrRec) (base : Tick) : W64 :=
  let off := (r.tick - base).toNat % 4096
  match r.kind with
  | .hit => setFld (setFld r.w0 63 62 tHit) 50 39 off
  | .poisoned => setFld (setFld r.w0 63 62 tPoisoned) 50 39 off
  | .terminator => word64 [(2, tTerminator), (11, fld r.w0 61 51), (51, 0)]

/-- Send a record (R91, R94): count overage and poison. -/
def Jilek.sendRecord (u : Fin 2) (r : FrRec) (j : Jilek) : Jilek :=
  let j1 := j.sendWord u (recordWord r j.framers[u].base) false none
  match r.kind with
  | .poisoned => j1.count Reg.TP_POISON 1
  | .terminator => j1
  | .hit =>
    if later j.tick r.tick && decide (tickDiff j.tick r.tick ≥ 509) then
      let j2 := j1.count Reg.TP_OVERAGE 1
      if j.overageSeen then j2
      else { j2.status 0x04 r.tile (r.tick.toNat % 2 ^ 32) with overageSeen := true }
    else j1

/-- A control-share word as it is taken (R97): whether it may go out in train (R111), and the tile whose run-start word it
is. -/
structure ShareWord where
  word : W64
  trainOk : Bool := true
  startOf : Option Nat := none

/-- The calibration word that goes next, and those before and after it (R77): the first run-start word with no earlier word
of its tile before it, else the first word. -/
def nextCal (l : List CalWord) : Option (CalWord × List CalWord) :=
  let i := (List.range l.length).find? (fun i =>
    match l[i]? with
    | some c => c.start && (l.take i).all (fun e => e.tile != c.tile)
    | none => false)
  match l[i.getD 0]? with
  | some c => some (c, l.eraseIdx (i.getD 0))
  | none => none

/-- Take a register response. -/
def Jilek.takeResponse (u : Fin 2) (r : W64) (rest : List W64) (j : Jilek) : ShareWord × Jilek :=
  (⟨r, true, none⟩, { j.modFramer u (fun f => { f with lastWasDeadTime := false }) with responses := rest })

/-- Take a dead-time report. -/
def Jilek.takeReport (u : Fin 2) (d : W64) (rest : List W64) (j : Jilek) : ShareWord × Jilek :=
  (⟨d, false, none⟩, j.modFramer u (fun f => { f with deadTime := rest, lastWasDeadTime := true }))

/-- The next control-share word of framer `u` (R97): calibration results, then register responses and, in data, dead-time
reports in turn, then status words; and the Jilek that has given it up. Responses and status words leave by the framer that
R106 names. DESIGN CHOICE (log entry 169): calibration words wait while no uplink of their framer sends. -/
def Jilek.takeShare (u : Fin 2) (inData : Bool) (j : Jilek) : Option (ShareWord × Jilek) :=
  let f := j.framers[u]
  match nextCal f.cal with
  | some (c, l) =>
    some (⟨c.word, true, if c.start then some c.tile else none⟩, j.modFramer u (fun f => { f with cal := l }))
  | none =>
    match (if j.replyFramer = u then j.responses else []), (if inData then f.deadTime else []) with
    | r :: l, [] => some (j.takeResponse u r l)
    | r :: l, d :: m => some (if f.lastWasDeadTime then j.takeResponse u r l else j.takeReport u d m)
    | [], d :: m => some (j.takeReport u d m)
    | [], [] =>
      match (if j.replyFramer = u then j.statuses else []) with
      | s :: l => some (⟨s, true, none⟩, { j with statuses := l })
      | [] => none

/-- A slot that carries no control-share word has passed. -/
def Framer.slotPassed (f : Framer) : Framer := { f with sinceShare := min 7 (f.sinceShare + 1) }

/-- The run-start word of tile `t` has left (R98). -/
def Jilek.startLeft (t : Nat) (j : Jilek) : Jilek :=
  j.modTile t (fun s => { s with run := s.run.map (fun r => { r with startSent := true }) })

/-- The lag of an echo reply whose sync header starts `fs` after the current tick edge (R116), in 2.5 ps. -/
def Jilek.lagOf (e : EchoDue) (fs : Nat) (j : Jilek) : Nat :=
  let d := ((j.now fs : Int) - e.start).toNat
  cap (2 ^ 20 - 1) (d / codeFs + b2n (decide (d % codeFs ≠ 0) && Config.lagRoundsUp d))

/-- Send the echo reply that is first. -/
def Jilek.sendEcho (u : Fin 2) (e : EchoDue) (rest : List EchoDue) (fs : Nat) (j : Jilek) : Jilek :=
  (j.modFramer u (fun f => ({ f with echo := rest }).slotPassed)).sendWord u
    (controlWord sEcho (echoPayload e.tag.toNat e.downlink (j.lagOf e fs))) true (some e.downlink)

/-- Send the frame header of base `b` (R99). -/
def Jilek.sendHeader (u : Fin 2) (b : Tick) (j : Jilek) : Jilek :=
  (j.modFramer u (fun f => ({ f with headerDue := none, base := b, entry := f.entry - 1 }).slotPassed)).sendWord u
    (controlWord sHeader b.toNat) false none

/-- Send a horizon word (R98). -/
def Jilek.sendHorizon (u : Fin 2) (j : Jilek) : Jilek :=
  let h := j.horizon u
  (j.modFramer u (fun f => ({ f with horizonDue := false, lastH := some h, entry := f.entry - 1 }).slotPassed)).sendWord u
    (controlWord sHorizon h.toNat) false none

/-- Send a control-share word. -/
def Jilek.sendShare (u : Fin 2) (c : ShareWord) (j : Jilek) : Jilek :=
  let j1 := (j.modFramer u (fun f => { f with sinceShare := 0 })).sendWord u c.word c.trainOk none
  match c.startOf with
  | some t => j1.startLeft t
  | none => j1

/-- UPLINK_WORD_SLOT (R97): a slot that starts `fs` after the tick edge carries the first word that is ready, in priority
order. An uplink that has entered data sends its frame header first and a horizon after it (R99). -/
def Jilek.wordSlot (u : Fin 2) (fs : Nat) (j : Jilek) : Jilek :=
  let f := j.framers[u]
  let states := (j.framerLinks u).map (fun v => j.upState[v])
  let inData := states.any (· == .data)
  if !(inData || states.any (· == .train)) then j
  else
    let entry := if inData then f.entry else 0
    match (if entry = 0 then f.echo else []) with
    | e :: l => j.sendEcho u e l fs
    | [] =>
      match (if inData && entry ≠ 1 then f.headerDue else none) with
      | some b => j.sendHeader u b
      | none =>
        if inData && f.horizonDue then j.sendHorizon u
        else
          match (if f.sinceShare ≥ 7 then j.takeShare u inData else none) with
          | some (c, j1) => j1.sendShare u c
          | none =>
            match (if inData then f.records else []) with
            | r :: l => (j.modFramer u (fun f => ({ f with records := l }).slotPassed)).sendRecord u r
            | [] => (j.modFramer u Framer.slotPassed).sendWord u (controlWord sIdle 0) true none

/-- HORIZON_DUE (R98): at a tick that is a multiple of 64. -/
def Jilek.horizonDue (j : Jilek) : Jilek :=
  if j.tick.toNat % 64 = 0 then
    (j.modFramer 0 (fun f => { f with horizonDue := true })).modFramer 1 (fun f => { f with horizonDue := true })
  else j

/-- FRAME_HEADER_DUE (R99): at a tick that is a multiple of 4,096. -/
def Jilek.headerDue (j : Jilek) : Jilek :=
  if j.tick.toNat % 4096 = 0 then
    (j.modFramer 0 (fun f => { f with headerDue := some j.tick })).modFramer 1 (fun f => { f with headerDue := some j.tick })
  else j

/-! ### Flush and reset (R95, R96) -/

/-- Flush the tiles of a mask (R95). -/
def Jilek.flushTiles (mask : BitVec 32) (j : Jilek) : Jilek :=
  forUpTo 32 (fun t j => if mask.getLsbD t then j.flushTile t [] 0 none else j) j

/-- The hit ticks of a tile's latched records, and of its conversions in progress (R96). DESIGN CHOICE (log entry 170): a
conversion whose oscillator B has not started has the next tick edge as its hit tick. -/
def Jilek.latchTicks (j : Jilek) (t : Nat) : List Tick :=
  (List.range 64).flatMap (fun k => match (j.cell (64 * t + k)).latch with | some r => [r.tick] | none => [])
def Jilek.convTicks (j : Jilek) (t : Nat) : List Tick :=
  (List.range 64).flatMap (fun k =>
    match (j.cell (64 * t + k)).conv with
    | some v => [match v.hit with | some h => h | none => j.tick + 1]
    | none => [])

/-- Discard latched records and abandon conversions of a tile (R96, R59). -/
def Jilek.discardCells (t : Nat) (j : Jilek) : Jilek :=
  forUpTo 64 (fun k => Jilek.modCell (64 * t + k) (fun c =>
    { c with latch := none, conv := none, pend := if c.conv.isSome then false else c.pend })) j

/-- Flush a tile together with its latches and conversions, its open refusal span closed first (R96). -/
def Jilek.flushAll (t : Nat) (j : Jilek) : Jilek :=
  ((j.closeSpan t).flushTile t (j.latchTicks t ++ j.convTicks t) (j.latchTicks t).length (some (j.tick + 1))).discardCells t

/-- The 64 entries in force of a tile and its `FE_PILEUP` counter take their reset values (R44). -/
def Jilek.resetEntries (t : Nat) (j : Jilek) : Jilek :=
  Jilek.clearCtr (Reg.FE_PILEUP t) (forUpTo 64 (fun k j =>
    (j.setEntry (64 * t + k) 0x040).modCell (64 * t + k) (fun c => { c with stuck := false })) j)

/-- RESET_TILE of one tile (R44, R80, R96). -/
def Jilek.resetTile (t : Nat) (j : Jilek) : Jilek := ((j.flushAll t).resetEntries t).interruptRun t 5

/-- RESET_TILE of a mask of tiles. -/
def Jilek.resetTiles (mask : BitVec 32) (j : Jilek) : Jilek :=
  forUpTo 32 (fun t j => if mask.getLsbD t then j.resetTile t else j) j

/-- The tiles that have just lost their last uplink in data drop their records without a report (R96). DESIGN CHOICE (log
entry 171): a poisoned terminator that is dropped counts in `TP_FLUSHED` as a record of the framer, beside the count of the
flush that made it. -/
def Jilek.dropUncarried (before : Nat → Bool) (j : Jilek) : Jilek :=
  forUpTo 32 (fun t j =>
    if before t && !(j.tileInData t) then
      let u := j.linkOf t
      let fr := (j.framers[u].records.filter (fun r => r.tile == t)).length
      let n := (j.tile t).queue.length + fr
      (((j.modTile t (fun s => { s with queue := [], limit := 0, limitWas := 0 })).modFramer u (fun f =>
        { f with records := f.records.filter (fun r => r.tile != t) })).modMerge u (fun m =>
        { m with half := match m.half with | some h => if h.tile = t then none else some h | none => none })).count
        Reg.TP_FLUSHED n
    else j) j

/-- `TP_CTRL.count_clear` (R101, R102). -/
def Jilek.tpClear (j : Jilek) : Jilek :=
  { forUpTo 32 (fun t => Jilek.clearCtr (Reg.TP_REFUSED t))
      (Jilek.clearCtr Reg.TP_POISON (Jilek.clearCtr Reg.TP_OVERAGE (Jilek.clearCtr Reg.TP_FLUSHED j)))
    with overageSeen := false }

/-- Some uplink is in its data state. -/
def Jilek.anyData (j : Jilek) : Bool := j.upState[(0 : Fin 2)] == .data || j.upState[(1 : Fin 2)] == .data

/-- The mode field of `TP_CTRL` or `TP_LINK_MAP` is written (R85): kept unchanged with status 0x05 while an uplink is in
data and the value differs; the answer says whether the field was kept. DESIGN CHOICE (log entry 172): calibration words,
dead-time reports and echo replies that wait in framer 1 stay there while the chip is in redundant mode. -/
def Jilek.writeMode (addr : Nat) (field value : Word) (j : Jilek) : Jilek × Bool :=
  if j.anyData && decide (field ≠ j.reg addr) then (j.status 0x05 0 value.toNat, true)
  else (j.setReg addr field, false)

end Sys2Proof.Machine
end

