-- ==== Sys2Proof/Machine/JilekLink.lean ====
section
/-!
DEFINITION. The Jilek's ends of the links: frame lock, uplink states, tick source, tick count, lease, echo, eye scans
and the fast commands that name no register (06 R104 to R120; 01 R24).
-/

namespace Sys2Proof.Machine

/-! ### Uplink states (R111) -/

/-- Downlink `d` has frame lock. -/
def Jilek.locked (j : Jilek) (d : Fin 2) : Bool := j.downlinks[d].lock

/-- Uplink `u` may leave off: up_en, its transmitter's power and frame lock of downlink `u` (R111, R369). -/
def Jilek.upAllowed (j : Jilek) (u : Fin 2) : Bool :=
  j.locked u && bit (j.reg Reg.LK_CTRL).toNat u && bit (j.reg Reg.JPW_LINK_ON).toNat u

/-- The next state of uplink `u` (R111). -/
def Jilek.upNext (j : Jilek) (u : Fin 2) : UpState :=
  let d := j.downlinks[u]
  if !(j.upAllowed u) then .off
  else match j.upState[u] with
    | .off => .train
    | .train => if decide (d.readyRun ≥ 4) && j.tickSet then .data else .train
    | .data => if d.notReadyRun ≥ 4 then .train else .data

/-- Move uplink `u` to its next state: on entering train it counts ready frames anew (R111); on entering data a frame header
and a horizon become due (R99); a tile that loses its last uplink in data drops its records (R96). -/
def Jilek.moveUplink (u : Fin 2) (j : Jilek) : Jilek :=
  let before := fun t => j.tileInData t
  let was := j.upState[u]
  let nxt := j.upNext u
  let j1 := { j with upState := j.upState.set u nxt }
  let j2 := if nxt = .off then j1.putWord u none else if was = .off then j1.modDown u (fun d => { d with readyRun := 0 }) else j1
  if nxt = .data ∧ was ≠ .data then
    let f := if j.aggregated then u else 0
    j2.modFramer f (fun f => { f with headerDue := some (alignDown j.tick 4096), horizonDue := true, entry := 2 })
  else if was = .data ∧ nxt ≠ .data then j2.dropUncarried before
  else j2

/-- UPLINK_STATE_CHANGE (R111): both uplinks move to their next states. -/
def Jilek.moveUplinks (j : Jilek) : Jilek := (j.moveUplink 0).moveUplink 1

/-! ### Tick source (R114) -/

/-- `LK_PHASEn.valid`. -/
def Jilek.phaseValid (j : Jilek) (d : Fin 2) : Bool := bit (j.reg (Reg.LK_PHASE d)).toNat 31

/-- `LK_PHASEn.code`, at most 1,249 (R120). -/
def Jilek.phaseCode (j : Jilek) (d : Fin 2) : Nat := cap 1249 (fld (j.reg (Reg.LK_PHASE d)) 10 0)

/-- `LK_PHASEn.whole`. -/
def Jilek.phaseWhole (j : Jilek) (d : Fin 2) : Nat := fld (j.reg (Reg.LK_PHASE d)) 20 11

/-- Downlink `d` becomes the tick source (R114): the edges slew to its phase, status 0x0B follows. The first source gives the
edges their place; a later one moves them, beside what is still to move, as the two recovered clocks lie. -/
def Jilek.takeSource (d : Fin 2) (j : Jilek) : Jilek :=
  let move : Int := match j.src with | some o => Config.sourceStep o d j.up | none => 0
  { j with src := some d, holdover := false, slew := j.slew + move }.status 0x0B d (j.tick.toNat % 2 ^ 32)

/-- The source is lost (R114 rules 3 and 4): the other downlink, or holdover. -/
def Jilek.loseSource (d : Fin 2) (j : Jilek) : Jilek :=
  if j.locked (other d) && j.phaseValid (other d) then j.takeSource (other d)
  else { j with holdover := true }.status 0x0B 2 (j.tick.toNat % 2 ^ 32)

/-- When neither downlink has frame lock, the time since then runs (R370). -/
def Jilek.noteLocks (j : Jilek) : Jilek :=
  { j with unlockedSince :=
      if j.locked 0 || j.locked 1 then none else match j.unlockedSince with | some u => some u | none => some j.up }

/-- Frame lock of downlink `d` is gained (R108): CRC failures from before it no longer count; status 0x0A, the tick source,
the uplinks. -/
def Jilek.gainLock (d : Fin 2) (j : Jilek) : Jilek :=
  let j1 := ((j.modDown d (fun x => { x with lock := true, crcWindow := [] })).noteLocks).status 0x0A d 1
  let j2 :=
    match j1.src with
    | none => j1.takeSource d
    | some s => if j1.holdover && (s == d || j1.phaseValid d) then j1.takeSource d else j1
  j2.moveUplinks

/-- Frame lock of downlink `d` is lost (R108). -/
def Jilek.loseLock (d : Fin 2) (j : Jilek) : Jilek :=
  let j1 := ((j.modDown d (fun x =>
    { x with lock := false, goodRun := 0, badSyncRun := 0, crcWindow := [], readyRun := 0, notReadyRun := 0 })).noteLocks).status
      0x0A d 0
  let j2 := if j1.src == some d && !j1.holdover then j1.loseSource d else j1
  j2.moveUplinks

/-! ### Lease (R118) -/

/-- The code of an owner in status 0x07 and `LK_STATE.owner`. -/
def ownerCode : Option Lease → Nat
  | none => 0
  | some l => l.owner + 1

/-- Status 0x07: an outcome and the owner after it. -/
def Jilek.leaseStatus (outcome : Nat) (j : Jilek) : Jilek :=
  let id := match j.lease with | some l => l.id.toNat | none => 0
  j.status 0x07 outcome (pack [(16, id), (2, ownerCode j.lease), (14, 0)])

/-- The lease ends when the tick reaches E (R118). -/
def Jilek.expireLease (j : Jilek) : Jilek :=
  match j.lease with
  | some l => if notBefore j.tick l.expiry then { j with lease := none }.leaseStatus 5 else j
  | none => j

/-- A command is ignored (R109). -/
def Jilek.ignored (j : Jilek) : Jilek := j.count Reg.LK_IGNORED 1

/-- A command from downlink `d` that only the owner may give (R24); an expired lease ends first (R118). -/
def Jilek.fromOwner (d : Fin 2) (f : Jilek → Jilek) (j : Jilek) : Jilek :=
  let j := j.expireLease
  match j.lease with
  | some l => if l.owner = d then f j else j.ignored
  | none => j.ignored

/-- When the next frame of downlink `d` starts: frames follow one another every 16 ticks (R107). -/
def Jilek.nextFrameStart (d : Fin 2) (j : Jilek) : Nat :=
  match j.downlinks[d].lastEnd with
  | some e => e + 1 + 16 * ((j.up - e + 15) / 16)
  | none => j.up + 1

/-- The owner changes to downlink `d`, which becomes the source at its next frame start (R114 rule 2). -/
def Jilek.ownerChanged (d : Fin 2) (j : Jilek) : Jilek :=
  { j with srcNext := if j.src == some d && !j.holdover then none else some (d, j.nextFrameStart d) }

/-- The frame start has come at which the new owner's downlink becomes the source: if it has frame lock and a valid phase, and
still carries the owner (R114 rule 2). -/
def Jilek.takeOwnerSource (j : Jilek) : Jilek :=
  match j.srcNext with
  | some (d, _) =>
    let owned := match j.lease with | some l => l.owner == d | none => false
    let j1 := { j with srcNext := none }
    if owned && j1.locked d && j1.phaseValid d && !(j1.src == some d && !j1.holdover) then j1.takeSource d else j1
  | none => j

/-- LEASE claim (R118). -/
def Jilek.leaseClaim (d : Fin 2) (id : BitVec 16) (j : Jilek) : Jilek :=
  let j := j.expireLease
  match j.lease with
  | none => ({ j with lease := some ⟨d, id, j.tick + 8192⟩ }.leaseStatus 0).ownerChanged d
  | some l =>
    if l.owner = d then { j with lease := some { l with expiry := j.tick + 8192 } } else j.leaseStatus 3

/-- LEASE renew (R118). -/
def Jilek.leaseRenew (d : Fin 2) (j : Jilek) : Jilek :=
  let j := j.expireLease
  match j.lease with
  | none => j.leaseStatus 4
  | some l =>
    if l.owner = d then { j with lease := some { l with expiry := j.tick + 8192 } } else j.leaseStatus 3

/-- LEASE release (R118). -/
def Jilek.leaseRelease (d : Fin 2) (j : Jilek) : Jilek :=
  let j := j.expireLease
  match j.lease with
  | some l => if l.owner = d then { j with lease := none }.leaseStatus 2 else j.ignored
  | none => j.ignored

/-! ### Echo, tick count, test pulse (R97, R109, R115, R116) -/

/-- An ECHO on downlink `d` came less than 1,024 ticks ago and was answered. -/
def Jilek.echoSoon (d : Fin 2) (j : Jilek) : Bool :=
  match j.downlinks[d].lastEcho with
  | some u => decide (j.up < u + 1024)
  | none => false

/-- Ticks from the edge derived from a frame's start to the frame's processing tick: 15 more ticks of the frame and two
(R107, R109). -/
def processLag : Nat := 17

/-- The instant in fs of the recovered tick edge that started the frame which is processed now, before phase delay (R116). -/
def Jilek.recoveredStart (d : Fin 2) (j : Jilek) : Int :=
  let edge : Int := (j.now 0 : Int) - processLag * tickFs
  edge - (if j.src == some d then (j.phaseCode d * codeFs : Int) else Config.recoveredEdge d j.up)

/-- ECHO (R97, R109, R116): at most one reply per downlink in any 1,024 ticks; one that comes sooner is ignored. -/
def Jilek.echo (d : Fin 2) (tag : BitVec 8) (j : Jilek) : Jilek :=
  if j.echoSoon d then j.ignored
  else
    (j.modDown d (fun x => { x with lastEcho := some j.up })).modFramer (if j.aggregated then d else 0)
      (fun f => { f with echo := f.echo ++ [⟨d, tag, j.recoveredStart d⟩] })

/-- The count is loaded and moves by `d` (R115): the lease's expiry and the start ticks of runs move with it, so that no
duration changes (log entry 13); the horizons to come follow the new count (R98). -/
def Jilek.loadTick (d : Tick) (j : Jilek) : Jilek :=
  let j1 := forUpTo 32 (fun t => Jilek.modTile t (fun s =>
    { s with run := s.run.map (fun r => { r with s := r.s + d }) })) j
  { (j1.modFramer 0 (fun f => { f with lastH := none })).modFramer 1 (fun f => { f with lastH := none }) with
    tick := j.tick + d
    lease := j.lease.map (fun l => { l with expiry := l.expiry + d })
    tickSet := true
    injections := [] }

/-- TICK_SYNC (R115): the edge derived from the start of the frame is numbered T0 + whole. -/
def Jilek.tickSync (d : Fin 2) (t0 : Tick) (j : Jilek) : Jilek :=
  let want := t0 + BitVec.ofNat 48 (j.phaseWhole d)
  let own := j.tick - BitVec.ofNat 48 processLag
  if !j.anyData then
    (j.loadTick (want - own)).moveUplinks
  else if own = want then j
  else
    let diff : Int := signed 48 (want - own).toNat
    j.status 0x08 0 (satSigned 32 diff)

/-- TEST_PULSE (R109). -/
def Jilek.testPulse (t : Tick) (j : Jilek) : Jilek :=
  if !j.tickSet then j.ignored
  else if !(notBefore t (j.tick + 16)) then j.ignored.status 0x0C fTestPulse (t.toNat % 2 ^ 32)
  else if j.injections.contains t then j.ignored
  else if j.injections.length ≥ 4 then j.ignored.status 0x0D 0 (t.toNat % 2 ^ 32)
  else { j with injections := j.injections ++ [t] }

/-! ### Phase, counters and eye scans (R115, R119, R120) -/

/-- A write of `LK_PHASEn` (R114, R115, R120): code slews the edges; whole stays as it is, with status 0x09, while an
uplink is in data. The answer says whether a field was kept. -/
def Jilek.writePhase (d : Fin 2) (v : Word) (j : Jilek) : Jilek × Bool :=
  let old := j.reg (Reg.LK_PHASE d)
  let keep := j.anyData && decide (fld v 20 11 ≠ fld old 20 11)
  let whole := if keep then fld old 20 11 else fld v 20 11
  let j1 := j.setReg (Reg.LK_PHASE d) (word32 [(1, 1), (10, 0), (10, whole), (11, fld v 10 0)])
  let j2 := if j1.src == some d then { j1 with slew := j1.slew + j1.phaseCode d - j.phaseCode d } else j1
  let j3 := if keep then j2.status 0x09 d v.toNat else j2
  let j4 := if j3.holdover && j3.locked d then j3.takeSource d else j3
  (j4, keep)

/-- `LK_CTRL.count_clear` (R120). -/
def Jilek.lkClear (j : Jilek) : Jilek :=
  Jilek.clearCtr Reg.LK_IGNORED (Jilek.clearCtr (Reg.LK_CRC 0) (Jilek.clearCtr (Reg.LK_CRC 1) j))

/-- `LK_EYEn.start` (R119): done clears and a scan of 2^24 bits begins. -/
def Jilek.eyeStart (d : Fin 2) (j : Jilek) : Jilek :=
  (j.modDown d (fun x => { x with eye := some j.up })).setReg (Reg.LK_EYE d) (setBit (j.reg (Reg.LK_EYE d)) 30 false)

/-- The scan of a downlink ends (R119): 2^24 bits at 8 bits a tick. -/
def Jilek.eyeDone (d : Fin 2) (errors : Nat) (j : Jilek) : Jilek :=
  match j.downlinks[d].eye with
  | some u =>
    if u + 2 ^ 21 ≤ j.up then
      (j.modDown d (fun x => { x with eye := none })).setReg (Reg.LK_EYE d)
        (setFld (setBit (j.reg (Reg.LK_EYE d)) 30 true) 11 0 (cap 4095 errors))
    else j
  | none => j

end Sys2Proof.Machine
end

