-- ==== Sys2Proof/Machine/JilekConfig.lean ====
section
/-!
DEFINITION. The Jilek's registers as CONFIG reaches them, its commit, its power domains and resets, its downlink frames
and the fast commands (06 R107 to R110; 17 R329; 18 R338, R339, R345, R347; 19 R364; 20 R369, R370, R378; 00 R6, R9).
-/

namespace Sys2Proof.Machine

/-! ### Reads -/

/-- The newest value of a field with Applies "commit" (R9, R338): staged, else taken into the pending commit, else in
force. -/
def Jilek.newest (j : Jilek) (key : Nat) (inForce : Word) : Word :=
  match fget none j.staged key with
  | some s => s.val
  | none => match fget none j.taken key with | some w => w | none => inForce

/-- `FE_CELL_DATA` of a cell (R44): the newest entry, and stuck as it is now. -/
def Jilek.cellData (j : Jilek) (c : Nat) : Word :=
  setBit (j.newest (cellKey c) ((j.cell c).entry.setWidth 32)) 12 (j.cell c).stuck

/-- `CAL_CELL_DATA` of a cell (R81). -/
def Jilek.calData (j : Jilek) (c : Nat) : Word :=
  let s := j.cell c
  word32 [(2, 0), (2, s.calStatus.toNat), (14, s.selB.toNat), (14, s.selA.toNat)]

/-- The identity check of R348: the CRC-16 of R22 over the eight bytes of the identity. -/
def Jilek.otpOk (j : Jilek) : Bool := crc16 j.unit.toNat 64 == j.otpCrc.toNat

/-- The state code of `CAL_TILE_STATE` (R81). -/
def Jilek.calStateCode (j : Jilek) (t : Nat) : Nat :=
  let s := j.tile t
  if s.run.isSome then 3
  else match s.due with
    | some d => if j.held && !d.forced then 2 else 1
    | none => 0

/-- `CAL_TILE_STATE` (R81). -/
def Jilek.calTileState (j : Jilek) (t : Nat) : Word :=
  let s := j.tile t
  word32 [(1, b2n s.stale), (1, b2n s.sensorFault), (1, b2n s.reported), (3, s.outcome.toNat), (2, 0),
    (2, s.cause.toNat), (3, j.calStateCode t), (12, 0), (7, s.seq.toNat)]

/-- The code of an uplink state (R120). -/
def upCode : UpState → Nat
  | .off => 0
  | .train => 1
  | .data => 2

/-- `LK_STATE` (R120). -/
def Jilek.lkState (j : Jilek) : Word :=
  word32 [(2, ownerCode j.lease), (1, b2n j.tickSet), (1, match j.src with | some d => d | none => 0),
    (1, b2n j.holdover), (1, b2n (j.locked 1)), (1, b2n (j.locked 0)),
    (3, upCode j.upState[(1 : Fin 2)]), (3, upCode j.upState[(0 : Fin 2)]), (19, 0)]

/-- `LK_LEASE` (R120). -/
def Jilek.lkLease (j : Jilek) : Word :=
  match j.lease with
  | some l => word32 [(16, l.id.toNat), (2, 0), (14, if later l.expiry j.tick then tickDiff l.expiry j.tick else 0)]
  | none => 0

/-- `CM_STATE` (R347). -/
def Jilek.cmState (j : Jilek) : Word :=
  word32 [(1, b2n j.commit.isSome), (1, b2n j.switchedLate), (1, b2n j.switched), (1, 0), (4, j.epoch.toNat),
    (4, match j.commit with | some c => c.epoch.toNat | none => 0), (20, 0)]

/-- The code of a reset cause (R378). -/
def jCauseCode : JCause → Nat
  | .powerOn => 0
  | .brownOut => 1
  | .linkLoss => 2
  | .pin => 3

/-- The number of the copy at `addr` of a repeated register. -/
def copyOf (base stride addr : Nat) : Nat := (addr - base) / stride

/-- The value of a LO/HI pair whose _LO stands at `addr`, the sat bit of a counter in bit 63 (R101, R347, R364). -/
def Jilek.wide (j : Jilek) (addr : Nat) : Nat :=
  if addr = Reg.CM_SWITCH then j.lastSwitch.toNat
  else if addr = Reg.CM_TARGET then (match j.commit with | some c => c.target.toNat | none => j.lastTarget.toNat)
  else if addr = Reg.JID_UNIT then j.unit.toNat
  else pack [(1, b2n (j.ctr addr).sat), (15, 0), (48, (j.ctr addr).val)]

/-- A register that is neither part of a wide value nor a plain RW register. -/
def Jilek.special (j : Jilek) (addr : Nat) : Option Word :=
  if addr = Reg.FE_CELL_DATA then some (j.cellData (fld (j.reg Reg.FE_CELL_INDEX) 10 0))
  else if addr = Reg.FE_STUCK_COUNT then some (word32 [(32, j.stuckCount)])
  else if addr = Reg.VN_LAST_OVERRUN then some (setFld (j.reg addr) 10 0 j.lastOverrun.toNat)
  else if addr = Reg.CAL_CELL_DATA then some (j.calData (fld (j.reg Reg.CAL_CELL_INDEX) 10 0))
  else if 0x2100 ≤ addr ∧ addr < 0x2200 then
    let t := copyOf 0x2100 8 addr
    if addr % 8 = 0 then some (j.calTileState t)
    else some (word32 [(4, 0), (12, (j.tile t).sensorRef.toNat), (4, 0), (12, (j.tile t).sensorNow.toNat)])
  else if addr = Reg.TP_MERGE_PACE then
    some (word32 [(16, j.merges[(1 : Fin 2)].pace.last), (16, j.merges[(0 : Fin 2)].pace.last)])
  else if addr = Reg.TP_MERGE_PACE_PREV then
    some (word32 [(16, j.merges[(1 : Fin 2)].pace.prev), (16, j.merges[(0 : Fin 2)].pace.prev)])
  else if 0x3100 ≤ addr ∧ addr < 0x3300 ∧ addr % 16 = 0 then
    let p := (j.tile (copyOf 0x3100 16 addr)).pace
    some (word32 [(16, p.prev), (16, p.last)])
  else if 0x3100 ≤ addr ∧ addr < 0x3300 ∧ addr % 16 = 4 then
    let t := copyOf 0x3100 16 addr
    let s := j.tile t
    some (word32 [(1, b2n s.span.isSome), (18, 0), (5, s.queue.length), (3, 0), (5, j.limitNow t)])
  else if addr = Reg.LK_STATE then some j.lkState
  else if addr = Reg.LK_LEASE then some j.lkLease
  else if addr = Reg.CM_STATE then some j.cmState
  else if addr = Reg.JID_STATUS then some (word32 [(1, b2n j.otpOk), (31, 0)])
  else if addr = Reg.JPW_STATUS then some (word32 [(32, jCauseCode j.cause)])
  else none

/-- The key of a _HI latch (R110). -/
def latchKey (d : Fin 2) (addr : Nat) : Nat := d * 0x10000 + addr

/-- Read a register on downlink `d` (R110): a read of _LO latches _HI for that downlink, a read of _HI returns what was
latched there. -/
def Jilek.readReg (d : Fin 2) (addr : Nat) (j : Jilek) : Jilek × Word :=
  match jilekRow addr with
  | some r =>
    match r.kind with
    | .lo | .ctrLo =>
      let v := j.wide addr
      ({ j with latches := fset 0 j.latches (latchKey d (addr + 4)) (BitVec.ofNat 32 (v / 2 ^ 32)) }, BitVec.ofNat 32 v)
    | .hi | .mid | .ctrHi => (j, fget 0 j.latches (latchKey d addr))
    | .plain =>
      match j.special addr with
      | some w => (j, w)
      | none => (j, j.newest addr (j.reg addr))
  | none => (j, 0)

/-! ### Writes -/

/-- Stage a value at the present tick (R9, R338); the value staged before that tick, if any, is kept beside it. -/
def Jilek.stage (key : Nat) (v : Word) (j : Jilek) : Jilek :=
  let prior := (fget none j.staged key).bind (fun s => if s.moment = j.up then s.prior else some s.val)
  { j with staged := fset none j.staged key (some ⟨v, j.up, prior⟩) }

/-- What a COMMIT processed at moment `up` takes of a staged field: the value staged before it (R338). -/
def Staged.before (up : Nat) (s : Staged) : Option Word := if s.moment = up then s.prior else some s.val

/-- Advance a cell index by one, wrapping (R44). -/
def Jilek.advanceIndex (addr : Nat) (j : Jilek) : Jilek :=
  j.setReg addr (BitVec.ofNat 32 ((fld (j.reg addr) 10 0 + 1) % 2048))

/-- Tile `t` is switched off (R80, R96, R369). -/
def Jilek.tileOff (t : Nat) (j : Jilek) : Jilek :=
  let j1 := j.flushAll t
  let j2 := match (j1.tile t).run with
    | some r => if r.phase = RunPhase.complete ∨ r.phase = RunPhase.aborted then j1 else j1.abortRun t 6
    | none => j1
  j2.modTile t (fun s => { s with limit := 0, limitWas := 0 })

/-- Tile `t` is switched on (R65, R66, R87, R369): its entries and selection masks take their reset values, a run
becomes due with cause reset, as R66 says of a cause that arises. DESIGN CHOICE (log entry 173): its pace ring has no
complete count again, and the registers keep their previous values. -/
def Jilek.tileOnAgain (t : Nat) (j : Jilek) : Jilek :=
  ((forUpTo 64 (fun k => Jilek.modCell (64 * t + k) (fun c =>
      { c with selA := 0x397F, selB := 0x397F, newA := 0x397F, newB := 0x397F })) (j.resetEntries t)).modTile t (fun s =>
    { s with onSince := j.up, pace := { s.pace with complete := 0 } })).runDue t 0 false

/-- A write of `JPW_TILE_ON` (R369). -/
def Jilek.writeTileOn (v : Word) (j : Jilek) : Jilek :=
  let old := j.reg Reg.JPW_TILE_ON
  let j1 := forUpTo 32 (fun t j => if old.getLsbD t && !v.getLsbD t then j.tileOff t else j) j
  let j2 := j1.setReg Reg.JPW_TILE_ON v
  forUpTo 32 (fun t j => if !old.getLsbD t && v.getLsbD t then j.tileOnAgain t else j) j2

/-- A write of `JPW_LINK_ON` (R369): a receiver of the owner's downlink, or both receivers, stay on. The answer says
whether a bit was kept. -/
def Jilek.writeLinkOn (v : Word) (j : Jilek) : Jilek × Bool :=
  let old := j.reg Reg.JPW_LINK_ON
  let off := fun d : Fin 2 => bit old.toNat (2 + d) && !bit v.toNat (2 + d)
  let none' := decide (fld v 3 2 = 0)
  let owned := fun d : Fin 2 => match j.lease with | some l => l.owner == d | none => false
  let kept := fun d : Fin 2 => off d && (none' || owned d)
  let rx := fun d : Fin 2 => if kept d then true else bit v.toNat (2 + d)
  let w := word32 [(23, 0), (1, fld v 8 8), (4, 0), (1, b2n (rx 1)), (1, b2n (rx 0)), (2, fld v 1 0)]
  let j1 := j.setReg Reg.JPW_LINK_ON w
  let j2 := if j1.locked 0 && !rx 0 then j1.loseLock 0 else j1
  let j3 := if j2.locked 1 && !rx 1 then j2.loseLock 1 else j2
  (j3.moveUplinks, kept 0 || kept 1)

/-- The RW fields of a write, over the value in force; the W1C bits of the write clear (R6). -/
def mergeWrite (r : RegRow) (old v : Word) : Word :=
  (old &&& ~~~ BitVec.ofNat 32 (r.rw ||| r.w1c)) ||| (v &&& BitVec.ofNat 32 r.rw)
    ||| (old &&& BitVec.ofNat 32 r.w1c &&& ~~~ v)

/-- Write a register (R6, R8, R9, R106). The answer is the result of the response: 0 done, 1 no such register, 2 write
ignored. -/
def Jilek.writeReg (addr : Nat) (v : Word) (j : Jilek) : Jilek × Nat :=
  match jilekRow addr with
  | none => (j, 1)
  | some r =>
    if r.rw = 0 ∧ r.w1c = 0 ∧ r.wo = 0 then (j, 2)
    else if addr = Reg.FE_CELL_DATA then
      (j.stage (cellKey (fld (j.reg Reg.FE_CELL_INDEX) 10 0)) (v &&& 0x3FF), 0)
    else if r.commit ≠ 0 then (j.stage addr (v &&& BitVec.ofNat 32 r.rw), 0)
    else if addr = Reg.FE_CTRL then
      let j1 := j.setReg addr (mergeWrite r (j.reg addr) v)
      let j2 := if bit v.toNat 6 then j1.pileupClear else j1
      (if bit v.toNat 5 then j2.stuckClear else j2, 0)
    else if addr = Reg.VN_CTRL then (if bit v.toNat 0 then j.overrunClear else j, 0)
    else if addr = Reg.TP_CTRL then
      let w := j.writeMode addr (v &&& 1) v
      (if bit v.toNat 1 then w.1.tpClear else w.1, if w.2 then 2 else 0)
    else if addr = Reg.TP_LINK_MAP then
      let w := j.writeMode addr v v
      (w.1, if w.2 then 2 else 0)
    else if addr = Reg.TP_FLUSH then (j.flushTiles v, 0)
    else if addr = Reg.LK_CTRL then
      let j1 := (j.setReg addr (mergeWrite r (j.reg addr) v))
      ((if bit v.toNat 2 then j1.lkClear else j1).moveUplinks, 0)
    else if addr = Reg.LK_PHASE 0 then let w := j.writePhase 0 v; (w.1, if w.2 then 2 else 0)
    else if addr = Reg.LK_PHASE 1 then let w := j.writePhase 1 v; (w.1, if w.2 then 2 else 0)
    else if addr = Reg.LK_EYE 0 then
      let j1 := j.setReg addr (mergeWrite r (j.reg addr) v)
      (if bit v.toNat 31 then j1.eyeStart 0 else j1, 0)
    else if addr = Reg.LK_EYE 1 then
      let j1 := j.setReg addr (mergeWrite r (j.reg addr) v)
      (if bit v.toNat 31 then j1.eyeStart 1 else j1, 0)
    else if addr = Reg.JPW_TILE_ON then (j.writeTileOn v, 0)
    else if addr = Reg.JPW_LINK_ON then let w := j.writeLinkOn v; (w.1, if w.2 then 2 else 0)
    else (j.setReg addr (mergeWrite r (j.reg addr) v), 0)

/-- Whether an address is one of the two cell-data registers, and its index register (R44, R81). -/
def indexOf (addr : Nat) : Option Nat :=
  if addr = Reg.FE_CELL_DATA then some Reg.FE_CELL_INDEX
  else if addr = Reg.CAL_CELL_DATA then some Reg.CAL_CELL_INDEX
  else none

/-- One access to a register, a read or a write with its read-back (R44, R110): the index of a cell-data register
advances once. The answer is the result and the data of the response. -/
def Jilek.access (d : Fin 2) (write : Option Word) (addr : Nat) (j : Jilek) : Jilek × Nat × Word :=
  let w := match write with
    | some v => j.writeReg addr v
    | none => (j, if (jilekRow addr).isSome then 0 else 1)
  let r := w.1.readReg d addr
  let j1 := match indexOf addr with | some i => r.1.advanceIndex i | none => r.1
  ({ j1 with lastRead := r.2 }, w.2, r.2)

/-- A CONFIG transaction of the owner (R24, R110): carried out and answered with a register response. -/
def Jilek.config (d : Fin 2) (tag : BitVec 8) (write : Option Word) (addr : BitVec 16) (j : Jilek) : Jilek :=
  j.fromOwner d (fun j =>
    let a := j.access d write addr.toNat
    { a.1 with responses := a.1.responses ++ [controlWord sResponse (responsePayload tag.toNat a.2.1 a.2.2.toNat)] })

/-! ### Commit (R338, R339) -/

/-- Status 0x06 of the latest switch (R339). -/
def Jilek.switchStatus (j : Jilek) : Jilek :=
  j.status 0x06 (pack [(4, j.epoch.toNat), (1, b2n j.switchedLate), (3, 0)]) (j.lastSwitch.toNat % 2 ^ 32)

/-- COMMIT with epoch `n` and target `t` (R338). -/
def Jilek.commitCmd (n : BitVec 4) (t : Tick) (j : Jilek) : Jilek :=
  if !j.tickSet then j.ignored
  else if j.switched && n == j.epoch then j.ignored.switchStatus
  else if j.commit.isSome then j.ignored
  else
    let late := later j.tick t
    let rest := (j.staged.filter (fun e => e.2.any (fun s => s.moment == j.up))).map
      (fun e => (e.1, e.2.map (fun s => { s with prior := none })))
    let mine := j.staged.filterMap (fun e => (e.2.bind (Staged.before j.up)).map (fun v => (e.1, some v)))
    { j with
      commit := some ⟨n, t, if late then j.tick else t, late⟩
      staged := rest
      taken := mine }

/-- Put one taken value in force at the switch; a tile that is off takes its reset values later (R379). -/
def Jilek.applyTaken (e : Nat × Option Word) (j : Jilek) : Jilek :=
  match e.2 with
  | some w =>
    if e.1 ≥ 0x10000 then
      let c := e.1 - 0x10000
      if j.tileOn (c / 64) then j.setEntry c (w.setWidth 10) else j
    else if e.1 = Reg.FE_THR_GLOBAL then
      { j.setReg e.1 w with thrWas := (j.reg e.1).setWidth 10, thrAt := some j.up }
    else j.setReg e.1 w
  | none => j

/-- JILEK_SWITCH (R338, R339): at the switch tick the taken values and the epoch come into force, status 0x06 follows. -/
def Jilek.switch (j : Jilek) : Jilek :=
  match j.commit with
  | some c =>
    if notBefore j.tick c.switchAt then
      ({ forAll j.taken Jilek.applyTaken j with
          commit := none, taken := [], epoch := c.epoch, switched := true, switchedLate := c.late,
          lastSwitch := c.switchAt, lastTarget := c.target }).switchStatus
    else j
  | none => j

/-! ### Resets (R367, R370) -/

/-- A Jilek reset: everything takes its reset value; unit identity and cause remain. -/
def Jilek.resetAll (cause : JCause) (inReset : Bool) (j : Jilek) : Jilek :=
  { unit := j.unit, otpCrc := j.otpCrc, cause := cause, inReset := inReset, draws := j.draws }

/-- JILEK_LINK_LOSS_RESET (R370, R379). -/
def Jilek.linkLoss (j : Jilek) : Jilek :=
  match j.unlockedSince with
  | some u =>
    if bit (j.reg Reg.JPW_LINK_ON).toNat 8 && !j.locked 0 && !j.locked 1 && decide (u + 2 ^ 24 ≤ j.up) then
      j.resetAll .linkLoss false
    else j
  | none => j

/-- JILEK_RESET_RELEASE (R66, R87, R367): 100 µs after the rails are up the chip leaves reset; durations count from here,
and every tile is due with cause reset. -/
def Jilek.release (j : Jilek) : Jilek :=
  if j.inReset && decide (32000 ≤ j.up) then
    forUpTo 32 (fun t => Jilek.modTile t (fun s => { s with due := some ⟨0, false, 0⟩, stale := true, cause := 0 }))
      { j with inReset := false, up := 0, unlockedSince := some 0 }
  else j

/-! ### Downlink frames (R107 to R109) -/

/-- Act on a fast command of downlink `d` at the current tick, the processing tick (R24, R109). -/
def Jilek.fastCommand (d : Fin 2) (op arg payload : Nat) (j : Jilek) : Jilek :=
  let tickOf := BitVec.ofNat 48 (bits payload 95 48)
  let tiles := BitVec.ofNat 32 (bits payload 95 64)
  if op = fNop then if arg = 0 then j else j.ignored
  else if op = fTickSync then
    if arg = 0 ∧ bits payload 47 0 = 0 then j.fromOwner d (Jilek.tickSync d tickOf) else j.ignored
  else if op = fCommit then
    if bits arg 7 4 ≠ 0 ∨ bits payload 47 0 ≠ 0 then j.ignored
    else j.fromOwner d (Jilek.commitCmd (BitVec.ofNat 4 (bits arg 3 0)) tickOf)
  else if op = fCalStart then
    if arg / 8 ≠ 0 ∨ bits payload 63 0 ≠ 0 then j.ignored
    else match arg with
      | 0 => j.fromOwner d (Jilek.calRun tiles)
      | 1 => j.fromOwner d (Jilek.calForce tiles)
      | 2 => j.fromOwner d (Jilek.calCancel tiles)
      | 3 => j.fromOwner d Jilek.calHold
      | 4 => j.fromOwner d Jilek.calRelease
      | _ => j.ignored
  else if op = fTestPulse then
    if arg = 0 ∧ bits payload 47 0 = 0 then j.fromOwner d (Jilek.testPulse tickOf) else j.ignored
  else if op = fFlush then
    if arg = 0 ∧ bits payload 63 0 = 0 then j.fromOwner d (Jilek.flushTiles tiles) else j.ignored
  else if op = fLease then
    if arg / 4 ≠ 0 ∨ bits payload 79 0 ≠ 0 then j.ignored
    else match arg with
      | 0 => j.leaseClaim d (BitVec.ofNat 16 (bits payload 95 80))
      | 1 => j.leaseRenew d
      | 2 => j.leaseRelease d
      | _ => j.ignored
  else if op = fEcho then j.echo d (BitVec.ofNat 8 arg)
  else if op = fResetTile then
    if arg = 0 ∧ bits payload 63 0 = 0 then j.fromOwner d (Jilek.resetTiles tiles) else j.ignored
  else if op = fConfig then
    if arg ≠ 0 ∨ bits payload 85 84 ≠ 0 ∨ bits payload 67 64 ≠ 0 ∨ bits payload 31 0 ≠ 0 ∨ bits payload 69 68 ≠ 0 then
      j.ignored
    else
      let tag := BitVec.ofNat 8 (bits payload 95 88)
      let addr := BitVec.ofNat 16 (bits payload 83 68)
      let data := BitVec.ofNat 32 (bits payload 63 32)
      match bits payload 87 86 with
      | 1 => j.config d tag (some data) addr
      | 2 => j.config d tag none addr
      | _ => j.ignored
  else j.ignored

/-- The counters of frame lock after a frame (R108): its sync, and its CRC whatever its sync. -/
def Downlink.frame (now : Nat) (sync crc ready : Bool) (x : Downlink) : Downlink :=
  let good := sync && crc
  { x with
    goodRun := if good then x.goodRun + 1 else 0
    badSyncRun := if sync then 0 else x.badSyncRun + 1
    crcWindow := ((!crc) :: x.crcWindow).take 64
    readyRun := if !good then x.readyRun else if ready then x.readyRun + 1 else 0
    notReadyRun := if !good then x.notReadyRun else if ready then 0 else x.notReadyRun + 1
    lastEnd := some now }

/-- Frame lock is lost (R108): 4 wrong syncs in a row, or 16 CRC failures within 64 frames. -/
def Downlink.broken (x : Downlink) : Bool := decide (x.badSyncRun ≥ 4) || decide ((x.crcWindow.filter id).length ≥ 16)

/-- The phase bit agrees (R108), which is checked only while the tick is set and the downlink is its source. The frame
started 15 ticks before the one in which its last bit is received, and T + whole is the tick of its start edge. -/
def Jilek.phaseOk (d : Fin 2) (phase : Bool) (j : Jilek) : Bool :=
  if j.tickSet && j.src == some d && !j.holdover then (j.tick - 15).toNat.testBit 4 == phase else true

/-- The sync of a plain frame is right (R107). -/
def frameSync (f : BitVec 128) : Bool := decide (fld f 127 126 = 2)

/-- DOWNLINK_FRAME_RECEIVED (R107 to R109, R111): the last bit of a frame, as it stands on the line, is received on downlink
`d` in the current tick. A frame that is accepted waits for its processing tick, two ticks later. -/
def Jilek.frameReceived (d : Fin 2) (line : BitVec 128) (j : Jilek) : Jilek :=
  let f := scrambleFrame line
  if !bit (j.reg Reg.JPW_LINK_ON).toNat (2 + d) then j
  else
    let crc := frameCrcOk f
    let j1 := whenDo (!crc) (Jilek.count (Reg.LK_CRC d) 1)
      (j.modDown d (Downlink.frame j.up (frameSync f) crc (bit f.toNat 125)))
    if j1.locked d && (j1.downlinks[d]).broken then j1.loseLock d
    else if !(frameSync f && crc) then j1
    else
      let j2 := if !j1.locked d && decide (j1.downlinks[d].goodRun ≥ 8) then j1.gainLock d else j1
      if !j2.locked d then j2
      else if !j2.phaseOk d (bit f.toNat 124) then j2.loseLock d
      else { j2.moveUplinks with due := j2.due ++ [⟨j2.up + 2, d, f⟩] }

/-- The command of a frame acts at the processing tick (R109). -/
def Jilek.frameCommand (d : Fin 2) (f : BitVec 128) (j : Jilek) : Jilek :=
  if j.locked d then j.fastCommand d (fld f 123 120) (fld f 119 112) (fld f 111 16) else j

/-! ### Time (R109, R114, R118) -/

/-- The next moment at which something waits: the earliest processing tick, or the new owner's frame start. -/
def Jilek.nextMoment (j : Jilek) : Option Nat :=
  let l := j.due.map DueFrame.at' ++ (match j.srcNext with | some (_, m) => [m] | none => [])
  match l with
  | m :: l => some (l.foldl min m)
  | [] => none

/-- The frames of downlink `d` whose processing tick has come act (R109). -/
def Jilek.actOn (d : Fin 2) (j : Jilek) : Jilek :=
  let ready := fun e : DueFrame => decide (e.at' ≤ j.up) && e.downlink == d
  forAll (j.due.filter ready) (fun e => Jilek.frameCommand d e.frame) { j with due := j.due.filter (fun e => !ready e) }

/-- What waits for this moment happens: a frame start moves the tick source, then downlink 0 acts, then downlink 1 (R118). -/
def Jilek.moment (j : Jilek) : Jilek :=
  let now := match j.srcNext with | some (_, m) => decide (m ≤ j.up) | none => false
  ((whenDo now Jilek.takeOwnerSource j).actOn 0).actOn 1

/-- Time passes up to the count `e` of tick edges, with at most `fuel` moments on the way. -/
def Jilek.passTo : Nat → Nat → Jilek → Jilek
  | 0, e, j => j.tickOn (e - j.up)
  | fuel + 1, e, j =>
    match j.nextMoment with
    | some m => if m ≤ e then Jilek.passTo fuel e (j.tickOn (m - j.up)).moment else j.tickOn (e - j.up)
    | none => j.tickOn (e - j.up)

/-- `n` tick edges pass at the Jilek; what waits for one of them happens there. Every frame that waits adds at most one new
moment. -/
def Jilek.advance (n : Nat) (j : Jilek) : Jilek := j.passTo (2 * j.due.length + 2) (j.up + n)

end Sys2Proof.Machine
end

