-- ==== Sys2Proof/Machine/State.lean ====
section
/-!
DEFINITION. The state of the set: one Jilek, one Bolov and the queue of waiting commands; the faults and refusals.
-/

namespace Sys2Proof.Machine

/-- The machine stops with a fault: never. Every command of the spec has an effect or none (log entry 2). -/
inductive Fault where
deriving DecidableEq, Repr

/-- The machine refuses a command. -/
inductive Refusal where
  /-- raised by a dispatch arm of a command that has no meaning yet; safe: nothing is claimed about the command -/
  | notModelled (mnemonic : String)
deriving DecidableEq, Repr

/-- The set (R1) and the commands that wait, first in, first out. -/
structure State where
  j : Jilek
  b : Bolov
  pending : List Instr
deriving DecidableEq, Repr

/-- The set right after reset: every field at the value its structure gives, the queue empty. -/
def State.reset : State := { j := {}, b := {}, pending := [] }

end Sys2Proof.Machine
end

