-- ==== Sys2Proof/Machine/Ops.lean ====
section
/-!
DEFINITION. The operations shared by all commands: time passes for both chips, a command acts on one chip.
-/

namespace Sys2Proof.Machine

/-- The outcome of every meaning. -/
abbrev Out := Host.Outcome State Fault Refusal

/-- `n` tick edges pass (R14, R103: both chips count the same reference). -/
def advance (n : Nat) (s : State) : State := { s with j := s.j.advance n, b := s.b.advance n }

/-- Ticks from `now` to `t`; none where `t` is not later (R125). -/
def ticksTo (now t : Tick) : Nat := if later t now then tickDiff t now else 0

/-- Time passes until the Jilek's tick is `t`. -/
def reachJ (t : Tick) (s : State) : State := advance (ticksTo s.j.tick t) s

/-- Time passes until the Bolov's tick is `t`. -/
def reachB (t : Tick) (s : State) : State := advance (ticksTo s.b.tick t) s

/-- A command acts on the Jilek alone, now; a Jilek held in reset (R367) takes no part. -/
def onJ (s : State) (f : Jilek → Jilek) : Out := .next { s with j := if s.j.inReset then s.j else f s.j }

/-- A command acts on the Bolov alone, now. -/
def onB (s : State) (f : Bolov → Bolov) : Out := .next { s with b := f s.b }

/-- A command acts on the Jilek alone, at the Jilek's tick `t`. -/
def atJ (t : Tick) (s : State) (f : Jilek → Jilek) : Out := onJ (reachJ t s) f

/-- A command acts on the Bolov alone, at the Bolov's tick `t`. -/
def atB (t : Tick) (s : State) (f : Bolov → Bolov) : Out := onB (reachB t s) f

end Sys2Proof.Machine
end

