-- ==== Sys2Proof/Machine/Mere.lean ====
section
/-!
DEFINITION. Line checks, poison, buckets, the repeat tracker, spares and the scrubbers (13 R245 to R260).
-/

namespace Sys2Proof.Machine

/-- The Mere page. -/
def pgMere : Nat := 0x00B

/-- Change the integrity state. -/
def Bolov.modMere (f : MereState → MereState) (b : Bolov) : Bolov := { b with mere := f b.mere }

/-! ### Line addresses (R155, R227, R245, R246) -/

/-- A line of a Mere bank, and a Tarn physical line. -/
def mereLine (bank n : Nat) : Nat := bank * 65536 + n
def tarnLine (p : Nat) : Nat := 0x80000000 + p
def isTarnLine (a : Nat) : Bool := decide (a ≥ 0x80000000)

/-- The line of a context, of a pool line, and of a table entry in its copy 0 or 1; the places of tables other than the
region map are the model's own (log entry 59). -/
def ctxLine (i : Nat) : Nat := mereLine (i / 65536) (i % 65536 / 2)
def poolLine (l : Nat) : Nat := mereLine (4 + l / 32768) (l % 32768)
def mapLine (copy e : Nat) : Nat := mereLine (14 + copy) (e / 16)
def overflowLine (copy bin : Nat) : Nat := mereLine (14 + copy) (256 + bin / 256)
def steeringLine (copy i : Nat) : Nat := mereLine (14 + copy) (512 + i / 32)
def maskLine (copy m : Nat) : Nat := mereLine (14 + copy) (520 + m)
def linkLine (l : Nat) : Nat := mereLine 14 (1024 + l / 12)
def stagingLine (set cell : Nat) : Nat := mereLine 14 (28672 + set * 8 + cell / 8)
def stagedCtxLine (slot : Nat) : Nat := mereLine 15 (8192 + slot % 8192 / 2)
def markLine (i : Nat) : Nat := mereLine 15 (1024 + i / 2)
def requestLine (i : Nat) : Nat := mereLine 15 (1056 + i)
def trackerLine (i : Nat) : Nat := mereLine 15 (1088 + i / 4)
def waypointLine (k : Nat) : Nat := mereLine 15 (1152 + k / 2)
def lateLine (i : Nat) : Nat := mereLine 15 (4096 + i % 4096)

/-- The physical line of a history address, and the check line of its group (R227). -/
def physLine (h : Nat) : Nat := 9 * (h / 8) + h % 8
def checkLine (p : Nat) : Nat := p / 9 * 9 + 8

/-- The unit of a line (R254): its bank, or 16 + its channel. -/
def unitOf (a : Nat) : Nat := if isTarnLine a then 16 + (a - 0x80000000) % 16 / 2 else a / 65536 % 16

/-! ### The check and its syndromes (R245, R247) -/

/-- The poison syndrome (R249). -/
def poisonSyndrome : Nat := 0x9E3C5A17

/-- The line check of a line (R245): CRC-32C without reflection over address and data. -/
def lineCheck (a : Nat) (data : BitVec 256) : BitVec 32 :=
  BitVec.ofNat 32 (crcNat 32 0x1EDC6F41 0xFFFFFFFF (a * 2 ^ 256 + data.toNat) 288)

/-- The syndrome of an error pattern over address, data and check (R247). -/
def syndromeOf (e : Nat) : Nat := crcNat 32 0x1EDC6F41 0 (e / 2 ^ 32) 288 ^^^ e % 2 ^ 32

/-- What follows one step after another in the check register from a state, fed with zeros. -/
def crcSteps : Nat → Nat → List Nat
  | 0, _ => []
  | n + 1, s => s :: crcSteps n (crcBit 32 0x1EDC6F41 s false)

/-- The syndromes of the single bits, bit 0 first: of a check bit itself, of an address or data bit what its place makes of it. -/
def bitSyndromes : List Nat := (List.range 32).map (fun i => 2 ^ i) ++ crcSteps 288 0x1EDC6F41

/-- The correctable patterns, each bit and each pair of adjacent bits, with their syndromes (R247). -/
def correctable : List (Nat × Nat) :=
  bitSyndromes.mapIdx (fun i s => (2 ^ i, s)) ++
    (bitSyndromes.zip (bitSyndromes.drop 1)).mapIdx (fun i s => (3 * 2 ^ i, s.1 ^^^ s.2))

/-- The correctable pattern with a syndrome, where one has it. -/
def matchPattern (syn : Nat) : Option Nat := (correctable.find? (fun e => e.2 == syn)).map Prod.fst

/-- A pattern touches an address bit, only check bits. -/
def touchesAddress (e : Nat) : Bool := decide (e ≥ 2 ^ 288)
def checkOnly (e : Nat) : Bool := decide (e < 2 ^ 32)

/-- The outcome of a read (R247), with the data bits that read inverted once corrected, and the pattern of a correction. -/
inductive ReadOutcome where
  | clean (flip : Nat) | transient (flip : Nat)
  | corrected (pattern flip : Nat)
  | storedPoison (flip : Nat)
  | uncorrectable (flip : Nat)
deriving DecidableEq, Repr

/-- Fetches of a line: once more in Mere, twice more in Tarn; a fetch not listed repeats the last one. -/
def fetchesOf (r : LineRead) : List Nat :=
  let l := r.fetches.map BitVec.toNat
  let n := if isTarnLine r.line then 3 else 2
  (List.range n).map (fun i => l.getD i (l.getLastD 0))

/-- A line stores poison. -/
def Bolov.poisoned (b : Bolov) (a : Nat) : Bool := fget false b.mere.poison a

/-- The data bits of an error pattern. -/
def dataBits (e : Nat) : Nat := e / 2 ^ 32 % 2 ^ 256

/-- The check of a Tarn line whose group is in progress is taken from the chip (R230): its check bits read right. -/
def Bolov.checkOnChip (b : Bolov) (a : Nat) : Bool :=
  isTarnLine a && (fget none b.tarn.groups ((a - 0x80000000) / 9)).isSome

/-- The outcome of a read (R247). -/
def Bolov.readOutcome (b : Bolov) (r : LineRead) : ReadOutcome :=
  let stored := if b.poisoned r.line then poisonSyndrome else 0
  let l := (fetchesOf r).map (fun e => if b.checkOnChip r.line then e / 2 ^ 32 * 2 ^ 32 else e)
  let syn := fun (e : Nat) => syndromeOf e ^^^ stored
  let e := l.getLastD 0
  match l.findIdx? (fun e => syn e == 0) with
  | some 0 => .clean (dataBits (l.headD 0))
  | some k => .transient (dataBits (l.getD k 0))
  | none =>
    match matchPattern (syn e) with
    | some p => if touchesAddress p then .uncorrectable (dataBits e) else .corrected p (dataBits e ^^^ dataBits p)
    | none => if syn e = poisonSyndrome then .storedPoison (dataBits e) else .uncorrectable (dataBits e)

/-- The line address at which a line is held: its own, or that of the spare that stands in for it (R257). -/
def Bolov.heldAt (b : Bolov) (a : Nat) : Nat := fget a b.mere.remap a

/-- The line that is held at a line address. -/
def Bolov.lineAt (b : Bolov) (a : Nat) : Nat :=
  match b.mere.remap.find? (fun e => e.2 == a) with
  | some e => e.1
  | none => a

/-! ### Stored data -/

/-- The 64-bit words of a line that read inverted, first word first. -/
def flipWord (flip k : Nat) : W64 := BitVec.ofNat 64 (flip / 2 ^ (64 * (3 - k)))

/-- A late record with data bits inverted (R178, R250): words A, B and C in the first three words of its line. -/
def LateRec.flip (flip : Nat) (r : LateRec) : LateRec :=
  { r with
    word := r.word ^^^ flipWord flip 0
    tick := r.tick ^^^ (flipWord flip 1).setWidth 48
    feId := r.feId ^^^ (flipWord flip 1 >>> 48).setWidth 16
    port := r.port ^^^ fld (flipWord flip 2) 63 57 }

/-- The data words of a Tarn entry with bits of its line `k` inverted; the entry header is the first word of line 0. -/
def TEntry.flip (k flip : Nat) (e : TEntry) : TEntry :=
  { e with words := e.words.mapIdx (fun j w => if (j + 1) / 4 = k then w ^^^ flipWord flip ((j + 1) % 4) else w) }

/-- The history address of a Tarn data line (R227). -/
def histOf (a : Nat) : Nat := (a - 0x80000000) / 9 * 8 + (a - 0x80000000) % 9

/-- Invert stored data bits of a line of contexts, records, late records or history (R247: data as read, or a miscorrection);
the tables are held apart from their lines (log entry 179). -/
def Bolov.flipData (a flip : Nat) (b : Bolov) : Bolov :=
  if flip = 0 then b
  else if isTarnLine a then
    { b with tarn := { b.tarn with entries := b.tarn.entries.map (fun e =>
        let k := (histOf a + b.tarn.hist - e.pos % b.tarn.hist) % b.tarn.hist
        if k < (1 + e.words.length + 3) / 4 ∧ (a - 0x80000000) % 9 ≠ 8 then e.flip k flip else e) } }
  else
    let bank := a / 65536
    let n := a % 65536
    if bank < 4 then
      let i := bank * 65536 + n * 2
      (b.modCtx i (fun c => c ^^^ BitVec.ofNat 128 (flip / 2 ^ 128))).modCtx (i + 1) (fun c => c ^^^ BitVec.ofNat 128 flip)
    else if bank < 14 then
      let l := (bank - 4) * 32768 + n
      { b with sort := { b.sort with slices := b.sort.slices.map (fun s =>
          { s with chains := s.chains.map (fun e =>
              match e.2.lines.idxOf? l with
              | some k => (e.1, { e.2 with recs := e.2.recs.mapIdx (fun j w =>
                  if j / 4 = k then w ^^^ flipWord flip (j % 4) else w) })
              | none => e) }) } }
    else { b with sort := { b.sort with late := b.sort.late.map (fun r => if lateLine r.pos = a then r.flip flip else r) } }

/-- Store poison on a line. -/
def Bolov.storePoison (a : Nat) (b : Bolov) : Bolov := b.modMere (fun m => { m with poison := fset false m.poison a true })

/-! ### Buckets (R254) -/

/-- `MERE_BKT_CFG`. -/
def Bolov.bktCap (b : Bolov) : Nat := max 1 (b.regFld Reg.MERE_BKT_CFG 7 0)
def Bolov.bktLeak (b : Bolov) : Nat := max 1 (b.regFld Reg.MERE_BKT_CFG 31 16)

/-- A corrected outcome on a unit. -/
def Bolov.bucketAdd (u : Nat) (b : Bolov) : Bolov :=
  let l := fget 0 b.mere.levels u
  if l < b.bktCap then b.modMere (fun m => { m with levels := fset 0 m.levels u (l + 1) })
  else if b.mere.held.getLsbD u then b
  else (b.modMere (fun m => { m with held := setBit m.held u true })).raise pgMere 1

/-- The unit that `MERE_SEL` selects: 24 to 31 act as 0 (R259). -/
def Bolov.mereUnit (b : Bolov) : Nat := let u := b.regFld Reg.MERE_SEL 4 0; if u < 24 then u else 0

/-- A leak of every bucket, at each whole leak period since reset. -/
def Bolov.bucketLeak (b : Bolov) : Bolov :=
  if b.up % (b.bktLeak * ticksMs) = 0 then
    b.modMere (fun m =>
      let lv := m.levels.filterMap (fun e => if e.2 ≤ 1 then none else some (e.1, e.2 - 1))
      { m with levels := lv, held := BitVec.ofNat 24 (pack ((List.range 24).map (fun i =>
          (1, b2n (m.held.getLsbD (23 - i) && fget 0 lv (23 - i) != 0))))) })
  else b

/-- `MERE_CTRL.bkt_clear`. -/
def Bolov.bktClear (b : Bolov) : Bolov := b.modMere (fun m => { m with levels := [], held := 0 })

/-! ### Repeat tracker and spares (R256, R257) -/

/-- The tracker entry of a line: its index and itself. -/
def Bolov.trkFind (b : Bolov) (a : Nat) : Option (Nat × TrkEntry) :=
  (b.mere.tracker.filterMap (fun x => x.2.map (fun e => (x.1, e)))).find? (fun x => x.2.addr == a)

/-- A tracker entry that reads poisoned is freed (R250). -/
def Bolov.trkSync (b : Bolov) : Bolov :=
  b.modMere (fun m => { m with tracker := m.tracker.filter (fun x => !b.poisoned (trackerLine x.1)) })

/-- Put an entry at an index. -/
def Bolov.trkPut (i : Nat) (e : Option TrkEntry) (b : Bolov) : Bolov :=
  b.modMere (fun m => { m with tracker := fset none m.tracker i e })

/-- The index a new entry takes: a free one, else the oldest with wb = 1 that is placed. -/
def Bolov.trkAlloc (b : Bolov) : Option Nat :=
  match (List.range 64).find? (fun i => (fget none b.mere.tracker i).isNone) with
  | some i => some i
  | none =>
    let old := (List.range 64).filterMap (fun i => match fget none b.mere.tracker i with
      | some e => if e.wb && !e.unplaced then some (i, e.order) else none
      | none => none)
    match old with
    | [] => none
    | x :: l => some (l.foldl (fun best y => if y.2 < best.2 then y else best) x).1

/-- Take what the next read of a line finds, where it is not clean. -/
def Bolov.takeFlaw (a : Nat) (b : Bolov) : Option LineRead × Bolov :=
  match b.mere.flaws.find? (fun r => b.lineAt r.line == a) with
  | some r => (some { r with line := a }, b.modMere (fun m => { m with flaws := m.flaws.erase r }))
  | none => (none, b)

/-- The copy of a line to its spare is read (R257): uncorrectable, it stores poison on the spare. -/
def Bolov.copyRead (a u : Nat) (b : Bolov) : Bolov :=
  match b.takeFlaw a with
  | (none, _) => b
  | (some r, b1) => match b1.readOutcome r with
    | .uncorrectable flip => (((b1.flipData a flip).modMere (fun m =>
        { m with poison := fset false m.poison a true })).countAt Reg.MERE_U_UNCORR u 1).raise pgMere 0
    | .corrected _ flip => ((b1.flipData a flip).countAt Reg.MERE_U_CORRECTED u 1).bucketAdd u
    | .transient flip => (b1.flipData a flip).countAt Reg.MERE_U_TRANSIENT u 1
    | .clean flip => b1.flipData a flip
    | .storedPoison flip => (b1.flipData a flip).countAt Reg.MERE_U_POISON_READ u 1

/-- retire (R257): the entry's address is the one at which the line is held, its own or that of a spare. -/
def Bolov.retire (i : Nat) (e : TrkEntry) (b : Bolov) : Bolov :=
  let stuck := fun (b : Bolov) => (b.trkPut i (some { e with hard := true, unplaced := true })).raise pgMere 4
  if isTarnLine e.addr then
    let g := (e.addr - 0x80000000) / 9
    if b.mere.badGroups.contains g then b
    else if b.mere.badGroups.length < 256 then
      (b.modMere (fun m => { m with badGroups := m.badGroups ++ [g] })).raise pgMere 3
    else stuck b
  else
    let bank := e.addr / 65536
    let used := fget 0 b.mere.spares bank
    let a := b.lineAt e.addr
    if used < 512 then
      ((b.copyRead a bank).modMere (fun m => { m with spares := fset 0 m.spares bank (used + 1),
                                                      remap := finsert m.remap a (mereLine bank (32768 + used)) })).raise pgMere 3
    else stuck b

/-- A corrected outcome for a line, with the data bits that a write-back leaves inverted (R256). -/
def Bolov.track (line flip : Nat) (rewrites : Bool) (b0 : Bolov) : Bolov :=
  let b := b0.trkSync
  let a := b.heldAt line
  match b.trkFind a with
  | none =>
    match b.trkAlloc with
    | some i => (b.trkPut i (some ⟨a, 1, rewrites, false, false, b.mere.trkOrder⟩)).modMere
        (fun m => { m with trkOrder := m.trkOrder + 1 })
    | none => b.count Reg.MERE_TRK_FULL 1
  | some (i, e) =>
    if e.hard then b
    else if e.wb then
      ((b.trkPut i (some { e with hard := true })).raise pgMere 2).retire i { e with hard := true }
    else
      let n := e.count + 1
      let b1 := b.trkPut i (some { e with count := cap 3 n, wb := rewrites || decide (n ≥ 3) })
      if rewrites || decide (n < 3) then b1 else b1.flipData line flip

/-- A clean read of a line frees its tracker entry after a rewrite (R256). -/
def Bolov.cleanRead (a : Nat) (b : Bolov) : Bolov :=
  match b.trkFind (b.heldAt a) with
  | some (i, e) => if e.wb && !e.hard then b.trkPut i none else b
  | none => b

/-- An untagged full-line write (R249, R252, R256). -/
def Bolov.fullWrite (a : Nat) (b : Bolov) : Bolov :=
  let b1 := b.modMere (fun m => { m with poison := fset false m.poison a false })
  match b1.trkFind (b1.heldAt a) with
  | some (i, e) => b1.trkPut i (some { e with wb := true })
  | none => b1

/-! ### Reads (R247, R253) -/

/-- A line is read: by a reader that rewrites it when it corrects it (the scrubber, a narrow write), by a narrow write. The answer
is the data bits that this read alone delivers inverted. -/
def Bolov.readLine (rewrites narrow : Bool) (a : Nat) (b : Bolov) : Bolov × Nat :=
  let u := unitOf a
  let merged := fun (b : Bolov) => if narrow then (b.countAt Reg.MERE_U_POISON_WRITE u 1).raise pgMere 6 else b
  let stay := fun (flip : Nat) (b : Bolov) => if narrow then (b.flipData a flip, 0) else (b, flip)
  match b.takeFlaw a with
  | (none, _) =>
    if b.poisoned a then (if narrow then merged b else b.countAt Reg.MERE_U_POISON_READ u 1, 0) else (b.cleanRead a, 0)
  | (some r, b) => match b.readOutcome r with
    | .clean flip => stay flip (b.cleanRead a)
    | .transient flip => stay flip (b.countAt Reg.MERE_U_TRANSIENT u 1)
    | .corrected p flip =>
      let u' := if isTarnLine a && checkOnly p then unitOf (tarnLine (checkLine (a - 0x80000000))) else u
      let b1 := ((b.countAt Reg.MERE_U_CORRECTED u 1).bucketAdd u').track a flip rewrites
      if rewrites then (b1.flipData a flip, 0) else (b1, flip)
    | .storedPoison flip =>
      if narrow then ((merged b).flipData a flip, 0) else (b.countAt Reg.MERE_U_POISON_READ u 1, flip)
    | .uncorrectable flip =>
      let b1 := ((((b.flipData a flip).storePoison a).countAt Reg.MERE_U_UNCORR u 1).modMere (fun m =>
        { m with last := fset 0 m.last u (b.heldAt a), lastValid := setBit m.lastValid u true })).raise pgMere 0
      (merged b1, 0)

/-- A reader that leaves the stored line unchanged (R247), for what the read does to the line alone. -/
def Bolov.readOnce (a : Nat) (b : Bolov) : Bolov := (b.readLine false false a).1

/-- A narrow write (R252, R253). -/
def Bolov.narrowWrite (a : Nat) (b : Bolov) : Bolov := (b.readLine true true a).1

/-- The errors that the lines hold, from now on (log entry 180). -/
def Bolov.withFlaws (l : List LineRead) (b : Bolov) : Bolov := b.modMere (fun m => { m with flaws := m.flaws ++ l })

/-- A read of a table kept in two copies (R250), the copy in bank 14 first (log entry 181): a poisoned copy is rewritten from the
other; with both poisoned the table is lost at that line. The answer says whether it is lost. -/
def Bolov.tableRead (a0 a1 : Nat) (b : Bolov) : Bolov × Bool :=
  let b0 := b.readOnce a0
  if b0.poisoned a0 then
    let b1 := b0.readOnce a1
    if b1.poisoned a1 then (b1.raise pgMere 5, true) else (b1.fullWrite a0, false)
  else (b0, false)

/-! ### Scrubbing (R255) -/

/-- Pool lines that some chain or frame holds. -/
def Bolov.linesHeld (b : Bolov) : List Nat := b.sort.slices.flatMap (fun s => s.chains.flatMap (fun e => e.2.lines)) ++
  b.lanes.toList.flatMap (fun l => match l.frame with | some f => f.lines.map Prod.snd | none => [])

/-- Return the pool lines that belong to no bin in flight (R255). -/
def Bolov.reclaim (b : Bolov) : Bolov :=
  let held := b.linesHeld
  let free := (List.range b.sort.freshLine).filter (fun l => !held.contains l)
  { b with sort := { b.sort with freeLines := free } }

/-- A Mere line is in use (R255): every line but the pool lines that no bin has taken. -/
def Bolov.mereInUse (b : Bolov) (a : Nat) : Bool :=
  !isTarnLine a && decide (a % 65536 < 32768) &&
    (decide (a / 65536 < 4 ∨ 14 ≤ a / 65536) ||
      (let l := (a / 65536 - 4) * 32768 + a % 65536
       decide (l < b.sort.freshLine) && !b.sort.freeLines.contains l))

/-- A Tarn line is filled and lies in a pinned range (R235, R255), or is the check line of such a line's group. -/
def Bolov.tarnPinned (b : Bolov) (a : Nat) : Bool :=
  let n := b.tarn.hist
  isTarnLine a && b.tarn.marks.any (fun x =>
    let m := x.2
    let len := min (m.pinLen * 4096) (b.tarn.w - m.pos)
    m.pinned && m.state == .live && !b.poisoned (markLine x.1) &&
      (List.range (if (a - 0x80000000) % 9 = 8 then 8 else 1)).any (fun k =>
        decide ((histOf a + n - (if (a - 0x80000000) % 9 = 8 then 8 - k else 0) - m.pos % n) % n < len)))

/-- A pass reads its lines: those with an error, and of the others those that store poison or stand in the tracker. -/
def Bolov.scrub (mine : Nat → Bool) (b : Bolov) : Bolov :=
  let flawed := ((b.mere.flaws.map (fun r => b.lineAt r.line)).filter mine).eraseDups
  let rest := ((fkeys b.mere.poison ++ (b.mere.tracker.filterMap (fun x => x.2.map (fun e => b.lineAt e.addr)))).filter
    (fun a => mine a && !flawed.contains a)).eraseDups
  forAll (flawed ++ rest) (fun a b => (b.readLine true false a).1) b

/-- A Mere pass ends (R255). -/
def Bolov.mereScrub (b : Bolov) : Bolov :=
  if b.regBit Reg.MERE_CTRL 0 then
    let b1 := (b.scrub b.mereInUse).reclaim
    let late := decide (b.up > b.mere.mereFrom + 2 * max 100 (b.regFld Reg.MERE_SCRUB 15 0) * ticksMs)
    whenDo late (fun b => b.raise pgMere 7) (b1.modMere (fun m => { m with mereFrom := b.up }))
  else b

/-- A pass over the filled lines of pinned Tarn ranges ends (R255). -/
def Bolov.tarnScrub (b : Bolov) : Bolov :=
  if b.regBit Reg.MERE_CTRL 1 then
    let b1 := b.scrub b.tarnPinned
    let late := decide (b.up > b.mere.tarnFrom + 2 * max 1 (b.regFld Reg.MERE_SCRUB 31 16) * ticksS)
    whenDo late (fun b => b.raise pgMere 7) (b1.modMere (fun m => { m with tarnFrom := b.up }))
  else b

/-- A scrubber that is enabled begins a pass (R255). -/
def Bolov.scrubEnable (old new : Word) (b : Bolov) : Bolov :=
  b.modMere (fun m => { m with
    mereFrom := if bit new.toNat 0 && !bit old.toNat 0 then b.up else m.mereFrom
    tarnFrom := if bit new.toNat 1 && !bit old.toNat 1 then b.up else m.tarnFrom })

/-- `MERE_CTRL.count_clear`. -/
def Bolov.mereClear (b : Bolov) : Bolov :=
  forAll [Reg.MERE_U_CORRECTED, Reg.MERE_U_TRANSIENT, Reg.MERE_U_UNCORR, Reg.MERE_U_POISON_READ, Reg.MERE_U_POISON_WRITE]
    (fun a => Bolov.clearCtrs a 24) ((b.clearCtr Reg.MERE_QPAR 0).clearCtr Reg.MERE_TRK_FULL 0)

/-! ### Meanings -/

/-- MERE_SCRUB_PASS (R255). -/
def execMereScrubPass (t : Tick) (reads : List LineRead) (s : State) : Out := atB t s (fun b => (b.withFlaws reads).mereScrub)

/-- TARN_SCRUB_PASS (R255). -/
def execTarnScrubPass (t : Tick) (reads : List LineRead) (s : State) : Out := atB t s (fun b => (b.withFlaws reads).tarnScrub)

/-- BUCKET_LEAK (R254). -/
def execBucketLeak (t : Tick) (s : State) : Out := atB t s Bolov.bucketLeak

/-- MERE_BKT_CLEAR (R259). -/
def execMereBktClear (s : State) : Out := onB s Bolov.bktClear

/-- MERE_COUNT_CLEAR (R260). -/
def execMereCountClear (s : State) : Out := onB s Bolov.mereClear

end Sys2Proof.Machine
end

