-- ==== Sys2Proof/Machine/Context.lean ====
section
/-!
DEFINITION. Contexts, calibrated time, delivered-hit counters and calibration sets at the Bolov (08 R162 to R166;
04 R78, R79).
-/

namespace Sys2Proof.Machine

/-! ### Fields (R162) -/

def ctxTa (c : BitVec 128) : Nat := fld c 127 112
def ctxDt (c : BitVec 128) : Nat := fld c 111 96
def ctxOffset (c : BitVec 128) : Int := signed 16 (fld c 95 80)
def ctxWalkA (c : BitVec 128) : Nat := fld c 79 68
def ctxWalkB (c : BitVec 128) : Nat := fld c 67 56
def ctxClass (c : BitVec 128) : Nat := fld c 55 52
def ctxInhibit (c : BitVec 128) : Bool := bit c.toNat 48
def ctxEpoch (c : BitVec 128) : Nat := fld c 47 44
def ctxStatus (c : BitVec 128) : Nat := fld c 43 40
def ctxDelivered (c : BitVec 128) : Nat := fld c 39 0

/-- ta and dt of a cell result (R78). -/
def calTa (ca : Nat) : Nat := roundDiv 3355443200 ca
def calDt (ca cb : Nat) : Int := roundDivI (53687091200 * ((cb : Int) - ca)) (ca * cb)

/-- A context after a calibration result (R78, R163): in window it takes ta and dt, else it keeps them. -/
def ctxCalibrated (r : Nat × Nat × Nat) (c : BitVec 128) : BitVec 128 :=
  if r.2.2 = 0 then setFld (setFld (setFld c 127 112 r.1) 111 96 r.2.1) 43 40 1 else setFld c 43 40 (r.2.2 + 1)

/-- A context of a lost calibration (R79). -/
def ctxLost (c : BitVec 128) : BitVec 128 := setFld c 43 40 4

/-- What a staged set makes of a context (R78, R79, R250). -/
def CalSet.apply (set : CalSet) (cell : Nat) (c : BitVec 128) : BitVec 128 :=
  if set.lost then ctxLost c
  else match set.results[cell]? with
    | some r => ctxCalibrated r c
    | none => c

/-- The tick from which hits use a staged set: R, or S where the set stands for lost results (R78, R79). -/
def CalSet.from' (set : CalSet) : Tick := if set.lost then set.s else resumeTick set.s

/-- The line that holds a cell's entry of a staged set (R155). -/
def CalSet.line (set : CalSet) (cell : Nat) : Nat := stagingLine (set.slot % 512) cell

/-- What a staged set makes of a context of the tile, from its memory (R250): a poisoned entry gives status 0x4. Before the merge
the entry acts as it will at the merge: DESIGN CHOICE, log entry 182. -/
def Bolov.applySet (b : Bolov) (set : CalSet) (cell : Nat) (c : BitVec 128) : BitVec 128 :=
  if !set.lost && b.poisoned (set.line cell) then ctxLost c else set.apply cell c

/-- The version of a context that a record of a tick uses (R78, R341), from the context `c` as it is held or read. -/
def Bolov.ctxFor (b : Bolov) (port cell : Nat) (tick : Tick) (c : BitVec 128) : BitVec 128 :=
  b.sort.calSets.foldl (fun c set =>
    if set.port = port ∧ set.tile = cell / 64 ∧ (set.lost ∨ set.results.length = 64) ∧ notBefore tick set.from' then
      b.applySet set (cell % 64) c
    else c) c

/-- The version of a context that a record of a tick uses. -/
def Bolov.ctxAt (b : Bolov) (port cell : Nat) (tick : Tick) : BitVec 128 :=
  b.ctxFor port cell tick (b.ctx (ctxIndex port cell))

/-- The data bits of a context in its line that a read inverts (R162): the context of even index comes first. -/
def ctxFlip (i flip : Nat) : BitVec 128 := BitVec.ofNat 128 (if i % 2 = 0 then flip / 2 ^ 128 else flip)

/-! ### Calibrated time (R164, R165) -/

/-- Fields of a hit record (R22). -/
def recType (w : W64) : Nat := fld w 63 62
def recCell (w : W64) : Nat := fld w 61 51
def recOffset (w : W64) : Nat := fld w 50 39
def recNa (w : W64) : Nat := fld w 38 34
def recNv (w : W64) : Nat := fld w 33 28
def recTot (w : W64) : Nat := fld w 27 19
def recExpress (w : W64) : Bool := bit w.toNat 16
def recCheck (w : W64) : Nat := fld w 15 0

/-- ctime in 2^-10 ns (R164), before the range test: `o` is the offset from the slice start. -/
def ctime (c : BitVec 128) (o na nv tot : Nat) : Int :=
  let d := tot + ctxWalkB c
  let main : Int := (o : Int) * 3276800 - ((na : Int) - 1) * ctxTa c * 16 - (nv * ctxDt c : Nat) - ctxOffset c * 256
  if d = 0 then roundDivI main 1024 else roundDivI (main * d - ctxWalkA c * 4096) (d * 1024)

/-- The context status gives ctime (R163). -/
def statusGives (s : Nat) : Bool := s == 1 || s == 5

/-- A calibration entry (R165): status, version bit, ctime. -/
def calEntry (c : BitVec 128) (poisoned : Bool) (w : W64) (o : Nat) : Nat :=
  let v := ctxEpoch c % 2
  let none' := fun (st : Nat) => pack [(2, st), (1, v), (29, 0)]
  if recType w = 2 ∨ recNa w = 0 ∨ recNv w = 0 then none' 1
  else if poisoned then none' 3
  else if ctxStatus c = 4 then none' 2
  else
    let t := ctime c o (recNa w) (recNv w) (recTot w)
    if !ctxInhibit c ∧ statusGives (ctxStatus c) ∧ -2 ^ 28 ≤ t ∧ t < 2 ^ 28 then
      pack [(2, 0), (1, v), (29, satSigned 29 t)]
    else none' 1

/-- The emitter reads the context of a record of a port, of a tick (R164, R247): the version the record uses, and whether it is
poisoned (R250). -/
def Bolov.readCtx (port : Nat) (w : W64) (tick : Tick) (b : Bolov) : Bolov × BitVec 128 × Bool :=
  let i := ctxIndex port (recCell w)
  let (b1, flip) := b.readLine false false (ctxLine i)
  (b1, b1.ctxFor port (recCell w) tick (b1.ctx i ^^^ ctxFlip i flip), b1.poisoned (ctxLine i))

/-! ### Delivered-hit counters (R166) -/

/-- The next context the counter walk will reach: 32 M entries per second are one in ten ticks. -/
def Bolov.walkPos (b : Bolov) : Nat :=
  match b.sort.walk with
  | some u => min 262144 ((b.up - u) / 10)
  | none => 0

/-- The context lines that a narrow write does more to than to write: those with an error, with poison or in the tracker. -/
def Bolov.ctxLinesMarked (b : Bolov) : List Nat :=
  ((b.mere.flaws.map (fun r => b.lineAt r.line) ++ fkeys b.mere.poison ++
    b.mere.tracker.filterMap (fun x => x.2.map (fun e => b.lineAt e.addr))).filter (fun a => decide (a < 4 * 65536))).eraseDups

/-- The walk has zeroed the counters it has passed, each by a narrow write (R252). -/
def Bolov.syncWalk (b0 : Bolov) : Bolov :=
  match b0.sort.walk with
  | some _ =>
    let z := b0.walkPos
    let passed := (b0.ctxLinesMarked.flatMap (fun a =>
      let i := a / 65536 * 65536 + a % 65536 * 2
      [i, i + 1])).filter (fun i => decide (b0.sort.walkAt ≤ i ∧ i < z))
    let b := forAll passed (fun i b => b.narrowWrite (ctxLine i)) b0
    { b with sort := { b.sort with
        walkAt := z
        contexts := (b.sort.contexts.map (fun e =>
          if b.sort.walkAt ≤ e.1 ∧ e.1 < z then (e.1, setFld e.2 39 0 0) else e)).filter (fun e => e.2 != 0) } }
  | none => b0

/-- A type-01 record of a cell is emitted (R166): the counter is written in a narrow write (R252), which may itself find the
context poisoned. -/
def Bolov.deliver (port : Nat) (w : W64) (b : Bolov) : Bolov :=
  let i := ctxIndex port (recCell w)
  if recType w ≠ 1 ∨ b.poisoned (ctxLine i) then b
  else
    let b1 := b.narrowWrite (ctxLine i)
    if b1.poisoned (ctxLine i) then b1
    else b1.modCtx i (fun c => setFld c 39 0 (cap (2 ^ 40 - 1) (ctxDelivered c + 1)))

/-- `SORT_CTRL.ctx_count_clear` (R166): what a walk under way has passed is zeroed, and the walk starts again. -/
def Bolov.walkStart (b : Bolov) : Bolov :=
  let b1 := b.syncWalk
  { b1 with sort := { b1.sort with walk := some b1.up, walkAt := 0 } }

/-- The walk passes the last context. -/
def Bolov.walkEnd (b : Bolov) : Bolov :=
  if b.sort.walk.isSome ∧ b.walkPos = 262144 then
    let b1 := b.syncWalk
    { b1 with sort := { b1.sort with walk := none, walkAt := 0 } }
  else b

/-! ### Calibration words at the Bolov (R73, R78, R79) -/

/-- The last horizon of a port, or its tick where none has come. -/
def Bolov.lastH (b : Bolov) (p : Nat) : Tick := match (b.port p).lastH with | some h => h | none => b.tick

/-- What a port knows of a tile. -/
def Bolov.portTile (b : Bolov) (p t : Nat) : PortTile := fget {} (b.port p).tiles t

/-- Change what a port knows of a tile. -/
def Bolov.modPortTile (p t : Nat) (f : PortTile → PortTile) (b : Bolov) : Bolov :=
  b.modPort p (fun x => { x with tiles := fmod {} x.tiles t f })

/-- Change the staged calibration sets. -/
def Bolov.modCalSets (f : List CalSet → List CalSet) (b : Bolov) : Bolov :=
  { b with sort := { b.sort with calSets := f b.sort.calSets } }

/-- A fast command waits at a port (R109). -/
def Bolov.send (p : Nat) (c : PortCmd) (b : Bolov) : Bolov := b.modPort p (fun x => { x with commands := x.commands ++ [c] })

/-- A fast command that only the owner of the lease may give (R24) is sent by the owner alone. -/
def Bolov.sendOwned (p : Nat) (c : PortCmd) (b : Bolov) : Bolov := if (b.port p).owner then b.send p c else b

/-- The calibration dead-time record of a run (R73); `late` when the Bolov learns of the run from its report alone: the
record then goes into the next frame. -/
def Bolov.calDeadTime (p t : Nat) (s : Tick) (late : Bool) (b : Bolov) : Bolov :=
  let r : DtRec := { cause := dtCalibration, scope := scTile, port := p, sub := t, start := s, stop := resumeTick s,
                     count := dtUnknown, feId := ((b.cfgAt s).feId p).toNat }
  if late then b.issueDtNext r else b.issueDt r

/-- Calibration words of a tile were lost (R79): the contexts take status calibration lost from S; event 5 of the port. -/
def Bolov.calLoss (p t : Nat) (s : Tick) (b : Bolov) : Bolov :=
  let b1 := b.modCalSets (fun l =>
    l.filter (fun x => !(x.port == p && x.tile == t && !x.lost && x.results.length != 64)) ++
      [{ port := p, tile := t, s := s, lost := true }])
  (((b1.modPortTile p t (fun x => { x with expecting := none })).raisePort p 5).sendOwned p
    { op := fCalStart, arg := 0, payload := payloadTiles (2 ^ t) })

/-- The results of a complete run that are still missing when the next word of the tile, or a horizon later than R, has
come (R79). -/
def Bolov.calCheck (p t : Nat) (b : Bolov) : Bolov :=
  match (b.portTile p t).expecting with
  | some (s, _) => b.calLoss p t s
  | none => b

/-- A horizon later than R finds results missing (R79). -/
def Bolov.calHorizon (p : Nat) (h : Tick) (b : Bolov) : Bolov :=
  forUpTo 32 (fun t b =>
    match (b.portTile p t).expecting with
    | some (s, _) => if later h (resumeTick s) then b.calLoss p t s else b
    | none => b) b

/-- The run sequence of a word of a tile (R79): a skipped value reveals lost runs. -/
def Bolov.calSeq (p t : Nat) (seq : BitVec 7) (s : Tick) (isStart : Bool) (b : Bolov) : Bolov :=
  let gap := match (b.portTile p t).lastSeq with
    | some q => if isStart then seq != q + 1 else seq != q && seq != q + 1
    | none => false
  let b1 := if gap then b.calLoss p t s else b
  b1.modPortTile p t (fun x => { x with lastSeq := some seq })

/-- A run-start word (R73, R79). -/
def Bolov.calRunStart (p t : Nat) (seq : BitVec 7) (low : Nat) (b : Bolov) : Bolov :=
  let s := rebuild (b.lastH p - BitVec.ofNat 48 (2 ^ 19)) 20 low
  let b1 := ((b.calCheck p t).calSeq p t seq s true).calDeadTime p t s false
  b1.modPortTile p t (fun x => { x with started := some s, expecting := none })

/-- The first free place in the staging memory of R78: DESIGN CHOICE, log entry 193. -/
def freeSlot (l : List CalSet) : Nat :=
  ((List.range (l.length + 1)).find? (fun i => !(l.any (fun x => !x.lost && x.slot == i)))).getD 0

/-- A run report (R73, R79). -/
def Bolov.calReport (p t outcome : Nat) (seq : BitVec 7) (low : Nat) (b : Bolov) : Bolov :=
  let s := rebuild (b.lastH p - BitVec.ofNat 48 (2 ^ 19)) 20 low
  let known := (b.portTile p t).started == some s
  let b1 := (b.calCheck p t).calSeq p t seq s false
  let b2 := if known then b1 else b1.calDeadTime p t s true
  let b3 := b2.modPortTile p t (fun x => { x with started := none })
  if outcome ≤ 3 then
    (b3.modPortTile p t (fun x => { x with expecting := some (s, 0) })).modCalSets
      (fun l => l ++ [{ port := p, tile := t, s := s, slot := freeSlot l }])
  else b3

/-- A cell result (R78, R79): staged in cell order; a result out of order, or none where no
report came before it, leaves the set short. -/
def Bolov.calResult (p t cell status ca : Nat) (diff : Int) (b : Bolov) : Bolov :=
  match (b.portTile p t).expecting with
  | none => b.raisePort p 5
  | some (s, next) =>
    if cell ≠ next then b.modPortTile p t (fun x => { x with expecting := some (s, 64) })
    else
      let cb := ((ca : Int) + diff).toNat
      let r := if status = 0 ∧ ca ≠ 0 ∧ cb ≠ 0 then (calTa ca, (calDt ca cb % 65536).toNat, 0) else (0, 0, status)
      let mine := fun (x : CalSet) => x.port == p && x.tile == t && x.s == s && !x.lost
      let b0 := match b.sort.calSets.find? mine with
        | some x => b.narrowWrite (x.line cell)
        | none => b
      let b1 := b0.modCalSets (fun l => l.map (fun x => if mine x then { x with results := x.results ++ [r] } else x))
      b1.modPortTile p t (fun x => { x with expecting := if next = 63 then none else some (s, next + 1) })

/-- A staged set may be merged (R78): no slice that contains a tick before S is still to be sent. A set of lost results is
merged under the same rule. -/
def Bolov.calMergeable (b : Bolov) (set : CalSet) : Bool :=
  (set.lost || set.results.length == 64) &&
    !(b.sort.running && (later set.s b.sort.nextStart || b.sort.slices.any (fun s => later set.s s.start))) &&
    !(b.lanes.toList.any (fun l => match l.frame with
      | some f => !f.again && later set.s (b.sliceStart f.slice)
      | none => false))

/-- CAL_STAGED_MERGE (R78, R250): the set of a tile of a port is read, line by line, and merged into its contexts, each in a
narrow write. -/
def Bolov.calMerge (p t : Nat) (reads : List LineRead) (b : Bolov) : Bolov :=
  match b.sort.calSets.find? (fun x => x.port == p && x.tile == t) with
  | none => b
  | some set =>
    if !b.calMergeable set then b
    else
      let b1 := b.withFlaws reads
      let b2 := if set.lost then b1 else forUpTo 8 (fun k b => b.readOnce (set.line (8 * k))) b1
      let b3 := forUpTo 64 (fun c b =>
        let i := ctxIndex p (64 * t + c)
        (b.narrowWrite (ctxLine i)).modCtx i (b.applySet set c)) b2
      b3.modCalSets (dropFirst (fun x => x.port == p && x.tile == t))

/-! ### Meanings -/

/-- A calibration-result word on a port (R76), from its payload; nothing where its kind is another row's, or
while the port has no block lock (R112). -/
def Bolov.calWordIn (kind p payload : Nat) (b : Bolov) : Bolov :=
  let t := bits payload 45 41
  let seq : BitVec 7 := BitVec.ofNat 7 (bits payload 32 26)
  let low := bits payload 19 0
  if bits payload 47 46 ≠ kind ∨ (b.port p).rx = .acquiring then b
  else match kind with
    | 0 => b.calRunStart p t seq low
    | 1 => b.calReport p t (bits payload 40 38) seq low
    | _ => b.calResult p t (bits payload 40 35) (bits payload 34 33) (bits payload 32 14) (signed 14 (bits payload 13 0))

/-- CAL_RUN_START_WORD_RECEIVED (R73). -/
def execCalRunStartWordReceived (port : Fin 128) (payload : BitVec 48) (t : Tick) (s : State) : Out :=
  atB t s (Bolov.calWordIn 0 port payload.toNat)

/-- CAL_RUN_REPORT_RECEIVED (R79). -/
def execCalRunReportReceived (port : Fin 128) (payload : BitVec 48) (t : Tick) (s : State) : Out :=
  atB t s (Bolov.calWordIn 1 port payload.toNat)

/-- CAL_CELL_RESULT_RECEIVED (R78). -/
def execCalCellResultReceived (port : Fin 128) (payload : BitVec 48) (t : Tick) (s : State) : Out :=
  atB t s (Bolov.calWordIn 2 port payload.toNat)

/-- CAL_STAGED_MERGE (R78). -/
def execCalStagedMerge (port : Fin 128) (tile : Fin 32) (reads : List LineRead) (t : Tick) (s : State) : Out :=
  atB t s (Bolov.calMerge port tile reads)

/-- CTX_COUNT_CLEAR (R166). -/
def execCtxCountClear (s : State) : Out := onB s Bolov.walkStart

/-- CTX_COUNT_WALK_END (R166). -/
def execCtxCountWalkEnd (t : Tick) (s : State) : Out := atB t s Bolov.walkEnd

end Sys2Proof.Machine
end

