-- ==== Sys2Proof/Machine/Merge.lean ====
section
/-!
DEFINITION. The context merge of a commit, as far as time has brought it (18 R340, R341; 13 R252).
-/

namespace Sys2Proof.Machine

/-- Change the commit state. -/
def Bolov.modCmt (f : CommitState → CommitState) (b : Bolov) : Bolov := { b with cmt := f b.cmt }

/-- A slice-aligned switch or a context merge falls into a quote that is being produced (R360). -/
def Bolov.quoteChange (b : Bolov) : Bolov :=
  { b with sec := { b.sec with quote := b.sec.quote.map (fun q => { q with changes := q.changes + 1 }) } }

/-- A context after a host merge (R162, R340): the delivered counter stays; with keep_cal, so do ta, dt and status. -/
def mergedContext (keep : Bool) (epoch : Nat) (v c : BitVec 128) : BitVec 128 :=
  let st := if ctxStatus v = 5 then 5 else 0
  BitVec.ofNat 128 (pack
    [(16, if keep then ctxTa c else ctxTa v), (16, if keep then ctxDt c else ctxDt v), (16, fld v 95 80),
     (12, ctxWalkA v), (12, ctxWalkB v), (4, ctxClass v), (3, 0), (1, b2n (ctxInhibit v)), (4, epoch),
     (4, if keep then ctxStatus c else st), (40, ctxDelivered c)])

/-- The line of the staged entry of a context in this commit. -/
def Bolov.stagedLine (b : Bolov) (i : Nat) : Option Nat := (fget none b.cmt.copy.contexts i).map (fun e => stagedCtxLine e.1)

/-- Merge one staged entry (R340): a poisoned staged entry is not merged. Both contexts of a line staged, and neither poisoned,
make a full-line write (R252), for which the two staged entries are read together; else the write is narrow. -/
def Bolov.mergeOne (e : Nat × Nat × BitVec 128) (b0 : Bolov) : Bolov :=
  let (i, slot, v) := e
  let mate := b0.stagedLine (if i % 2 = 0 then i + 1 else i - 1)
  let b := match mate with
    | some a => if i % 2 = 0 then (b0.readOnce (stagedCtxLine slot)).readOnce a else b0
    | none => b0.readOnce (stagedCtxLine slot)
  if b.poisoned (stagedCtxLine slot) then b.modCmt (fun c => { c with poisoned := c.poisoned + 1 })
  else
    let b1 := if mate.any (fun a => !b.poisoned a) then b.fullWrite (ctxLine i) else b.narrowWrite (ctxLine i)
    (b1.modCtx i (mergedContext b.cmt.keepCal b.cmt.pending.toNat v)).modCmt (fun c => { c with merged := c.merged + 1 })

/-- Merge the next `n` entries in rising index. -/
def Bolov.mergeNext (n : Nat) (b : Bolov) : Bolov :=
  let todo := b.cmt.toMerge.take n
  (forAll todo Bolov.mergeOne b).modCmt (fun c => { c with toMerge := c.toMerge.drop n })

/-- The entries that the merge has reached by now are merged: at least one in 10 ticks. -/
def Bolov.syncMerge (b : Bolov) : Bolov :=
  if b.cmt.toMerge.isEmpty then b
  else
    let gone := b.up - b.cmt.mergeAt
    let want := gone / 10 + Config.mergeExtra b.cmt.mergeAt gone
    b.mergeNext (want - (b.cmt.total - b.cmt.toMerge.length))

end Sys2Proof.Machine
end

