-- ==== Sys2Proof/Machine/Tarn.lean ====
section
/-!
DEFINITION. Tarn: training, the ring and its writer, marks and pins (12 R225 to R235, R244).
-/

namespace Sys2Proof.Machine

/-- The Tarn page. -/
def pgTarn : Nat := 0x00A

/-- Change Tarn. -/
def Bolov.modTarn (f : TarnState → TarnState) (b : Bolov) : Bolov := { b with tarn := f b.tarn }

/-- Tarn writes history (R226): trained, and not in EK-4 compatibility mode. -/
def Bolov.tarnOn (b : Bolov) : Bool := b.tarn.ready && !b.ek4

/-! ### Entries -/

/-- Lines of an entry: its header and its data words, padded to whole lines (R228). -/
def TEntry.lines (e : TEntry) : Nat := (1 + e.words.length + 3) / 4

/-- The entry is a frame (R228). -/
def TEntry.isFrame (e : TEntry) : Bool := e.kind == 1 || e.kind == 2

/-- The entry header (R228). -/
def TEntry.header (e : TEntry) : W64 := word64 [(4, e.kind), (4, e.lane), (24, e.words.length), (32, e.seq)]

/-- Line `k` of an entry (R228): its words from the header on, padded with zero words. -/
def TEntry.line (e : TEntry) (k : Nat) : BitVec 256 :=
  let w := fun (i : Nat) => (e.header :: e.words).getD (4 * k + i) 0
  w 0 ++ w 1 ++ w 2 ++ w 3

/-- Every line of the entry is written. -/
def TEntry.written (e : TEntry) : Bool := decide (e.lines ≤ e.filled)

/-- The words of line `k` of an entry can have been sent by moment `z` (R229, R231). -/
def Bolov.lineSent (b : Bolov) (e : TEntry) (k z : Nat) : Bool :=
  match e.sent with
  | some m => decide (m ≤ z)
  | none => decide (min e.words.length (4 * k + 3) ≤ b.wordsRoom (b.lanes[Fin.ofNat 16 e.lane]) z)

/-- The oldest frame of the ring, the newest, and the newest that is written. -/
def Bolov.oldestFrame (b : Bolov) : Option TEntry := b.tarn.entries.find? TEntry.isFrame
def Bolov.newestFrame (b : Bolov) : Option TEntry := b.tarn.entries.reverse.find? TEntry.isFrame
def Bolov.newestWritten (b : Bolov) : Option TEntry := b.tarn.entries.reverse.find? (fun e => e.isFrame && e.written)

/-- The frame of a slice, the newest where an earlier run has one of the same number. -/
def Bolov.frameOf (b : Bolov) (slice : Nat) : Option TEntry := b.tarn.entries.reverse.find? (fun e => e.isFrame && e.slice == slice)

/-! ### Marks and pins (R232 to R235) -/

/-- A mark: an entry of the mark table that stores poison reads as free (R250). -/
def Bolov.mark (b : Bolov) (i : Nat) : TMark := if b.poisoned (markLine i) then {} else fget {} b.tarn.marks i

/-- Change a mark. -/
def Bolov.modMark (i : Nat) (f : TMark → TMark) (b : Bolov) : Bolov :=
  b.modTarn (fun t => { t with marks := fmod {} t.marks i f })

/-- Write a mark to the table (R252). -/
def Bolov.writeMark (i : Nat) (f : TMark → TMark) (b : Bolov) : Bolov := (b.narrowWrite (markLine i)).modMark i f

/-- The mark table is read (R250): marks on a line that reads poisoned are free from then on. -/
def Bolov.readMarks (b : Bolov) : Bolov :=
  forUpTo 64 (fun i b =>
    let b := if i % 2 = 0 then b.readOnce (markLine i) else b
    if b.poisoned (markLine i) && (fget {} b.tarn.marks i).state != .free then (b.modMark i (fun _ => {})).raise pgMere 8 else b) b

/-- The lines of a mark's pinned range that have been filled since it was placed (R235): they start at its entry. -/
def Bolov.pinFilled (b : Bolov) (m : TMark) : Nat :=
  if m.pinned ∧ m.state = .live then min (m.pinLen * 4096) (b.tarn.w - m.pos) else 0

/-- The marks of the table that are not free (R232). -/
def Bolov.marksUsed (b : Bolov) : List TMark := (fkeys b.tarn.marks).map b.mark

/-- Merge half-open intervals sorted by start, and sum their lengths. -/
def unionLength : List (Nat × Nat) → Nat → Nat
  | [], _ => 0
  | (a, z) :: l, done =>
    let a' := max a done
    (z - a') + unionLength l (max done z)

/-- History lines pinned by some marks: a line in more than one range counts once (R235). -/
def pinnedLines (hist : Nat) (ms : List (Nat × Nat)) : Nat :=
  let parts := ms.flatMap (fun m =>
    let a := m.1 % hist
    let n := min m.2 hist
    if a + n ≤ hist then [(a, a + n)] else [(a, hist), (0, a + n - hist)])
  unionLength (parts.mergeSort (fun x y => x.1 ≤ y.1)) 0

/-- The history lines that the pins of some marks cover: a pending mark has no
address yet, and its lines are counted by themselves (R235). -/
def Bolov.pinTotal (b : Bolov) (ms : List TMark) : Nat :=
  pinnedLines b.tarn.hist ((ms.filter (fun m => m.pinned && m.state == .live)).map (fun m => (m.pos, m.pinLen * 4096))) +
    ((ms.filter (fun m => m.pinned && m.state == .pending)).map (fun m => min b.tarn.hist (m.pinLen * 4096))).foldl (· + ·) 0

/-- `TARN_PIN_MAX.pct` of the history lines. -/
def Bolov.pinLimit (b : Bolov) : Nat := b.tarn.hist * cap 90 (b.regFld Reg.TARN_PIN_MAX 6 0) / 100

/-- Pin a mark (R235): the result code of `TARN_MARK_RES`. -/
def Bolov.pin (i len : Nat) (b : Bolov) : Bolov × Nat :=
  let m := b.mark i
  if m.state = .free ∨ m.state = .overtaken then (b.raise pgTarn 1, 4)
  else
    let b1 := b.writeMark i (fun m => { m with pinned := true, pinLen := len })
    if b1.pinTotal b1.marksUsed > b.pinLimit then (b.raise pgTarn 1, 3) else (b1, 0)

/-! ### The writer (R229 to R231) -/

/-- The line at a position is not written: it lies in the filled part of a pinned range of an earlier lap, or in a listed
group (R230, R235, R257). The answer is how many lines to pass over. -/
def Bolov.blocked (b : Bolov) (pos : Nat) : Nat :=
  let n := b.tarn.hist
  let pin := b.marksUsed.foldl (fun acc m =>
    let f := b.pinFilled m
    let d := (pos + n - m.pos % n) % n
    if m.pos < pos ∧ d < f then max acc (f - d) else acc) 0
  if b.mere.badGroups.contains (pos % n / 8) then max pin (8 - pos % n % 8) else pin

/-- Lines that may be written from a position on, up to the end of the ring or the next range not to be written. -/
def Bolov.freeRun (b : Bolov) (pos : Nat) : Nat :=
  let n := b.tarn.hist
  let toEnd := n - pos % n
  let pins := b.marksUsed.foldl (fun acc m =>
    if b.pinFilled m > 0 then
      let d := (m.pos % n + n - pos % n) % n
      if 0 < d then min acc d else acc
    else acc) toEnd
  b.mere.badGroups.foldl (fun acc g => let d := (8 * g + n - pos % n) % n; if 0 < d then min acc d else acc) pins

/-- Where an entry of `lines` lines is placed, with the skip entries before it (R230), as position and lines. -/
def Bolov.place (b : Bolov) (lines : Nat) : Nat → Nat → List (Nat × Nat) → Option (Nat × List (Nat × Nat))
  | 0, _, _ => none
  | fuel + 1, pos, skips =>
    let k := b.blocked pos
    if k > 0 then Bolov.place b lines fuel (pos + k) skips
    else
      let run := b.freeRun pos
      if lines ≤ run then some (pos, skips) else Bolov.place b lines fuel (pos + run) (skips ++ [(pos, run)])

/-- A skip entry of a run of lines (R230). -/
def skipEntry (up : Nat) (r : Nat × Nat) : TEntry :=
  { pos := r.1, kind := 0xF, lane := 0, words := List.replicate (4 * r.2 - 1) 0, seq := 0, sent := some up }

/-- The waypoints that a frame entry sets (R231): those of the multiples of 2^20 among the history addresses behind the frame entry
before it, up to its own. -/
def TarnState.waypointsOf (t : TarnState) (pos : Nat) : List Nat :=
  (List.range (t.hist / 2 ^ 20 + 1)).filter (fun k =>
    let d := (pos % t.hist + t.hist - k * 2 ^ 20) % t.hist
    decide (k * 2 ^ 20 < t.hist ∧ d ≤ pos) && t.lastFrame.all (fun p => decide (p + d < pos)))

/-- When the words of an entry that is reserved now are sent: those of a frame on a lane as the lane sends them, those of a frame
built by a standby now, those of a unit within its three blocks. -/
def sentBy (kind up : Nat) : Option Nat := if kind = 1 then none else if kind = 2 then some up else some (up + 3)

/-- A frame whose entry is reserved: waypoints, and marks that wait for it (R231, R233). -/
def Bolov.noteFrame (pos slice tod : Nat) (b : Bolov) : Bolov :=
  let b1 := forAll (b.tarn.waypointsOf pos) (fun k b => (b.narrowWrite (waypointLine k)).modTarn (fun t =>
    { t with waypoints := fset none t.waypoints k (some (pos, slice, tod)) })) b
  forAll (fkeys b1.tarn.marks) (fun i b =>
    if (b.mark i).state = .pending ∧ (b.mark i).slice = slice then b.writeMark i (fun m => { m with state := .live, pos := pos })
    else b) (b1.modTarn (fun t => { t with lastFrame := some pos }))

/-- Reserve space for an entry (R229): nothing while Tarn is off; an entry that finds no place is lost. -/
def Bolov.reserve (kind lane : Nat) (words : List W64) (slice tod : Nat) (regions : BitVec 256) (notices : Bool)
    (b : Bolov) : Bolov :=
  if !b.tarnOn then b
  else
    let lines := (1 + words.length + 3) / 4
    match b.place lines (2 * (64 + b.mere.badGroups.length) + 4) b.tarn.w [] with
    | none => (b.count Reg.TARN_LOST 1).raise pgTarn 2
    | some (pos, skips) =>
      let e : TEntry := { pos := pos, kind := kind, lane := lane, words := words, seq := b.tarn.seq, slice := slice,
                          tod := tod, regions := regions, notices := notices, sent := sentBy kind b.up }
      let b1 := b.modTarn (fun t =>
        { t with
          w := pos + lines
          seq := (t.seq + 1) % 2 ^ 32
          entries := t.entries ++ skips.map (skipEntry b.up) ++ [e] })
      if kind = 1 ∨ kind = 2 then b1.noteFrame pos slice tod else b1

/-- The lines from position `p` on, `n` of them, of an entry at `pos` are written: entries of earlier laps that they belonged to are
gone, and an unpinned live mark whose entry starts there is overtaken (R234). -/
def Bolov.overwrite (pos p n : Nat) (b : Bolov) : Bolov :=
  let h := b.tarn.hist
  let meets := fun (x m : Nat) => decide ((x % h + h - p % h) % h < n ∨ (p % h + h - x % h) % h < m)
  let b1 := b.modTarn (fun t => { t with entries := t.entries.filter (fun x => decide (pos ≤ x.pos) || !meets x.pos x.lines) })
  forAll (fkeys b1.tarn.marks) (fun i b =>
    let m := b.mark i
    if m.state = .live ∧ !m.pinned ∧ m.pos < pos ∧ meets m.pos 0 then
      (b.writeMark i (fun m => { m with state := .overtaken })).raise pgTarn 0
    else b) b1

/-- A line reserved before a pin was set is not written where it lies in the filled part of the pinned range (R235). -/
def Bolov.lineKept (b : Bolov) (p : Nat) : Bool :=
  let n := b.tarn.hist
  b.marksUsed.any (fun m => decide (m.pos + n ≤ p ∧ (p - m.pos) % n < b.pinFilled m))

/-- The EDC of a write burst (R225): how many of its first transfer and its four retries came back wrong. -/
def Bolov.burst (bad : Nat) (b : Bolov) : Bolov :=
  let b1 := if bad = 0 then b else b.count Reg.TARN_EDC_RETRY (cap 4 bad)
  if bad ≤ 4 then b1 else b1.count Reg.TARN_EDC_FAIL 1

/-- The check line of a group with a line check put in (R227). -/
def withLineCheck (k : Nat) (c : BitVec 32) (line : BitVec 256) : BitVec 256 := setFld line (255 - 32 * k) (224 - 32 * k) c.toNat

/-- A line of a group is written (R230): its check joins the check line held on chip, which is written with the eighth line; lines
of the group that are not to be written are not waited for. -/
def Bolov.groupWrite (h pos checkBad : Nat) (line : BitVec 256) (b : Bolov) : Bolov :=
  let g := h / 8
  let (done, content) := (fget none b.tarn.groups g).getD (0, 0)
  let done' := setBit done (h % 8) true
  let content' := withLineCheck (h % 8) (lineCheck (tarnLine (physLine h)) line) content
  let whole := (List.range 8).all (fun k => done'.getLsbD k || b.lineKept (pos - h % 8 + k) || decide (b.tarn.hist ≤ 8 * g + k))
  if whole then
    ((b.modTarn (fun t => { t with groups := fset none t.groups g none })).fullWrite (tarnLine (checkLine (physLine h)))).burst checkBad
  else b.modTarn (fun t => { t with groups := fset none t.groups g (some (done', content')) })

/-- The writer writes the next line of an entry once its words are sent (R229, R230, R252): `bad` and `checkBad` tell how often the
burst of the line, and that of the check line where it is written, came back wrong. -/
def Bolov.lineWrite (pos bad checkBad : Nat) (b : Bolov) : Bolov :=
  match b.tarn.entries.find? (fun e => e.pos == pos) with
  | none => b
  | some e =>
    let p := pos + e.filled
    if e.written || !b.tarnOn || !b.lineSent e e.filled b.up || b.lineKept p then b
    else
      let h := p % b.tarn.hist
      let b1 := (b.overwrite pos p 1).modTarn (fun t => { t with entries := t.entries.map (fun x =>
        if x.pos = pos then { x with filled := x.filled + 1 } else x) })
      ((b1.fullWrite (tarnLine (physLine h))).burst bad).groupWrite h p checkBad (e.line e.filled)

/-- The entries after a lost one: as long as none of them is written, their sequence closes the gap (R228). -/
def TarnState.closeGap (pos : Nat) (t : TarnState) : TarnState :=
  let after := t.entries.filter (fun x => decide (pos < x.pos) && x.kind != 0xF)
  if after.all (fun x => x.filled == 0) then
    { t with
      seq := (t.seq + 2 ^ 32 - 1) % 2 ^ 32
      entries := t.entries.map (fun x =>
        if pos < x.pos ∧ x.kind ≠ 0xF then { x with seq := (x.seq + 2 ^ 32 - 1) % 2 ^ 32 } else x) }
  else t

/-- A line was not written within 65,536 ticks of the emission of its words (R231): the entry becomes a skip entry of the same
length. -/
def Bolov.writeTimeout (pos : Nat) (b : Bolov) : Bolov :=
  match b.tarn.entries.find? (fun e => e.pos == pos) with
  | some e =>
    if !e.written ∧ e.kind ≠ 0xF ∧ 65536 ≤ b.up ∧ b.lineSent e e.filled (b.up - 65536) then
      let free := !(List.range e.lines).any (fun k => b.lineKept (pos + k))
      let b1 := if free then forUpTo e.lines (fun k b => b.fullWrite (tarnLine (physLine ((pos + k) % b.tarn.hist))))
        (b.overwrite pos pos e.lines) else b
      ((b1.modTarn (fun t => TarnState.closeGap pos { t with entries := t.entries.map (fun x =>
        if x.pos = pos then { skipEntry b.up (pos, e.lines) with filled := e.lines } else x) })).count
          Reg.TARN_LOST 1).raise pgTarn 2
    else b
  | none => b

/-! ### Training (R226) -/

/-- The ring is cleared and every mark freed. -/
def TarnState.cleared (t : TarnState) : TarnState :=
  { t with w := 0, entries := [], marks := [], waypoints := [], lastFrame := none, groups := [] }

/-- `TARN_CTRL.train`, with density and rate as they stand (R244). -/
def Bolov.train (b : Bolov) : Bolov :=
  b.modTarn (fun t => { t.cleared with ready := false, training := true, trainFrom := b.up, dense := b.regBit Reg.TARN_CTRL 27,
                                       rate := BitVec.ofNat 2 (b.regFld Reg.TARN_CTRL 29 28) })

/-- History lines of a density (R227). -/
def histLines (dense : Bool) : Nat := if dense then 477218584 else 238609288

/-- Tarn goes off (R226). -/
def Bolov.tarnOff (fail : BitVec 8) (b : Bolov) : Bolov :=
  (b.modTarn (fun t => { t with ready := false, training := false, fail := fail })).raise pgTarn 3

/-- Training ends (R226): a channel whose domain is off has failed (R368). -/
def Bolov.trainDone (failed : BitVec 8) (b : Bolov) : Bolov :=
  let fail := failed ||| BitVec.ofNat 8 (pack ((List.range 8).map (fun i => (1, b2n (!b.domOn (71 - i))))))
  if b.tarn.training then
    if fail = 0 then b.modTarn (fun t =>
      { t with ready := true, training := false, fail := 0, hist := histLines t.dense })
    else b.tarnOff fail
  else b

/-- A channel repeats its training (R226). -/
def Bolov.retrain (channel : Nat) (ok : Bool) (b : Bolov) : Bolov :=
  if b.tarn.ready && !ok then b.tarnOff (setBit b.tarn.fail channel true) else b

/-! ### Mark commands (R233, R235, R244) -/

/-- The result of a mark command. -/
def Bolov.markResult (r : Bolov × Nat) : Bolov := r.1.modTarn (fun t => { t with markRes := r.2 })

/-- A mark command (R244): ignored while one is being carried out. How long one takes is a free value. -/
def Bolov.markCmd (f : Bolov → Bolov × Nat) (b0 : Bolov) : Bolov :=
  if b0.up < b0.tarn.markUntil then b0
  else
    let b := b0.readMarks.modTarn (fun t => { t with markUntil := b0.up + Config.markTime b0.up })
    Bolov.markResult (if b.tarnOn then f b else (b, 5))

/-- Place a mark on a frame that is written, or on one still to come. -/
def Bolov.placeMark (i slice : Nat) (m : TMark) (b : Bolov) : Option Bolov :=
  match b.frameOf slice with
  | some e => some (b.writeMark i (fun _ => { m with state := .live, pos := e.pos, slice := slice }))
  | none =>
    if (match b.newestFrame with | some e => decide (e.slice < slice) | none => true) then
      some (b.writeMark i (fun _ => { m with state := .pending, slice := slice }))
    else none

/-- Place by slice. -/
def Bolov.markPlaceSlice (i slice : Nat) (b : Bolov) : Bolov :=
  b.markCmd (fun b =>
    if (b.mark i).state ≠ .free then (b, 1)
    else match b.placeMark i slice {} with
      | some b1 => (b1, 0)
      | none => (b, 2))

/-- The reader takes the last waypoint at or before a time of day, or the one before it where that reads poisoned (R231, R250): a
search from an earlier waypoint finds the same frame. -/
def Bolov.waypointRead (tod : Nat) (b : Bolov) : Bolov :=
  let at' := (b.tarn.waypoints.filterMap (fun x => x.2.bind (fun w => if w.2.2 ≤ tod then some (w.1, x.1) else none))).mergeSort
    (fun x y => decide (y.1 ≤ x.1))
  (at'.foldl (fun (x : Bolov × Bool) w =>
    if x.2 then x else let b := x.1.readOnce (waypointLine w.2); (b, !b.poisoned (waypointLine w.2))) (b, false)).1

/-- The frames of the ring that start at a time of day or later: the first. -/
def Bolov.frameAt (b : Bolov) (tod : Nat) : Option TEntry := b.tarn.entries.find? (fun e => e.isFrame && decide (tod ≤ e.tod))

/-- Place by time of day: the first frame whose start is at or after it; refused behind the newest written frame. -/
def Bolov.markPlaceTod (i sec ns : Nat) (b : Bolov) : Bolov :=
  b.markCmd (fun b =>
    let tod := (sec * 1000000000 + ns) * 2 ^ 32
    if (b.mark i).state ≠ .free then (b, 1)
    else
      let b := b.waypointRead tod
      match (if b.newestWritten.all (fun e => decide (e.tod < tod)) then none else b.frameAt tod) with
      | some e => (b.writeMark i (fun _ => { state := .live, pos := e.pos, slice := e.slice }), 0)
      | none => (b, 2))

/-- Pin, unpin, free. -/
def Bolov.markPin (i len : Nat) (b : Bolov) : Bolov := b.markCmd (Bolov.pin i len)
def Bolov.markUnpin (i : Nat) (b : Bolov) : Bolov :=
  b.markCmd (fun b =>
    if (b.mark i).state = .free ∨ (b.mark i).state = .overtaken then (b, 4)
    else (b.writeMark i (fun m => { m with pinned := false, pinLen := 0 }), 0))
def Bolov.markFree (i : Nat) (b : Bolov) : Bolov :=
  b.markCmd (fun b => if (b.mark i).state = .free then (b, 4) else (b.writeMark i (fun _ => {}), 0))

/-- The slice of the run that contains a tick (R145). -/
def Bolov.sliceNumber (b : Bolov) (t : Tick) : Option Nat := if b.sort.running then b.sliceInRun t else none

/-- A trigger mark places a rewind mark (R233): the index, or none. -/
def Bolov.autoMark (source : Nat) (seq : BitVec 16) (t : Tick) (b : Bolov) : Bolov × Option Nat :=
  let b := b.readMarks
  let miss := (b.count Reg.TARN_AUTO_MISS 1, none)
  let idx := match (List.range 64).find? (fun i => (b.mark i).state == .free) with
    | some i => some i
    | none => (List.range 64).find? (fun i => (b.mark i).state == .overtaken)
  match (if b.tarnOn then idx else none), b.sliceNumber (t - BitVec.ofNat 48 (b.regFld Reg.TARN_MARK_CFG 31 20)) with
  | some i, some n =>
    match b.placeMark i n { auto := true, source := source, seq := seq } with
    | some b1 =>
      let len := b1.regFld Reg.TARN_MARK_CFG 19 0
      ((if len = 0 then b1 else (b1.pin i len).1), some i)
    | none => miss
  | _, _ => miss

/-- A write of `TARN_MARK_CMD` with go = 1 (R244). -/
def Bolov.markCommand (v : Word) (b : Bolov) : Bolov :=
  let b1 := b.setReg Reg.TARN_MARK_CMD (v &&& 0x7000003F#32)
  let i := fld v 5 0
  let arg := b.reg64 Reg.TARN_MARK_ARG
  if !bit v.toNat 31 then b1
  else match fld v 30 28 with
    | 0 => b1.markPlaceSlice i (arg % 2 ^ 48)
    | 1 => b1.markPlaceTod i arg (b.regFld Reg.TARN_MARK_ARG2 29 0)
    | 2 => b1.markPin i (arg % 2 ^ 20)
    | 3 => b1.markUnpin i
    | 4 => b1.markFree i
    | _ => b1

/-- `TARN_CTRL.count_clear`. -/
def Bolov.tarnClear (b : Bolov) : Bolov :=
  forAll [Reg.TARN_LOST, Reg.TARN_EDC_RETRY, Reg.TARN_EDC_FAIL, Reg.TARN_AUTO_MISS] (fun a => Bolov.clearCtr a 0) b

/-! ### Meanings -/

/-- TARN_LINE_WRITE (R229). -/
def execTarnLineWrite (pos : Nat) (bad checkBad : Fin 6) (t : Tick) (s : State) : Out :=
  atB t s (Bolov.lineWrite pos bad checkBad)

/-- TARN_WRITE_TIMEOUT (R231). -/
def execTarnWriteTimeout (pos : Nat) (t : Tick) (s : State) : Out := atB t s (Bolov.writeTimeout pos)

/-- TARN_MARK_PLACE_SLICE (R233). -/
def execTarnMarkPlaceSlice (index : Fin 64) (slice : BitVec 48) (s : State) : Out :=
  onB s (Bolov.markPlaceSlice index slice.toNat)

/-- TARN_MARK_PLACE_TOD (R233). -/
def execTarnMarkPlaceTod (index : Fin 64) (sec : BitVec 64) (ns : BitVec 30) (s : State) : Out :=
  onB s (Bolov.markPlaceTod index sec.toNat ns.toNat)

/-- TARN_MARK_PIN (R235). -/
def execTarnMarkPin (index : Fin 64) (len : BitVec 20) (s : State) : Out := onB s (Bolov.markPin index len.toNat)

/-- TARN_MARK_UNPIN (R235). -/
def execTarnMarkUnpin (index : Fin 64) (s : State) : Out := onB s (Bolov.markUnpin index)

/-- TARN_MARK_FREE (R235). -/
def execTarnMarkFree (index : Fin 64) (s : State) : Out := onB s (Bolov.markFree index)

/-- TARN_COUNT_CLEAR (R244). -/
def execTarnCountClear (s : State) : Out := onB s Bolov.tarnClear

end Sys2Proof.Machine
end

