-- ==== Sys2Proof/Machine/Replay.lean ====
section
/-!
DEFINITION. Replay: requests, range resolution, the reader and its guards, completion (12 R236 to R243; 09 R185).
-/

namespace Sys2Proof.Machine

/-- A lane is enabled. -/
def Bolov.laneEnabled (b : Bolov) (n : Fin 16) : Bool := (b.lanes[n]).enabledAt.isSome && b.domOn (32 + n)

/-! ### Completion (R242) -/

/-- A completion record. -/
def replayRecord (id : BitVec 16) (status : Nat) (abort : Bool) (lane frames first last units poisoned : Nat) : List W64 :=
  [word64 [(16, id.toNat), (3, status), (1, b2n abort), (4, lane), (8, 0), (32, frames)],
   word64 [(16, 0), (48, first)], word64 [(16, 0), (48, last)],
   word64 [(32, units), (16, cap 65535 poisoned), (16, 0)]]

/-- The codes of R242. -/
def rsDone : Nat := 0
def rsTruncated : Nat := 1
def rsOvertaken : Nat := 2
def rsAborted : Nat := 3
def rsNotFound : Nat := 4
def rsPoison : Nat := 5
def rsAlready : Nat := 6

/-- Post the record of a descriptor in the place reserved for it. -/
def Bolov.replayPost (id : BitVec 16) (rec' : List W64) (b : Bolov) : Bolov :=
  (b.qPost qReplayDone rec').modTarn (fun t => { t with answered := id :: t.answered })

/-- A request ends; of the codes that apply, the first in the order of R242. -/
def Bolov.replayEnd (r : Replay) (status : Nat) (b : Bolov) : Bolov :=
  let code :=
    if status = rsAborted ∨ status = rsOvertaken ∨ status = rsNotFound then status
    else if status = rsPoison ∨ r.poisonSeen then rsPoison
    else if r.truncated then rsTruncated
    else rsDone
  (b.replayPost r.id (replayRecord r.id code false r.lane r.frames r.first r.last r.units r.poisoned)).modTarn
    (fun t => { t with requests := t.requests.filter (fun x => x.slot != r.slot) })

/-- Put a changed request back. -/
def Bolov.replayPut (r : Replay) (b : Bolov) : Bolov :=
  b.modTarn (fun t => { t with requests := t.requests.map (fun x => if x.slot = r.slot then r else x) })

/-! ### Acceptance (R237) -/

/-- The start of a range: position, truncated, and the slice of a frame still to be written. -/
def Bolov.replayStart (b : Bolov) (w0 : W64) (sec ns : Nat) : Option (Nat × Bool × Option Nat) :=
  let oldest := fun (cut : Bool) => b.oldestFrame.map (fun e => (e.pos, cut, none))
  match fld w0 47 46 with
  | 0 =>
    let m := b.mark (fld w0 35 30)
    match m.state with
    | .free => none
    | .overtaken => oldest true
    | .live => some (m.pos, false, none)
    | .pending => some (b.tarn.w, false, some m.slice)
  | 1 =>
    let t := (sec * 1000000000 + ns) * 2 ^ 32
    match b.oldestFrame with
    | some e => if t < e.tod then oldest true else (b.frameAt t).map (fun e => (e.pos, false, none))
    | none => none
  | 2 => oldest false
  | _ => none

/-- The end of a range. -/
def Bolov.replayStop (b : Bolov) (w0 : W64) (sec ns : Nat) : Option ReplayEnd :=
  match fld w0 45 44 with
  | 0 => let m := b.mark (fld w0 29 24); if m.state = .free then none else some (.slice m.slice)
  | 1 => some (.before ((sec * 1000000000 + ns) * 2 ^ 32))
  | 2 => b.newestWritten.map (fun e => .slice e.slice)
  | _ => none

/-- The end resolves before the start (R237). -/
def Bolov.replayEmpty (b : Bolov) (pos : Nat) (from' : Option Nat) (stop : ReplayEnd) : Bool :=
  match from', b.tarn.entries.find? (fun e => e.isFrame && decide (pos ≤ e.pos)), stop with
  | some f, _, .slice n => decide (n < f)
  | none, some e, .slice n => decide (n < e.slice)
  | none, some e, .before t => decide (t ≤ e.tod)
  | _, _, _ => false

/-- The descriptor at the head of REPLAY_REQ. -/
def Bolov.replayHead (b : Bolov) : Option (List W64) := (b.queues[qReplayReq]).records.head?

/-- Take the head descriptor, its record reserved. -/
def Bolov.replayTake (b : Bolov) : Bolov :=
  (b.modQueue qReplayReq (fun q => { q with records := q.records.drop 1 })).qReserve qReplayDone

/-- A place of the request table that is free (R237). -/
def Bolov.requestSlot (b : Bolov) : Nat :=
  ((List.range 32).find? (fun k => !b.tarn.requests.any (fun r => r.slot == k))).getD 0

/-- The reads of a resolution: the mark table for marks, the waypoints for times of day. -/
def Bolov.replayLook (w0 : W64) (sec ns sec' ns' : Nat) (b : Bolov) : Bolov :=
  let b1 := if fld w0 47 46 = 0 ∨ fld w0 45 44 = 0 then b.readMarks else b
  let b2 := if fld w0 47 46 = 1 then b1.waypointRead ((sec * 1000000000 + ns) * 2 ^ 32) else b1
  if fld w0 45 44 = 1 then b2.waypointRead ((sec' * 1000000000 + ns') * 2 ^ 32) else b2

/-- A descriptor is accepted (R237): a full table or a full REPLAY_DONE holds it back. -/
def Bolov.replayAccept (b : Bolov) : Bolov :=
  match b.replayHead with
  | none => b
  | some d =>
    let w0 := d.getD 0 0
    let w2 := d.getD 2 0
    let sec := (d.getD 1 0).toNat
    let sec' := (d.getD 3 0).toNat
    if bit w0.toNat 36 || decide (b.tarn.requests.length ≥ 32) || !b.qRoom qReplayDone then b
    else
      let b1 := (b.replayLook w0 sec (fld w2 61 32) sec' (fld w2 29 0)).replayTake
      let id : BitVec 16 := BitVec.ofNat 16 (fld w0 63 48)
      let lane : Fin 16 := Fin.ofNat 16 (fld w0 43 40)
      let found := match b1.replayStart w0 sec (fld w2 61 32), b1.replayStop w0 sec' (fld w2 29 0) with
        | some (pos, cut, from'), some stop => if b1.replayEmpty pos from' stop then none else some (pos, cut, from', stop)
        | _, _ => none
      match (if b1.tarnOn && b1.laneEnabled lane then found else none) with
      | some (pos, cut, from', stop) =>
        (b1.narrowWrite (requestLine b1.requestSlot)).modTarn (fun t => { t with requests := t.requests ++
          [{ id := id, lane := lane, slot := b1.requestSlot, priority := fld w0 39 38, express := bit w0.toNat 37, mask := fld w0 23 20,
             next := pos, fromSlice := from', stop := stop, truncated := cut }] })
      | none => b1.replayPost id (replayRecord id rsNotFound false lane 0 0 0 0 0)

/-! ### Units on the lane (R185, R239, R240) -/

/-- The lane has sent its replay unit whole and has no live frame: the reader may turn to the next entry. -/
def Bolov.replayIdle (b : Bolov) (n : Fin 16) : Bool :=
  let l := b.lanes[n]
  l.frame.isNone && (match l.replay with
    | some (_, w) => decide (w.length ≤ b.wordsRoom l b.up)
    | none => true)

/-- A unit has been delivered whole (R242). -/
def Replay.delivered (r : Replay) : Replay :=
  match r.unit with
  | none => r
  | some (true, n, bad) =>
    { r with unit := none, frames := r.frames + 1, first := if r.frames = 0 then n else r.first, last := n,
             poisoned := r.poisoned + b2n bad, poisonSeen := r.poisonSeen || bad }
  | some (false, _, bad) => { r with unit := none, units := r.units + 1, poisonSeen := r.poisonSeen || bad }

/-- A replay SOF opens a replay frame on the lane (R172, R185). -/
def Bolov.replayFrame (r : Replay) (words : List W64) (slice : Nat) (b : Bolov) : Bolov :=
  (b.modLane r.lane (fun l => { l with replay := some (r.id, words), since := b.up, extra := 0 })).laneSend r.lane
    [(0xB5#8, BitVec.ofNat 56 (pack [(16, r.id.toNat), (32, words.length), (8, slice)]))]

/-- A replay resume block (R172). -/
def resumeBlock (id : BitVec 16) (left : Nat) : Byte × BitVec 56 := (0xB6#8, BitVec.ofNat 56 (pack [(16, id.toNat), (32, left), (8, 0)]))

/-- A replay frame under way is ended by a resume block with nothing to come (R240), behind the live frame that interrupts it. -/
def Bolov.replayCut (r : Replay) (b : Bolov) : Bolov :=
  let l := b.lanes[r.lane]
  let under := match l.replay with
    | some (_, w) => if l.frame.isSome then !w.isEmpty else !b.replayIdle r.lane
    | none => false
  if !under then b.modLane r.lane (fun l => { l with replay := none })
  else if l.frame.isSome then b.modLane r.lane (fun l => { l with replay := none, cut := some r.id })
  else (b.modLane r.lane (fun l => { l with replay := none })).laneSend r.lane [resumeBlock r.id 0]

/-- A request ends while its unit may be under way (R243): a unit that is whole counts, another is cut. -/
def Bolov.replayBreak (r : Replay) (b : Bolov) : Bolov :=
  (b.replayCut r).replayEnd (if b.replayIdle r.lane then r.delivered else r) rsAborted

/-- An abort descriptor (R243): a request ends ABORTED with its own record, an active one when the entry under way is complete;
else the abort is answered. -/
def Bolov.replayAbort (b : Bolov) : Bolov :=
  match b.replayHead with
  | none => b
  | some d =>
    let w0 := d.getD 0 0
    let id : BitVec 16 := BitVec.ofNat 16 (fld w0 63 48)
    let answer := fun (code : Nat) => if !b.qRoom qReplayDone then b
      else b.replayTake.qPost qReplayDone (replayRecord id code true 0 0 0 0 0 0)
    if !bit w0.toNat 36 then b
    else match b.tarn.requests.find? (fun r => r.id == id && !r.aborted) with
      | some r =>
        let b1 := b.modQueue qReplayReq (fun q => { q with records := q.records.drop 1 })
        if r.active && r.unit.isSome && !b.replayIdle r.lane then b1.replayPut { r with aborted := true }
        else b1.replayEnd (if r.active then r.delivered else r) rsAborted
      | none =>
        answer (if b.tarn.answered.contains id || b.tarn.requests.any (fun r => r.id == id) then rsAlready else rsNotFound)

/-! ### The reader (R238 to R241) -/

/-- A waiting request starts on its lane (R239): highest priority first, then acceptance; a lane that has been disabled starts none
(log entry 194). -/
def Bolov.replayBegin (lane : Fin 16) (b : Bolov) : Bolov :=
  let mine := b.tarn.requests.filter (fun r => r.lane == lane)
  if mine.any (fun r => r.active) || !b.laneEnabled lane then b
  else match mine with
    | [] => b
    | x :: l => b.replayPut { (l.foldl (fun best r => if best.priority < r.priority then r else best) x) with active := true }

/-- The entry lies in a pinned range. -/
def Bolov.entryPinned (b : Bolov) (e : TEntry) : Bool :=
  b.marksUsed.any (fun m => decide (m.pinned ∧ m.state = .live ∧ m.pos ≤ e.pos ∧ e.pos + e.lines ≤ m.pos + m.pinLen * 4096))

/-- The entry keeps the guard distance to the writer (R240). -/
def Bolov.guardOk (b : Bolov) (e : TEntry) : Bool :=
  let n := b.tarn.hist
  b.entryPinned e ||
    decide (((e.pos + e.lines - 1) % n + n - b.tarn.w % n) % n ≥ max 1 (b.regFld Reg.TARN_GUARD 15 0) * 4096)

/-- The first `n` lines of an entry are read (R247): the entry as read, and whether a line was poisoned. -/
def Bolov.readEntry (e : TEntry) (n : Nat) (b : Bolov) : Bolov × TEntry × Bool :=
  let r := (List.range n).foldl (fun (x : Bolov × (TEntry → TEntry) × Bool) k =>
    let a := tarnLine (physLine ((e.pos + k) % x.1.tarn.hist))
    let (b, flip) := x.1.readLine false false a
    (b, (fun y => (x.2.1 y).flip k flip), x.2.2 || b.poisoned a)) (b, id, false)
  (r.1, r.2.1 ((r.1.tarn.entries.find? (fun x => x.pos == e.pos)).getD e), r.2.2)

/-- A frame lies beyond the end of the range. -/
def ReplayEnd.past (stop : ReplayEnd) (e : TEntry) : Bool :=
  match stop with
  | .slice n => decide (n < e.slice)
  | .before t => decide (t ≤ e.tod)

/-- The end of the range is reached with this frame. -/
def ReplayEnd.reached (stop : ReplayEnd) (e : TEntry) : Bool :=
  match stop with
  | .slice n => decide (n ≤ e.slice)
  | .before _ => false

/-- Region mask of a request (R238, R250): lost in both copies it reads all ones. -/
def Bolov.replayMask (m : Nat) (b : Bolov) : Bolov × BitVec 256 :=
  let (b1, lost) := b.tableRead (maskLine 0 m) (maskLine 1 m)
  (b1, if lost then BitVec.allOnes 256 else match fget none b.tarn.masks m with | some v => v | none => BitVec.allOnes 256)

/-- The unit of an entry goes out, whole or up to the line that the writer has passed (R239, R240). -/
def Bolov.replayUnit (r : Replay) (e : TEntry) (cut bad last : Bool) (b : Bolov) : Bolov :=
  let b1 := if e.isFrame then b.replayFrame r e.words (e.slice % 256) else b.replayFrame r (e.header :: e.words) 0
  if cut then (b1.replayCut r).replayEnd r rsOvertaken
  else b1.replayPut { r with unit := some (e.isFrame, e.slice, bad), ended := last }

/-- The next entry is sent or passed over (R238, R239, R241): `passed` is the line that the writer passed during its read. -/
def Bolov.replaySend (r : Replay) (e0 : TEntry) (passed : Option Nat) (b : Bolov) : Bolov :=
  let r1 := { r with next := e0.pos + e0.lines, prevSeq := if e0.kind = 0xF then r.prevSeq else some e0.seq }
  let skip := e0.kind == 0xF || (match r.fromSlice with | some n => !e0.isFrame || decide (e0.slice < n) | none => false)
  if skip then b.replayPut r1
  else
    let r2 := { r1 with fromSlice := none }
    let (b1, e, bad) := b.readEntry e0 (match passed with | some k => min k e0.lines | none => e0.lines)
    let cut := passed.isSome
    if e.isFrame then
      let (b2, mask) := b1.replayMask r.mask
      let last := r.stop.reached e
      if e.notices || decide (mask = BitVec.allOnes 256) || decide (mask &&& e.regions ≠ 0) then b2.replayUnit r2 e cut bad last
      else if cut then b2.replayEnd r2 rsOvertaken
      else if last then b2.replayEnd r2 rsDone
      else b2.replayPut r2
    else if r.express then b1.replayUnit r2 e cut bad false
    else if cut then b1.replayEnd r2 rsOvertaken
    else b1.replayPut r2

/-- The start moves forward to the first frame of the range that meets the guard (R240). -/
def Bolov.replayForward (r : Replay) (b : Bolov) : Bolov :=
  match b.tarn.entries.find? (fun x => decide (r.next ≤ x.pos) && x.isFrame && !r.stop.past x && b.guardOk x) with
  | some x => b.replayPut { r with next := x.pos, prevSeq := none, truncated := true }
  | none => b.replayEnd r rsOvertaken

/-- An express or mark entry lies behind the last frame of the range, or may: no later frame is reserved (R237). -/
def Bolov.behindRange (b : Bolov) (r : Replay) (e : TEntry) : Option Bool :=
  match b.tarn.entries.find? (fun x => x.isFrame && decide (e.pos < x.pos)), r.stop with
  | some x, _ => some (r.stop.past x)
  | none, .slice _ => some false
  | none, .before _ => none

/-- The reader turns to the next entry (R240, R241). It waits for an entry that is still to be written, and for the frame that
tells whether the range goes on (R243). -/
def Bolov.replayNext (r : Replay) (passed : Option Nat) (b : Bolov) : Bolov :=
  match b.tarn.entries.find? (fun e => decide (r.next ≤ e.pos)) with
  | none => b
  | some e =>
    let behind := if e.isFrame then some (r.stop.past e) else if e.kind = 0xF then some false else b.behindRange r e
    if r.prevSeq.isNone && r.fromSlice.isNone && e.pos != r.next then b.replayForward r
    else match behind with
      | none => b
      | some true => b.replayEnd r rsDone
      | some false =>
        if (match r.prevSeq with | some q => e.kind != 0xF && e.seq != (q + 1) % 2 ^ 32 | none => false) then
          b.replayEnd r rsOvertaken
        else if e.kind != 0xF && !e.written then b
        else if !b.guardOk e then
          if r.frames + r.units > 0 then b.replayEnd r rsOvertaken else b.replayForward r
        else if passed = some 0 then b.replayEnd r rsOvertaken
        else
          let head := tarnLine (physLine (e.pos % b.tarn.hist))
          let b1 := b.readOnce head
          if b1.poisoned head then b1.replayEnd r rsPoison else b1.replaySend r e passed

/-- The reader of the replay that runs on a lane, once the unit before is out (R239): paused while the lane is held or in breach. -/
def Bolov.replayRead (lane : Fin 16) (passed : Option Nat) (b : Bolov) : Bolov :=
  match b.tarn.requests.find? (fun r => r.lane == lane && r.active) with
  | none => b
  | some r0 =>
    if (b.lanes[lane]).heldFrom.isSome || (b.lanes[lane]).breach || !b.replayIdle lane then b
    else
      let r := r0.delivered
      let b1 := (b.replayPut r).modLane lane (fun l => { l with replay := none })
      if r.aborted then b1.replayEnd r rsAborted
      else if r.ended then b1.replayEnd r rsDone
      else
        let b2 := b1.readOnce (requestLine r.slot)
        if b2.poisoned (requestLine r.slot) then b2.replayEnd r rsPoison else b2.replayNext r passed

/-- A lane is disabled: its replay ends ABORTED (R243). -/
def Bolov.replayLaneOff (lane : Fin 16) (b : Bolov) : Bolov :=
  forAll (b.tarn.requests.filter (fun r => r.lane == lane && r.active)) (fun r b => b.replayBreak r) b

/-- Tarn goes off: running replays end ABORTED, waiting requests NOT_FOUND (R226, R243). -/
def Bolov.replayTarnOff (b : Bolov) : Bolov :=
  forAll b.tarn.requests (fun r b => if r.active then b.replayBreak r else b.replayEnd r rsNotFound) b

/-! ### Meanings -/

/-- REPLAY_ACCEPT (R237). -/
def execReplayAccept (t : Tick) (s : State) : Out := atB t s Bolov.replayAccept

/-- REPLAY_ABORT (R243). -/
def execReplayAbort (t : Tick) (s : State) : Out := atB t s Bolov.replayAbort

/-- REPLAY_START (R239). -/
def execReplayStart (lane : Fin 16) (t : Tick) (s : State) : Out := atB t s (Bolov.replayBegin lane)

/-- REPLAY_ENTRY_READ (R240). -/
def execReplayEntryRead (lane : Fin 16) (t : Tick) (passed : Option Nat) (reads : List LineRead) (s : State) : Out :=
  atB t s (fun b => (b.withFlaws reads).replayRead lane passed)

/-- TARN_TRAIN (R226). -/
def execTarnTrain (s : State) : Out := onB s (fun b => b.replayTarnOff.train)

/-- TARN_TRAINING_COMPLETE (R226). -/
def execTarnTrainingComplete (fail : BitVec 8) (t : Tick) (s : State) : Out := atB t s (Bolov.trainDone fail)

/-- TARN_PERIODIC_RETRAIN (R226): a channel repeats its training, and fails or not. -/
def execTarnPeriodicRetrain (channel : Fin 8) (ok : Bool) (t : Tick) (s : State) : Out :=
  atB t s (fun b => (if b.tarn.ready && !ok then b.replayTarnOff else b).retrain channel ok)

end Sys2Proof.Machine
end

