-- ==== Sys2Proof/Machine/Lanes.lean ====
section
/-!
DEFINITION. Output lanes: enabling, choice of a lane, XOFF_N and the duty contract, the express path (09 R171 to R173,
R182 to R187, R189).
-/

namespace Sys2Proof.Machine

/-- The output page. -/
def pgOut : Nat := 0x006

/-- The Bolov emits frames, express units and marks (R266, R267, R270). -/
def Bolov.emits (b : Bolov) : Bool := b.pod.state == .off || b.pod.state == .active || b.pod.state == .yielding

/-- The Bolov sends express units and marks: while it emits, and after yielding until the partner is active (R270). -/
def Bolov.emitsExpress (b : Bolov) : Bool := b.emits || b.pod.tail

/-! ### Holds and the duty contract (R186, R187) -/

/-- The number of the block of a lane at a moment, counted from its enable. -/
def Bolov.windowBlock (b : Bolov) (l : Lane) (up : Nat) : Nat :=
  match l.enabledAt with
  | some u => b.blocksIn (up - u)
  | none => 0

/-- `OUT_XOFF_WIN`, `OUT_XOFF_MAX`, `OUT_XOFF_HOLD` (R190). -/
def Bolov.xoffWin (b : Bolov) : Nat := 2 ^ (max 10 (cap 20 (b.regFld Reg.OUT_XOFF_WIN 4 0)))
def Bolov.xoffMax (b : Bolov) : Nat := b.regFld Reg.OUT_XOFF_MAX 20 0
def Bolov.xoffHold (b : Bolov) : Nat := max 1 (b.regFld Reg.OUT_XOFF_HOLD 15 0)

/-- The holds of a lane as first block and block after the last, counted from its enable. -/
def Bolov.heldBlocks (b : Bolov) (l : Lane) : List (Nat × Nat) :=
  (b.holdsNow l).map (fun h => (b.windowBlock l h.1, b.windowBlock l h.2))

/-- Held blocks between two blocks. -/
def heldIn (holds : List (Nat × Nat)) (a z : Nat) : Nat :=
  holds.foldl (fun n h => n + (min h.2 z - max h.1 a)) 0

/-- The window of blocks [a, z) keeps both limits (R187). -/
def Bolov.windowOk (b : Bolov) (l : Lane) (a z : Nat) : Bool :=
  decide (heldIn (b.heldBlocks l) a z ≤ b.xoffMax) &&
    (b.heldBlocks l).all (fun h => decide (min h.2 z ≤ h.1 + b.xoffHold) || decide (h.2 ≤ a) || decide (z ≤ h.1))

/-- A limit is exceeded now. -/
def Bolov.limitBroken (b : Bolov) (l : Lane) : Bool :=
  let now := b.windowBlock l b.up
  let a := now / b.xoffWin * b.xoffWin
  match l.heldFrom with
  | some u => decide (heldIn (b.heldBlocks l) a (a + b.xoffWin) > b.xoffMax ∨ now > b.windowBlock l u + b.xoffHold)
  | none => false

/-- XOFF_N falls (R186). -/
def Bolov.xoffFall (n : Fin 16) (b : Bolov) : Bolov :=
  b.modLane n (fun l => if l.heldFrom.isSome then l else { l with heldFrom := some b.up, heldDone := 0 })

/-- XOFF_N rises (R186). A hold is kept while it bears on the window before the present one or on the frame on the lane. -/
def Bolov.xoffRise (n : Fin 16) (b0 : Bolov) : Bolov :=
  let b := b0.heldCount n
  b.modLane n (fun l => match l.heldFrom with
    | none => l
    | some u => { l with
        heldFrom := none
        heldDone := 0
        holds := (l.holds.filter (fun h => decide (b.up < h.2 + 2 ^ 23 ∨ l.since ≤ h.2))) ++ [(u, b.up)] })

/-- The lane enters breach (R187). -/
def Bolov.breachBegin (n : Fin 16) (b : Bolov) : Bolov :=
  let l := b.lanes[n]
  if !l.breach && b.laneEnabled n && b.limitBroken l then
    ((b.modLane n (fun l => { l with breach := true, breachAt := b.windowBlock l b.up })).raise pgOut 0).countAt Reg.OUT_L_BREACH n 1
  else b

/-- The breach ends with the first complete window in which both limits were kept (R187): a window that ends behind the block in
which the breach began. -/
def Bolov.breachEnd (n : Fin 16) (b : Bolov) : Bolov :=
  let l := b.lanes[n]
  let z := b.windowBlock l b.up / b.xoffWin * b.xoffWin
  if l.breach && decide (z ≥ b.xoffWin) && decide (l.breachAt < z) && b.windowOk l (z - b.xoffWin) z then
    (b.modLane n (fun l => { l with breach := false })).raise pgOut 1
  else b

/-! ### Enabling (R171, R189) -/

/-- `OUT_LANE_EN` takes effect: a lane newly enabled counts its 4,096 blocks and its windows from now and sends idle blocks, unless it
is still sending; a lane disabled sends on, and a replay on it ends. -/
def Bolov.setLanes (mask : BitVec 16) (b : Bolov) : Bolov :=
  forAll (List.finRange 16) (fun n b =>
    let l := b.lanes[n]
    let on := l.enabledAt.isSome
    let started := fun (b : Bolov) => b.modLane n (fun l => { l with enabledAt := some b.up, started := false, breach := false })
    if mask.getLsbD n = on then b
    else if on then (b.modLane n (fun l => { l with enabledAt := none, started := false, breach := false })).replayLaneOff n
    else if l.ranFrom.isSome || !b.domOn (32 + n) then started b
    else ((started b).modLane n (fun l => { l with ranFrom := some b.up })).laneSend n [idleBlock]) b

/-- 4,096 blocks after the lane was enabled (R171). -/
def Bolov.laneReady (n : Fin 16) (b : Bolov) : Bolov :=
  let l := b.lanes[n]
  if l.enabledAt.isSome ∧ b.windowBlock l b.up ≥ 4096 then b.modLane n (fun l => { l with started := true }) else b

/-! ### Choice of a lane (R182, R184) -/

/-- The lanes from `n + 1` upward, wrapping to `n`. -/
def lanesAbove (n : Fin 16) : List (Fin 16) := (List.finRange 16).map (fun i => n + 1 + i)

/-- The lane of a frame or unit whose named lane is `n` (R182): the named lane or the first above it that is enabled and not
in breach; else the named lane or the first above it that is enabled. -/
def Bolov.chooseLane (b : Bolov) (n : Fin 16) : Option (Fin 16) :=
  let order := n :: lanesAbove n
  match order.find? (fun i => b.laneEnabled i && !(b.lanes[i]).breach) with
  | some i => some i
  | none => order.find? (fun i => b.laneEnabled i)

/-- The express lane (R184). -/
def Bolov.expressNamed (b : Bolov) : Fin 16 := Fin.ofNat 16 (b.regFld Reg.OUT_EXPRESS 3 0)
def Bolov.expressLane (b : Bolov) : Option (Fin 16) := b.chooseLane b.expressNamed
def Bolov.expressOn (b : Bolov) : Bool := b.regBit Reg.OUT_EXPRESS 31 && !b.ek4

/-- The lane whose queues a unit joins (R184): the express lane, or the one named while no lane is enabled (log entry 38). -/
def Bolov.expressHome (b : Bolov) : Fin 16 := b.expressLane.getD b.expressNamed

/-- A drop is counted on the lane whose queue is full. -/
def Bolov.expressDrop (b : Bolov) : Bolov := (b.countAt Reg.OUT_L_EXP_DROP b.expressHome.val 1).raise pgOut 2

/-- An express hit joins the hit queue, its offset from the slice start (R183), or is dropped with a dead-time record of its cell
(R184). -/
def Bolov.queueHit (w : W64) (tick : Tick) (port : Nat) (b : Bolov) : Bolov :=
  let fe := (b.cfgAt tick).feId port
  if (b.lanes[b.expressHome]).hitQ.length < 256 then
    b.modLane b.expressHome (fun l => { l with hitQ := l.hitQ ++ [.hit (setFld w 50 39 (b.inSliceOffset tick)) tick port fe] })
  else b.expressDrop.issueDt { cause := dtRate, scope := scCell, port := port, sub := recCell w, start := tick,
                               stop := tick + 1, count := 1, feId := fe.toNat }

/-! ### Sending express units (R183, R184, R194, R229) -/

/-- The three payloads of a 168-bit value. -/
def threeBlocks (t0 : Nat) (p : Nat) : List (Byte × BitVec 56) :=
  [(BitVec.ofNat 8 t0, BitVec.ofNat 56 (p / 2 ^ 112)), (BitVec.ofNat 8 (t0 + 1), BitVec.ofNat 56 (p / 2 ^ 56)),
   (BitVec.ofNat 8 (t0 + 2), BitVec.ofNat 56 p)]

/-- The value of an express hit (R183), with its context as read. -/
def Bolov.hitValue (w : W64) (tick : Tick) (port : Nat) (feId : BitVec 16) (b : Bolov) : Bolov × Nat :=
  let value := fun (entry : Nat) => pack [(7, port), (1, 0), (48, tick.toNat), (16, feId.toNat), (64, w.toNat), (32, entry)]
  if (b.cfgAt tick).cal then
    let (b1, c, bad) := b.readCtx port w tick
    (b1, value (calEntry c bad w (recOffset w)))
  else (b, value 0x40000000)

/-- The value of a trigger mark (R194). -/
def markValue (source : Nat) (falling prot lost : Bool) (tick : Tick) (seq : BitVec 16) (fine w index : Nat) : Nat :=
  let body := pack [(4, source), (1, b2n falling), (1, b2n prot), (1, b2n lost), (1, 0), (48, tick.toNat),
    (16, seq.toNat), (12, fine), (8, w), (20, 0), (8, index), (32, 0)]
  body * 65536 + crc16 body 152

/-- The three blocks of a unit leave on a lane (R184), and their payloads go into the history (R229). -/
def Bolov.sendBlocks (n : Fin 16) (kind : Nat) (bl : List (Byte × BitVec 56)) (b : Bolov) : Bolov :=
  ((b.modLane n (fun l => { l with extra := l.extra + 3 })).laneSend n bl).reserve kind n (bl.map (fun x => x.2.setWidth 64)) 0 0 0 false

/-- A unit leaves on a lane (R184): its blocks, its history entry, its delivery. -/
def Bolov.sendUnit (n : Fin 16) (u : ExpressUnit) (b : Bolov) : Bolov :=
  match u with
  | .hit w tick port fe =>
    let (b1, v) := b.hitValue w tick port fe
    ((b1.sendBlocks n 3 (threeBlocks 0xE1 v)).syncWalk).deliver port w
  | .mark source falling prot tick seq fine w index =>
    let b1 := b.sendBlocks n 4 (threeBlocks 0xD1 (markValue source falling prot b.trg.lost tick seq fine w index))
    { b1 with trg := { b1.trg with lost := false } }

/-- The unit that is sent next, and the queues without it (R184): marks first, none while `OUT_EXPRESS.en` = 0; what waits in the
queues of another lane, from an earlier choice of the lane, goes before the lane's own (log entry 38). -/
def Bolov.nextUnit (n : Fin 16) (b : Bolov) : Option (ExpressUnit × Bolov) :=
  let some' := fun (q : Lane → List ExpressUnit) => (lanesAbove n).find? (fun i => !(q b.lanes[i]).isEmpty)
  match (if b.expressOn then some' Lane.markQ else none), some' Lane.hitQ with
  | some i, _ => (b.lanes[i]).markQ.head?.map (fun u => (u, b.modLane i (fun l => { l with markQ := l.markQ.drop 1 })))
  | none, some i => (b.lanes[i]).hitQ.head?.map (fun u => (u, b.modLane i (fun l => { l with hitQ := l.hitQ.drop 1 })))
  | none, none => none

/-- The next express unit is sent at a block boundary (R184): on the express lane, not where a hold has stopped the lane (R186), nor
in EK-4 compatibility mode (R188). -/
def Bolov.expressSend (n : Fin 16) (b0 : Bolov) : Bolov :=
  let b := b0.syncMerge
  if b.expressLane = some n ∧ !b.laneStopped b.lanes[n] ∧ b.emitsExpress ∧ !b.ek4 then
    match b.nextUnit n with
    | some (u, b1) => b1.sendUnit n u
    | none => b
  else b

/-- `OUT_CTRL.count_clear` (R191). -/
def Bolov.outClear (b : Bolov) : Bolov :=
  forAll [Reg.OUT_L_FRAMES, Reg.OUT_L_REDIRECT, Reg.OUT_L_HELD, Reg.OUT_L_BREACH, Reg.OUT_L_EXP_DROP]
    (fun a => Bolov.clearCtrs a 16) b

/-- `OUT_CTRL.ek4` (R188): with 1 Tarn writes no history and replays none (R226). The held blocks counted so far stand. -/
def Bolov.ek4Write (v : Bool) (b : Bolov) : Bolov :=
  if b.sort.running then (b.setRegBit Reg.OUT_STATUS 31 true).raise pgOut 4
  else
    let b1 := (whenDo v Bolov.replayTarnOff b).setRegBit Reg.OUT_CTRL 1 v
    forAll (List.finRange 16) (fun n b => b.modLane n (fun l => match l.heldFrom with
      | some u => { l with heldDone := b.blocksAt l b.up - b.blocksAt l u }
      | none => l)) b1

/-! ### Meanings -/

/-- EXPRESS_UNIT_SEND (R184). -/
def execExpressUnitSend (lane : Fin 16) (t : Tick) (s : State) : Out := atB t s (Bolov.expressSend lane)

/-- XOFF_ASSERT (R186). -/
def execXoffAssert (lane : Fin 16) (t : Tick) (s : State) : Out := atB t s (Bolov.xoffFall lane)

/-- XOFF_RELEASE (R186). -/
def execXoffRelease (lane : Fin 16) (t : Tick) (s : State) : Out := atB t s (Bolov.xoffRise lane)

/-- BREACH_BEGIN (R187). -/
def execBreachBegin (lane : Fin 16) (t : Tick) (s : State) : Out := atB t s (Bolov.breachBegin lane)

/-- BREACH_END (R187). -/
def execBreachEnd (lane : Fin 16) (t : Tick) (s : State) : Out := atB t s (Bolov.breachEnd lane)

/-- LANE_STARTUP_DONE (R171). -/
def execLaneStartupDone (lane : Fin 16) (t : Tick) (s : State) : Out := atB t s (Bolov.laneReady lane)

/-- OUT_EK4_WRITE (R188). -/
def execOutEk4Write (ek4 : Bool) (s : State) : Out := onB s (Bolov.ek4Write ek4)

/-- OUT_COUNT_CLEAR (R191). -/
def execOutCountClear (s : State) : Out := onB s Bolov.outClear

end Sys2Proof.Machine
end

