-- ==== Sys2Proof/Machine/Commit.lean ====
section
/-!
DEFINITION. Commits at the Bolov: go, discard, the slice-aligned switch, reports and completion (18 R335 to R346).
-/

namespace Sys2Proof.Machine

/-- The commit page. -/
def pgCmt : Nat := 0x011

/-! ### Go (R336, R337) -/

/-- The first slice start at or after a tick (R145): of the run under way, else of the grid that `SORT_S0` names. -/
def Bolov.sliceStartFrom (b : Bolov) (t : Tick) : Tick :=
  if b.sort.running then b.sliceStart (b.sort.nextSlice - (-tickGap t b.sort.nextStart) / (b.sliceLen : Int)).toNat
  else if later t b.s0 then b.s0 + BitVec.ofNat 48 (ceilDiv (tickDiff t b.s0) b.sliceLen * b.sliceLen) else b.s0

/-- The ports that are sent the COMMIT (R337): in data, their lease owned; a Pod partner that does not own the leases takes
the ports in data, to which its partner sends it (R344). -/
def Bolov.commitPorts (b : Bolov) : List Nat :=
  (fkeys b.ports).filter (fun p => (b.port p).rx == .data && ((b.port p).owner || b.pod.state == .standby))

/-- COMMIT goes out on every port that has not reported (R337). -/
def Bolov.sendCommit (b : Bolov) : Bolov :=
  forAll (b.cmt.ports.filter (fun x => x.report.isNone)) (fun x => Bolov.sendOwned x.port
    { op := fCommit, arg := b.cmt.pending.toNat, payload := payloadTick b.cmt.t.toNat })
    (b.modCmt (fun c => { c with sentAt := b.up }))

/-- Why a go is refused (R336): the lowest number that applies, 0 where none does. -/
def Bolov.commitRefusal (b : Bolov) (t : Tick) : Nat :=
  let d := (b.commitPorts.map b.downTicks).foldl max 0
  if b.cmt.busy then 1
  else if later (b.tick + BitVec.ofNat 48 (96 + d)) t then 2
  else if later t (b.tick + BitVec.ofNat 48 (2 ^ 28)) then 3
  else if !(b.rmt.requests.filter (fun r => r.answer.isNone)).isEmpty then 4
  else 0

/-- `CMT_CTRL.go` (R336, R337). -/
def Bolov.commitGo (b : Bolov) : Bolov :=
  let t0 : Tick := BitVec.ofNat 48 (b.reg64 Reg.CMT_TARGET)
  let t := if b.regBit Reg.CMT_CTRL 1 then b.sliceStartFrom t0 else t0
  let r := b.commitRefusal t
  if r ≠ 0 then ((b.modCmt (fun c => { c with result := r })).count Reg.CMT_REFUSED 1).raise pgCmt 1
  else
    let b1 := b.modCmt (fun c =>
      { c with
        busy := true
        t := t
        pending := b.sort.cfg.epoch + 1
        result := 0
        staged := {}
        copy := c.staged
        ports := b.commitPorts.map (fun p => { port := p })
        reached := false
        switched := false
        toMerge := []
        total := 0
        merged := 0
        poisoned := 0
        mergeEnd := none })
    ((b1.setReg64 Reg.CMT_TARGET t.toNat).raise pgCmt 0).sendCommit

/-- `CMT_CTRL.discard` (R336): fe_id copies follow the staged Jilek values, which it cannot reach. -/
def Bolov.commitDiscard (b : Bolov) : Bolov :=
  if b.cmt.busy then b else b.modCmt (fun c => { c with staged := { feIds := c.staged.feIds } })

/-! ### The slice-aligned switch (R335, R342) -/

/-- Apply the staged tables to the configuration in force. -/
def SliceCfg.apply (st : StagedSet) (c : SliceCfg) : SliceCfg :=
  { c with
    regionMap := st.regionMap.foldl (fun m e => match e.2 with | some v => fset (0x0100#16) m e.1 v | none => m) c.regionMap
    steering := st.steering.foldl (fun m e => match e.2 with
      | some v => fset none m e.1 (some (v.setWidth 4)) | none => m) c.steering
    feIds := st.feIds.foldl (fun m e => match e.2 with | some v => fset 0 m e.1 v | none => m) c.feIds
    rateRegion := st.regs.foldl (fun m e => match e.2 with
      | some v =>
        if 0x8200 ≤ e.1 ∧ e.1 < 0x8300 then
          forUpTo 4 (fun k m => fset none m (e.1 - 0x8200 + k) (some (BitVec.ofNat 8 (fld v (8 * k + 7) (8 * k))))) m
        else m
      | none => m) c.rateRegion }

/-- The commit fields of a Bolov register (R9). -/
def commitMask (addr : Nat) : Word :=
  match findRow (bolovRows (addr / 0x1000)) (addr % 0x1000) with
  | some (r, _) => BitVec.ofNat 32 r.commit
  | none => 0

/-- A staged register value is put in force: its commit fields. -/
def Bolov.applyReg (addr : Nat) (v : Word) (b : Bolov) : Bolov :=
  b.setReg addr ((b.reg addr &&& ~~~ commitMask addr) ||| (v &&& commitMask addr))

/-- A table of two copies is written at a commit: a line whose entries are all staged by a full-line write, another by a
narrow write (R252). -/
def Bolov.writeTable (perLine : Nat) (line : Nat → Nat → Nat) (keys : List Nat) (b : Bolov) : Bolov :=
  forAll (keys.map (· / perLine)).eraseDups (fun l b =>
    forAll [0, 1] (fun copy b =>
      let a := line copy (l * perLine)
      if (keys.filter (fun k => k / perLine == l)).length = perLine then b.fullWrite a else b.narrowWrite a) b) b

/-- The switch of the slice-aligned items: the new epoch governs the slices that open from now on. -/
def Bolov.commitSwitch (b : Bolov) : Bolov :=
  let st := b.cmt.copy
  let b0 := (b.writeTable 16 mapLine (fkeys st.regionMap)).writeTable 32 steeringLine (fkeys st.steering)
  let b1 := st.regs.foldl (fun b e => match e.2 with | some v => b.applyReg e.1 v | none => b) b0
  let cfg : SliceCfg :=
    { b.sort.cfg.apply st with
      epoch := b.cmt.pending
      classExempt := (b1.reg Reg.RATE_CLASS_EXEMPT).setWidth 16
      cal := b1.regBit Reg.OUT_CTRL 0
      laneEn := (b1.reg Reg.OUT_LANE_EN).setWidth 16
      streamId := (b1.reg Reg.OUT_STREAM_ID).setWidth 16 }
  let b2 := (b1.modSort (fun x => { x with cfg := cfg, oldCfgs := ⟨b.tick, b.up, x.cfg⟩ :: x.oldCfgs })).modCmt
    (fun c => { c with switched := true, firstSlice := if b.sort.running then b.sort.nextSlice else (Config.noSlice b.up).toNat })
  (b2.setLanes cfg.laneEn).quoteChange

/-- A slice starts: the switch, if the commit's target has come (R335). -/
def Bolov.commitAtSlice (b : Bolov) : Bolov :=
  if b.cmt.busy && !b.cmt.switched && notBefore b.tick b.cmt.t then b.commitSwitch else b

/-- The engine is stopped: the switch at T, or once it has stopped (R335, R345). -/
def Bolov.commitStopped (b : Bolov) : Bolov := if b.sort.running then b else b.commitAtSlice

/-! ### T, reports, completion (R337, R339, R340, R343) -/

/-- COMMIT_TARGET_REACHED. -/
def Bolov.commitReached (b : Bolov) : Bolov :=
  if b.cmt.busy && !b.cmt.reached && notBefore b.tick b.cmt.t then
    let todo := b.cmt.copy.contexts.filterMap (fun e => e.2.map (fun v => (e.1, v.1, v.2)))
    let b1 := b.modCmt (fun c =>
      { c with
        reached := true
        mergeAt := b.up
        toMerge := todo
        total := todo.length
        keepCal := b.regBit Reg.CMT_CTRL 0
        mergeEnd := if todo.isEmpty then some c.t else none })
    let b2 := if todo.isEmpty then b1 else b1.quoteChange
    (b2.raise pgCmt 2).commitStopped
  else b

/-- CONTEXT_MERGE_END: every entry is written. -/
def Bolov.mergeFinish (b : Bolov) : Bolov :=
  if b.cmt.reached && b.cmt.mergeEnd.isNone then
    (b.mergeNext b.cmt.toMerge.length).modCmt (fun c => { c with mergeEnd := some b.tick, lastMergeEnd := b.tick })
  else b

/-- A Jilek's commit switch, status 0x06 (R339). -/
def Bolov.commitReport (p a bArg : Nat) (b : Bolov) : Bolov :=
  if b.cmt.busy && bits a 7 4 == b.cmt.pending.toNat then
    let tick := b.cmt.t + BitVec.ofNat 48 ((bArg + 2 ^ 32 - b.cmt.t.toNat % 2 ^ 32) % 2 ^ 32)
    b.modCmt (fun c => { c with ports := c.ports.map (fun x =>
      if x.port = p ∧ x.report = none then { x with report := some (tick, bit a 3) } else x) })
  else b

/-- `CMT_WAIT`. -/
def Bolov.commitWait (b : Bolov) : Nat := max 1024 (b.regFld Reg.CMT_WAIT 15 0)

/-- Ticks since T. -/
def Bolov.sinceTarget (b : Bolov) : Nat := if notBefore b.tick b.cmt.t then tickDiff b.tick b.cmt.t else 0

/-- COMMIT_RESEND (R337): from T + 256 on, every 1,024 ticks, until CMT_WAIT ends. -/
def Bolov.commitResend (b : Bolov) : Bolov :=
  let d := b.sinceTarget
  if b.cmt.busy && b.cmt.reached && decide (d ≥ 256 ∧ (d - 256) % 1024 = 0 ∧ d < b.commitWait) then b.sendCommit else b

/-- The ports listed in the report: late, or without a report (R343). -/
def CommitState.listed (c : CommitState) : List CmtPort :=
  c.ports.filter (fun x => match x.report with | some r => r.2 | none => true)

/-- The commit report (R343). -/
def CommitState.notice (c : CommitState) : List W64 :=
  let late := (c.ports.filter (fun x => match x.report with | some r => r.2 | none => false)).length
  let missing := (c.ports.filter (fun x => x.report.isNone)).length
  [word64 [(8, 4), (8, 4 + c.listed.length), (4, c.pending.toNat), (4, (c.pending - 1).toNat), (1, b2n (decide (c.merged > 0))),
     (1, b2n c.keepCal), (8, late), (8, missing), (22, 0)],
   word64 [(16, 0), (48, c.t.toNat)], word64 [(16, c.poisoned), (48, c.firstSlice)],
   word64 [(16, c.merged), (48, (if c.merged = 0 then c.t else c.mergeEnd.getD c.t).toNat)]] ++
  c.listed.map (fun x => word64 [(7, x.port), (1, b2n x.report.isNone), (8, 0),
    (48, match x.report with | some r => r.1.toNat | none => 0)])

/-- The conditions of completion (R336). -/
def Bolov.commitDone (b : Bolov) : Bool :=
  b.cmt.busy && b.cmt.reached && b.cmt.switched && b.cmt.mergeEnd.isSome &&
    (b.cmt.ports.all (fun x => x.report.isSome) || decide (b.sinceTarget ≥ b.commitWait))

/-- COMMIT_COMPLETE (R343). -/
def Bolov.commitComplete (b : Bolov) : Bolov :=
  if b.commitDone then
    let late := (b.cmt.ports.filter (fun x => match x.report with | some r => r.2 | none => false)).length
    let missing := (b.cmt.ports.filter (fun x => x.report.isNone)).length
    let b1 := if b.ek4 then b else b.notice b.cmt.notice none
    let b2 := ((b1.modCmt (fun c => { c with busy := false, copy := {}, lastLate := late, lastMissing := missing })).count
      Reg.CMT_DONE 1).raise pgCmt 3
    if late + missing > 0 then b2.raise pgCmt 4 else b2
  else b

/-- `CMT_CTRL.count_clear`. -/
def Bolov.commitClear (b : Bolov) : Bolov := (b.clearCtr Reg.CMT_DONE 0).clearCtr Reg.CMT_REFUSED 0

/-! ### Meanings -/

/-- CMT_GO (R336). -/
def execCmtGo (s : State) : Out := onB s Bolov.commitGo

/-- CMT_DISCARD (R336). -/
def execCmtDiscard (s : State) : Out := onB s Bolov.commitDiscard

/-- CMT_COUNT_CLEAR (R346). -/
def execCmtCountClear (s : State) : Out := onB s Bolov.commitClear

/-- COMMIT_TARGET_REACHED (R337). -/
def execCommitTargetReached (t : Tick) (s : State) : Out := atB t s Bolov.commitReached

/-- COMMIT_RESEND (R337). -/
def execCommitResend (t : Tick) (s : State) : Out := atB t s Bolov.commitResend

/-- CONTEXT_MERGE_END (R340). -/
def execContextMergeEnd (reads : List LineRead) (t : Tick) (s : State) : Out :=
  atB t s (fun b => (b.withFlaws reads).mergeFinish)

/-- COMMIT_COMPLETE (R343). -/
def execCommitComplete (t : Tick) (s : State) : Out := atB t s Bolov.commitComplete

end Sys2Proof.Machine
end

