-- ==== Sys2Proof/Machine/Monitor.lean ====
section
/-!
DEFINITION. The environment monitor (15 R281 to R296), and the guard converters as it runs them (16 R300).
-/

namespace Sys2Proof.Machine

/-- The monitor page. -/
def pgMon : Nat := 0x00D

/-- Change the monitor. -/
def Bolov.modMon (f : MonState → MonState) (b : Bolov) : Bolov := { b with mon := f b.mon }

/-- A converter. -/
def Bolov.conv (b : Bolov) (n : Fin 4) : MonConv := b.mon.convs[n]

/-- Change a converter. -/
def Bolov.modConv (n : Fin 4) (f : MonConv → MonConv) (b : Bolov) : Bolov :=
  b.modMon (fun m => { m with convs := m.convs.set n (f m.convs[n]) })

/-- The monitor is on: its domain (R368) and `MON_CTRL.en`. -/
def Bolov.monOn (b : Bolov) : Bool := b.domOn 76 && b.regBit Reg.MON_CTRL 0

/-- A converter is a guard converter (R300). -/
def Bolov.isGuard (b : Bolov) (n : Fin 4) : Bool := b.regBit Reg.GRD_CONV n

/-! ### Slots (R281 to R285) -/

/-- Fields of a slot. -/
def Bolov.slotEn (b : Bolov) (k : Nat) : Bool := b.regBit (Reg.MON_SLOT_ROUTE k) 31
def Bolov.slotAdc (b : Bolov) (k : Nat) : Nat := b.regFld (Reg.MON_SLOT_ROUTE k) 29 28
def Bolov.slotSrc (b : Bolov) (k : Nat) : Nat := b.regFld (Reg.MON_SLOT_CONV k) 31 30
def Bolov.slotChop (b : Bolov) (k : Nat) : Bool := b.regBit (Reg.MON_SLOT_CONV k) 21
def Bolov.slotGain (b : Bolov) (k : Nat) : Nat := b.regFld (Reg.MON_SLOT_CONV k) 10 8
def Bolov.slotBurnout (b : Bolov) (k : Nat) : Bool := b.regBit (Reg.MON_SLOT_CONV k) 2
def Bolov.slotRate (b : Bolov) (k : Nat) : Nat := min 8 (b.regFld (Reg.MON_SLOT_CONV k) 7 4)

/-- The enabled slots of a converter, in rising number. -/
def Bolov.slotsOf (b : Bolov) (n : Fin 4) : List Nat :=
  (List.range 16).filter (fun k => b.slotEn k && b.slotAdc k == n.val)

/-- The driven pins of a slot (R282). -/
def Bolov.driven (b : Bolov) (k : Nat) : List Nat :=
  let src := b.slotSrc k
  (if src = 0 then [] else [b.regFld (Reg.MON_SLOT_CONV k) 29 26]) ++
  (if src ≠ 0 ∧ (src = 3 ∨ b.slotChop k) then [b.regFld (Reg.MON_SLOT_CONV k) 25 22] else []) ++
  (if b.regBit (Reg.MON_SLOT_ROUTE k) 10 then [b.regFld (Reg.MON_SLOT_ROUTE k) 9 6] else [])

/-- The driven roles of a slot share a pin. -/
def Bolov.slotInvalid (b : Bolov) (k : Nat) : Bool := decide (¬ (b.driven k).Nodup)

/-- The slots that other converters convert. -/
def Bolov.activeSlots (b : Bolov) (n : Fin 4) : List Nat :=
  ([0, 1, 2, 3] : List (Fin 4)).filterMap (fun m => if m = n then none
    else if (b.conv m).running || (b.conv m).guardOn then some (b.conv m).slot else none)

/-- A driven pin or a source of the slot is held by another converter (R283). -/
def Bolov.slotConflict (b : Bolov) (n : Fin 4) (k : Nat) : Bool :=
  (b.activeSlots n).any (fun j => (b.driven k).any (fun p => (b.driven j).contains p) ||
    (b.slotSrc k != 0 && b.slotSrc k == b.slotSrc j))

/-- The settling time and the output period of a rate, in µs (R287). -/
def settleUs (rate : Nat) : Nat := [1200000, 600000, 300000, 150000, 60000, 30000, 7500, 3000, 750].getD rate 750
def periodUs (rate : Nat) : Nat := [400000, 200000, 100000, 50000, 20000, 10000, 2500, 1000, 250].getD rate 250
def Bolov.settleTicks (b : Bolov) (k : Nat) : Nat := settleUs (b.slotRate k) * ticksUs

/-- The polarity of a result taken now (R285): a chopped slot follows the PWM level. -/
def Bolov.polarity (b : Bolov) (k : Nat) : Bool := b.slotChop k && b.mon.level

/-- What the excitation source of a slot puts out (R284): a current in µA, or a voltage in mV. -/
def Bolov.excCurrent (b : Bolov) (k : Nat) : Nat := max 1 (cap 1000 (b.regFld (Reg.MON_SLOT_CONV k) 20 11))
def Bolov.excVoltage (b : Bolov) (k : Nat) : Nat := 10 * max 25 (cap 250 (b.regFld (Reg.MON_SLOT_CONV k) 20 11))

/-- What drives a MON pin (R282, R284, R285). -/
inductive MonDrive where
  | highZ
  | current (uA : Nat)
  | voltage (mV : Nat)
  | ground
  | bias
deriving DecidableEq, Repr

/-- What a slot that is being converted puts on a pin: the PWM level exchanges the excitation pins of a chopped one. -/
def Bolov.slotDrive (b : Bolov) (k p : Nat) : MonDrive :=
  let conv := Reg.MON_SLOT_CONV k
  let src := b.slotSrc k
  let (out, back) := if b.polarity k then (b.regFld conv 25 22, b.regFld conv 29 26) else (b.regFld conv 29 26, b.regFld conv 25 22)
  if b.regBit (Reg.MON_SLOT_ROUTE k) 10 && b.regFld (Reg.MON_SLOT_ROUTE k) 9 6 == p then .bias
  else if src = 0 then .highZ
  else if p = out then (if src = 3 then .voltage (b.excVoltage k) else .current (b.excCurrent k))
  else if p = back ∧ src = 3 then .ground
  else .highZ

/-- What drives a MON pin now: no two conversions drive one (R283). -/
def Bolov.monPin (b : Bolov) (p : Fin 16) : MonDrive :=
  ((([0, 1, 2, 3] : List (Fin 4)).filter (fun n => (b.conv n).running || (b.conv n).guardOn)).map
    (fun n => b.slotDrive (b.conv n).slot p)).foldl (fun x y => if x = .highZ then y else x) .highZ

/-! ### Codes (R286) -/

/-- The input of a slot, and its reference, at these pin voltages in nV (R282, R286). -/
def Bolov.slotInput (b : Bolov) (k : Nat) (pins : MonPins) : Int :=
  let r := Reg.MON_SLOT_ROUTE k
  pins[Fin.ofNat 16 (b.regFld r 27 24)] - (if b.regBit r 5 then 0 else pins[Fin.ofNat 16 (b.regFld r 23 20)])
def Bolov.slotRef (b : Bolov) (k : Nat) (pins : MonPins) : Int :=
  let r := Reg.MON_SLOT_ROUTE k
  if b.regBit r 11 then pins[Fin.ofNat 16 (b.regFld r 19 16)] - pins[Fin.ofNat 16 (b.regFld r 15 12)] else 2500000000

/-- How far a code may depart from the formula (R286), in whole codes: 15 ppm of full scale and 4 µV ÷ 2^gain, and with the
internal reference 0.05% of the reading. -/
def Bolov.codeBound (b : Bolov) (k : Nat) (pins : MonPins) (code : Int) : Nat :=
  let d := 2 ^ b.slotGain k * (b.slotRef k pins).natAbs
  let reading := if b.regBit (Reg.MON_SLOT_ROUTE k) 11 then 0 else 500 * code.natAbs
  (15 * 2 ^ 23 * d + 4000 * 2 ^ 23 * 1000000 + reading * d) / (1000000 * d)

/-- The code and the overrange bit of a slot at these pin voltages, where the converter errs by `err` codes. DESIGN CHOICE (log 189):
the bound of R286 holds in every condition. -/
def Bolov.monCode (b : Bolov) (k : Nat) (pins : MonPins) (err : Int) : Int × Bool :=
  let vref := b.slotRef k pins
  let diff := b.slotInput k pins
  let scaled : Int := diff * (2 ^ (23 + b.slotGain k) : Nat)
  let ideal : Int := if vref = 0 then Config.zeroReference diff (b.slotGain k)
    else if vref < 0 then roundDivI (-scaled) vref.natAbs else roundDivI scaled vref.natAbs
  let bound : Int := b.codeBound k pins ideal
  let code := ideal + max (-bound) (min bound err)
  if code ≥ 2 ^ 23 then (2 ^ 23 - 1, true)
  else if code ≤ -(2 ^ 23) then (-(2 ^ 23 - 1), true)
  else (code, false)

/-! ### Results (R290 to R294) -/

/-- Statuses of R294. -/
def msValid : Nat := 0
def msEarly : Nat := 1
def msWire : Nat := 2
def msCompliance : Nat := 3
def msOpen : Nat := 4
def msConflict : Nat := 5
def msInvalid : Nat := 6
def msAborted : Nat := 7

/-- Word 1 of a record. -/
def monWord (seq status : Nat) (settled ovf pol : Bool) (code : Int) : W64 :=
  word64 [(16, seq), (3, status), (1, b2n settled), (1, b2n ovf), (1, b2n pol), (18, 0), (24, satSigned 24 code)]

/-- The bit of `MON_BROKEN` of a slot, with its event where it goes from 0 to 1. -/
def Bolov.setBroken (k status : Nat) (b : Bolov) : Bolov :=
  let b1 := b.modMon (fun m => { m with broken := setBit m.broken k true })
  if b.mon.broken.getLsbD k then b1
  else b1.raise pgMon (if status = msWire then 0 else if status = msCompliance then 1 else 2)

/-- A record is published: it is held in `MON_SLOTk_LAST`; a guard converter's goes nowhere else (R300). -/
def Bolov.monPublish (n : Fin 4) (k status : Nat) (settled ovf : Bool) (code : Int) (b : Bolov) : Bolov :=
  let pol := decide (status ≠ msConflict ∧ status ≠ msInvalid) && b.polarity k
  let w1 := monWord (b.conv n).seq.toNat status settled ovf pol code
  let b1 := b.modMon (fun m => { m with last := fset 0 m.last k w1, lastAt := fset 0 m.lastAt k b.up })
  let b2 := if (b.conv n).guardOn then b1
    else
      let b' := b1.qOffer qMonResult [word64 [(4, k), (2, n.val), (10, 0), (48, b.tick.toNat)], w1]
      if b1.qRoom qMonResult then b' else b'.raise pgMon 5
  if status = msValid then b2.modMon (fun m => { m with broken := setBit m.broken k false })
  else if status = msWire ∨ status = msCompliance ∨ status = msOpen then b2.setBroken k status
  else if status = msConflict ∨ status = msInvalid then b2.raise pgMon 3
  else b2

/-! ### Sequences (R281, R288, R289) -/

/-- `MON_Cn_START.src`, and the timer period in ticks. -/
def Bolov.convSrc (b : Bolov) (n : Fin 4) : Nat := b.regFld (Reg.MON_C_START n) 29 28
def Bolov.timerTicks (b : Bolov) (n : Fin 4) : Nat :=
  max 1 (cap 60000 (b.regFld (Reg.MON_C_START n) 15 0)) * ticksMs

/-- Half the PWM period in ticks. -/
def Bolov.pwmHalf (b : Bolov) : Nat := max 100 (b.regFld Reg.MON_PWM 15 0) * 160

/-- A PWM edge is one that a converter chooses. -/
def Bolov.pwmChosen (b : Bolov) (n : Fin 4) (rising : Bool) : Bool :=
  match b.regFld (Reg.MON_C_START n) 27 26 with
  | 0 => rising
  | 1 => !rising
  | _ => true

/-- The delay of a converter after a PWM edge, in ticks. -/
def Bolov.pwmDelay (b : Bolov) (n : Fin 4) : Nat := b.regFld (Reg.MON_C_DELAY n) 15 0 * ticksUs

/-- The edges of the PWM within the next millisecond, as its last edge gives them. -/
def Bolov.pwmComing (b : Bolov) : List (Nat × Bool) :=
  match b.mon.edges with
  | e :: _ =>
    if b.regBit Reg.MON_PWM 31 then
      (List.range 21).map (fun i => (e.1 + (i + 1) * b.pwmHalf, if i % 2 = 0 then !e.2 else e.2))
    else []
  | [] => []

/-- The next start of a converter is due within 1 ms (R288). -/
def Bolov.startSoon (b : Bolov) (n : Fin 4) : Bool :=
  let due := fun (u : Nat) => decide (b.up ≤ u ∧ u ≤ b.up + ticksMs)
  match b.convSrc n with
  | 1 => due ((b.conv n).timerFrom + b.timerTicks n)
  | 2 => (b.pwmComing ++ b.mon.edges).any (fun e => b.pwmChosen n e.2 && due (e.1 + b.pwmDelay n))
  | 3 => b.regBit Reg.MON_CTRL 29 && b.convSrc 0 == 1 && due ((b.conv 0).timerFrom + b.timerTicks 0)
  | _ => false

/-- The sequence of a converter ends. -/
def Bolov.seqEnd (n : Fin 4) (b : Bolov) : Bolov :=
  let keep := (b.conv n).powered && b.startSoon n
  b.modConv n (fun c => { c with running := false, startup := none, settleFrom := none, powered := keep })

/-- A conversion begins: with a start-up delay where the converter is powered down, or where `delay` asks for one, and with
the rest of one that still runs. -/
def Bolov.convBegin (n : Fin 4) (k : Nat) (delay : Bool) (b : Bolov) : Bolov :=
  b.modConv n (fun c =>
    let wait := delay || !c.powered
    { c with
      running := true
      slot := k
      powered := true
      began := b.up
      excAt := b.up
      startup := if wait then some b.up else c.startup
      settleFrom := if wait || c.startup.isSome then none else some b.up })

/-- The sequence goes on with the first of these slots that can be converted. -/
def Bolov.seqNext (n : Fin 4) (delay : Bool) : List Nat → Bolov → Bolov
  | [], b => b.seqEnd n
  | k :: l, b =>
    if b.slotInvalid k then (b.monPublish n k msInvalid false false 0).seqNext n delay l
    else if b.slotConflict n k then (b.monPublish n k msConflict false false 0).seqNext n delay l
    else b.convBegin n k delay

/-- The conversion of a converter is over. -/
def Bolov.convOver (n : Fin 4) (b : Bolov) : Bolov :=
  let k := (b.conv n).slot
  (b.modConv n (fun c => { c with running := false })).seqNext n false ((b.slotsOf n).filter (fun j => decide (k < j)))

/-- A start of a converter (R290); a guard converter takes none (R300). -/
def Bolov.convStart (n : Fin 4) (delay : Bool) (b : Bolov) : Bolov :=
  if !b.monOn || b.isGuard n then b
  else if (b.conv n).running then (b.count (Reg.MON_C_MISS n) 1).raise pgMon 4
  else (b.modConv n (fun c => { c with seq := c.seq + 1 })).seqNext n delay (b.slotsOf n)

/-- The converters of a common start: equal start-up delays (R289). -/
def Bolov.commonStart (b : Bolov) : Bolov :=
  let all := ([0, 1, 2, 3] : List (Fin 4)).filter (fun n => b.convSrc n == 3)
  let delay := all.any (fun n => !(b.conv n).running && !(b.conv n).powered && !b.isGuard n && !(b.slotsOf n).isEmpty)
  forAll all (fun n => Bolov.convStart n delay) b

/-! ### Guard converters (R300) -/

/-- A guard converter meets its conditions. -/
def Bolov.guardFit (b : Bolov) (n : Fin 4) : Bool :=
  match b.slotsOf n with
  | [k] => !b.slotChop k && b.convSrc n == 0
  | _ => false

/-- A guard converter begins its slot; one that cannot be converted has a fault record. -/
def Bolov.guardBegin (n : Fin 4) (b : Bolov) : Bolov :=
  let k := (b.slotsOf n).headD 0
  let b1 := b.modConv n (fun c =>
    { c with
      guardOn := true
      slot := k
      began := b.up
      excAt := b.up
      guardSettled := false
      guardFault := none
      powered := true
      guardNext := b.up + (if c.powered then 0 else 80000) + b.settleTicks k })
  let status := if b.slotInvalid k then msInvalid else if b.slotConflict n k then msConflict else msValid
  if status = msValid then b1
  else (b1.monPublish n k status false false 0).modConv n (fun c => { c with guardOn := false, guardFault := some b.up })

/-- A guard converter starts or stops as its conditions stand. -/
def Bolov.guardSync (n : Fin 4) (b : Bolov) : Bolov :=
  let c := b.conv n
  if b.isGuard n && b.monOn && b.guardFit n then
    if c.guardOn ∨ c.guardFault.isSome ∨ c.running then b else b.guardBegin n
  else if c.guardOn ∨ c.guardFault.isSome then
    b.modConv n (fun c => { c with guardOn := false, guardFault := none, powered := false })
  else b

/-- All guard converters. -/
def Bolov.guardSyncAll (b : Bolov) : Bolov := forAll [0, 1, 2, 3] Bolov.guardSync b

/-- GUARD_CONV_OUTPUT. -/
def Bolov.guardOutput (n : Fin 4) (pins : MonPins) (err : Int) (b : Bolov) : Bolov :=
  let c := b.conv n
  if c.guardOn && decide (c.guardNext ≤ b.up) then
    let k := c.slot
    let (code, ovf) := b.monCode k pins err
    if ovf && b.slotBurnout k then
      (b.monPublish n k msOpen true true 0).modConv n (fun c => { c with guardOn := false, guardFault := some b.up })
    else (b.monPublish n k msValid true ovf code).modConv n (fun c =>
      { c with guardSettled := true, guardNext := c.guardNext + periodUs (b.slotRate k) * ticksUs })
  else b

/-- GUARD_CONV_RESTART. -/
def Bolov.guardRestart (n : Fin 4) (b : Bolov) : Bolov :=
  match (b.conv n).guardFault with
  | some u => if u + 10 * ticksMs ≤ b.up then (b.modConv n (fun c => { c with guardFault := none })).guardSync n else b
  | none => b

/-! ### Settling, force, faults (R291 to R293) -/

/-- A converting slot begins to settle again. -/
def Bolov.resettle (n : Fin 4) (b : Bolov) : Bolov :=
  b.modConv n (fun c =>
    { c with
      settleFrom := if c.startup.isSome then none else some b.up
      guardSettled := false
      guardNext := if c.guardOn then b.up + b.settleTicks c.slot else c.guardNext })

/-- MON_STARTUP_DELAY_END: 250 µs. -/
def Bolov.startupEnd (n : Fin 4) (b : Bolov) : Bolov :=
  match (b.conv n).startup with
  | some u =>
    if u + 80000 ≤ b.up ∧ (b.conv n).running then b.modConv n (fun c => { c with startup := none, settleFrom := some b.up }) else b
  | none => b

/-- The filter of a running conversion has settled. -/
def Bolov.convSettled (b : Bolov) (n : Fin 4) : Bool :=
  match (b.conv n).settleFrom with
  | some u => decide (u + b.settleTicks (b.conv n).slot ≤ b.up)
  | none => false

/-- MON_CONVERSION_SETTLED. -/
def Bolov.settled (n : Fin 4) (pins : MonPins) (err : Int) (b : Bolov) : Bolov :=
  if (b.conv n).running && b.convSettled n then
    let k := (b.conv n).slot
    let (code, ovf) := b.monCode k pins err
    (if ovf && b.slotBurnout k then b.monPublish n k msOpen true true 0 else b.monPublish n k msValid true ovf code).convOver n
  else b

/-- The active conversion publishes its filter output as early. -/
def Bolov.early (n : Fin 4) (pins : MonPins) (err : Int) (b : Bolov) : Bolov :=
  if (b.conv n).running then
    let (code, ovf) := b.monCode (b.conv n).slot pins err
    (b.monPublish n (b.conv n).slot msEarly false ovf code).convOver n
  else b

/-- MON_SETTLE_TIMEOUT: four settling times after the conversion's start. -/
def Bolov.settleTimeout (n : Fin 4) (pins : MonPins) (err : Int) (b : Bolov) : Bolov :=
  if !b.convSettled n && decide ((b.conv n).began + 4 * b.settleTicks (b.conv n).slot ≤ b.up) then b.early n pins err else b

/-- A conversion publishes a record without a number and is over; a guard converter waits as after a fault (R300). -/
def Bolov.abandon (n : Fin 4) (status : Nat) (b : Bolov) : Bolov :=
  let k := (b.conv n).slot
  if (b.conv n).guardOn then
    (b.monPublish n k status false false 0).modConv n (fun c => { c with guardOn := false, guardFault := some b.up })
  else if (b.conv n).running then (b.monPublish n k status false false 0).convOver n
  else b

/-- The fault that the excitation monitor finds, if any: a current below 90% of the programmed one; a current DAC whose pin is
nearer than 0.40 V to VDD_ANA; a voltage source above 6 mA. -/
def Bolov.excStatus (b : Bolov) (k : Nat) (e : ExcSense) : Option Nat :=
  match b.slotSrc k with
  | 0 => none
  | 3 => if 6000000 < e.current then some msCompliance else none
  | _ =>
    if e.current < 900 * b.excCurrent k then some msWire
    else if e.room < 400000000 then some msCompliance
    else none

/-- MON_EXCITATION_FAULT: nothing is found in the first 5 µs. -/
def Bolov.excFault (n : Fin 4) (e : ExcSense) (b : Bolov) : Bolov :=
  if (b.conv n).excAt + 1600 ≤ b.up then
    match b.excStatus (b.conv n).slot e with
    | some status => b.abandon n status
    | none => b
  else b

/-! ### Writes (R291, R294) -/

/-- The conversion of a slot is aborted and the sequence goes on. -/
def Bolov.abortSlot (n : Fin 4) (b : Bolov) : Bolov :=
  let c := b.conv n
  if c.guardOn then
    (b.monPublish n c.slot msAborted false false 0).modConv n (fun c => { c with guardOn := false, powered := false })
  else if c.running then (b.monPublish n c.slot msAborted false false 0).convOver n
  else b

/-- The converters that convert a slot. -/
def Bolov.convsOn (b : Bolov) (k : Nat) : List (Fin 4) :=
  ([0, 1, 2, 3] : List (Fin 4)).filter (fun n => ((b.conv n).running || (b.conv n).guardOn) && (b.conv n).slot == k)

/-- A write has reached the slot that a converter converts: it settles again (R291). DEDUCED (log 190): where the slot now drives a
pin twice, or a pin or source that another converter holds, the conversion is over as R282 and R283 say of one that begins. -/
def Bolov.slotRewritten (n : Fin 4) (conv : Bool) (b : Bolov) : Bolov :=
  let k := (b.conv n).slot
  if b.slotInvalid k then b.abandon n msInvalid
  else if b.slotConflict n k then b.abandon n msConflict
  else (b.resettle n).modConv n (fun c => { c with excAt := if conv then b.up else c.excAt })

/-- A write to `MON_SLOTk_ROUTE` or `MON_SLOTk_CONV`. -/
def Bolov.slotWrite (k : Nat) (conv : Bool) (v : Word) (b : Bolov) : Bolov :=
  let addr := if conv then Reg.MON_SLOT_CONV k else Reg.MON_SLOT_ROUTE k
  let mask : Word := if conv then 0xFFFFFFFC#32 else 0xBFFFFFE0#32
  let b1 := b.setReg addr (v &&& mask)
  let b2 := forAll (b.convsOn k) (fun n b =>
    if !conv && !bit v.toNat 31 then b.abortSlot n else b.slotRewritten n conv) b1
  b2.guardSyncAll

/-- `MON_CTRL.en` is cleared: conversions are aborted and no sequence goes on. -/
def Bolov.monDisable (b : Bolov) : Bolov :=
  forAll [0, 1, 2, 3] (fun n b =>
    let c := b.conv n
    let b1 := if c.running || c.guardOn then b.monPublish n c.slot msAborted false false 0 else b
    b1.modConv n (fun c => { c with running := false, startup := none, settleFrom := none, powered := false,
                                    guardOn := false, guardFault := none })) b

/-- `MON_CTRL.count_clear`. -/
def Bolov.monClear (b : Bolov) : Bolov :=
  forUpTo 4 (fun n => Bolov.clearCtr (Reg.MON_C_MISS n) 0) (b.clearCtr Reg.MON_RESULT_LOST 0)

/-- A write of `MON_CTRL`. -/
def Bolov.monCtrlWrite (v : Word) (b : Bolov) : Bolov :=
  let was := b.monOn
  let b1 := b.setReg Reg.MON_CTRL (v &&& 0x20000001#32)
  let b2 := if was && !b1.monOn then b1.monDisable else b1.guardSyncAll
  let b3 := if bit v.toNat 31 then b2.monClear else b2
  if bit v.toNat 30 then b3.commonStart else b3

/-- A write of `MON_PWM`: a change restarts chopped conversions. -/
def Bolov.monPwmWrite (v : Word) (b : Bolov) : Bolov :=
  let old := b.reg Reg.MON_PWM
  let b1 := b.setReg Reg.MON_PWM (v &&& 0x8000FFFF#32)
  let b2 := if !bit old.toNat 31 && bit v.toNat 31 then b1.modMon (fun m => { m with edges := [] }) else b1
  if b1.reg Reg.MON_PWM = old then b2
  else forAll [0, 1, 2, 3] (fun n b =>
    if (b.conv n).running && b.slotChop (b.conv n).slot then b.resettle n else b) b2

/-- A write of `MON_Cn_START`: the timer counts from the write that sets it as the source. -/
def Bolov.convStartWrite (n : Fin 4) (v : Word) (b : Bolov) : Bolov :=
  let set := decide (fld v 29 28 = 1 ∧ b.convSrc n ≠ 1)
  let b1 := (b.setReg (Reg.MON_C_START n) (v &&& 0x3C00FFFF#32)).modConv n (fun c =>
    { c with timerFrom := if set then b.up else c.timerFrom })
  let b2 := b1.guardSync n
  let b3 := if bit v.toNat 31 then b2.early n (Config.filterPins n b.up) (Config.filterError n b.up) else b2
  if bit v.toNat 30 then b3.convStart n false else b3

/-! ### Timers and PWM (R285, R289) -/

/-- MON_TIMER_START. -/
def Bolov.timerStart (n : Fin 4) (b : Bolov) : Bolov :=
  if b.convSrc n = 1 ∧ (b.conv n).timerFrom + b.timerTicks n ≤ b.up then
    let b1 := (b.modConv n (fun c => { c with timerFrom := b.up })).convStart n false
    if n = 0 ∧ b.regBit Reg.MON_CTRL 29 then b1.commonStart else b1
  else b

/-- MON_PWM_EDGE: chopped conversions exchange their pins. -/
def Bolov.pwmEdge (b : Bolov) : Bolov :=
  let due := match b.mon.edges with | e :: _ => decide (e.1 + b.pwmHalf ≤ b.up) | [] => true
  if b.domOn 76 && b.regBit Reg.MON_PWM 31 && due then
    let b1 := b.modMon (fun m =>
      { m with level := !m.level, edges := (b.up, !m.level) :: m.edges.filter (fun e => decide (b.up ≤ e.1 + 65536 * ticksUs)) })
    forAll [0, 1, 2, 3] (fun n b =>
      if (b.conv n).running && b.slotChop (b.conv n).slot then
        (b.resettle n).modConv n (fun c => { c with excAt := b.up })
      else b) b1
  else b

/-- MON_PWM_DELAY_START: one start for an edge. -/
def Bolov.pwmStart (n : Fin 4) (b : Bolov) : Bolov :=
  if b.convSrc n == 2 && (b.conv n).pwmFrom != some b.up &&
      b.mon.edges.any (fun e => b.pwmChosen n e.2 && e.1 + b.pwmDelay n == b.up) then
    (b.modConv n (fun c => { c with pwmFrom := some b.up })).convStart n false
  else b

/-- The monitor's domain goes off, and comes on as after reset (R368). -/
def Bolov.monStop (b : Bolov) : Bolov := b.modMon (fun m => { m with
  convs := m.convs.map (fun c => { seq := c.seq, timerFrom := c.timerFrom }) })
def Bolov.monFresh (b : Bolov) : Bolov :=
  { b with mon := {}, regs := b.regs.filter (fun e => e.1 / 0x1000 != pgMon),
           counters := b.counters.filter (fun e => e.1 % 2 ^ 24 / 0x1000 != pgMon) }

/-! ### Meanings -/

/-- MON_CONVERTER_GO (R289). -/
def execMonConverterGo (converter : Fin 4) (s : State) : Out := onB s (Bolov.convStart converter false)

/-- MON_COMMON_GO (R289). -/
def execMonCommonGo (s : State) : Out := onB s Bolov.commonStart

/-- MON_TIMER_START (R289). -/
def execMonTimerStart (converter : Fin 4) (t : Tick) (s : State) : Out := atB t s (Bolov.timerStart converter)

/-- MON_PWM_EDGE (R285). -/
def execMonPwmEdge (t : Tick) (s : State) : Out := atB t s Bolov.pwmEdge

/-- MON_PWM_DELAY_START (R289). -/
def execMonPwmDelayStart (converter : Fin 4) (t : Tick) (s : State) : Out := atB t s (Bolov.pwmStart converter)

/-- MON_STARTUP_DELAY_END (R288). -/
def execMonStartupDelayEnd (converter : Fin 4) (t : Tick) (s : State) : Out := atB t s (Bolov.startupEnd converter)

/-- MON_CONVERSION_SETTLED (R287). -/
def execMonConversionSettled (converter : Fin 4) (pins : MonPins) (err : Int) (t : Tick) (s : State) : Out :=
  atB t s (fun b => (b.settled converter pins err).guardSync converter)

/-- MON_SETTLE_TIMEOUT (R291). -/
def execMonSettleTimeout (converter : Fin 4) (pins : MonPins) (err : Int) (t : Tick) (s : State) : Out :=
  atB t s (fun b => (b.settleTimeout converter pins err).guardSync converter)

/-- MON_FORCE (R291). -/
def execMonForce (converter : Fin 4) (pins : MonPins) (err : Int) (s : State) : Out :=
  onB s (fun b => (b.early converter pins err).guardSync converter)

/-- MON_SLOT_WRITE (R291). -/
def execMonSlotWrite (slot : Fin 16) (conv : Bool) (value : Word) (s : State) : Out := onB s (Bolov.slotWrite slot conv value)

/-- MON_EXCITATION_FAULT (R292). -/
def execMonExcitationFault (converter : Fin 4) (sense : ExcSense) (t : Tick) (s : State) : Out :=
  atB t s (fun b => (b.excFault converter sense).guardSync converter)

/-- MON_DISABLE_ABORT (R294): `MON_CTRL.en` is cleared, or the en of a slot. -/
def execMonDisableAbort (slot : Option (Fin 16)) (s : State) : Out :=
  onB s (fun b => match slot with
    | none => b.monCtrlWrite (b.reg Reg.MON_CTRL &&& 0x20000000#32)
    | some k => b.slotWrite k false (setBit (b.reg (Reg.MON_SLOT_ROUTE k)) 31 false))

/-- MON_COUNT_CLEAR (R296). -/
def execMonCountClear (s : State) : Out := onB s Bolov.monClear

/-- GUARD_CONV_OUTPUT (R300). -/
def execGuardConvOutput (converter : Fin 4) (pins : MonPins) (err : Int) (t : Tick) (s : State) : Out :=
  atB t s (Bolov.guardOutput converter pins err)

/-- GUARD_CONV_RESTART (R300). -/
def execGuardConvRestart (converter : Fin 4) (t : Tick) (s : State) : Out := atB t s (Bolov.guardRestart converter)

end Sys2Proof.Machine
end

