-- ==== Sys2Proof/Machine/Sha.lean ====
section
/-!
DEFINITION. SHA-256 over a string of bytes (16 R307, R309; 19 R350 to R361). The spec names the algorithm (FIPS 180-4) and
does not restate it. Message, schedule window and working words are each one number, most significant word first.
-/

namespace Sys2Proof.Machine

/-- The 64 round constants as one number of 2,048 bits, that of round 0 on top. -/
def shaConstants : Nat :=
  0x428a2f9871374491b5c0fbcfe9b5dba53956c25b59f111f1923f82a4ab1c5ed5d807aa9812835b01243185be550c7dc372be5d7480deb1fe9bdc06a7c19bf174e49b69c1efbe47860fc19dc6240ca1cc2de92c6f4a7484aa5cb0a9dc76f988da983e5152a831c66db00327c8bf597fc7c6e00bf3d5a7914706ca63511429296727b70a852e1b21384d2c6dfc53380d13650a7354766a0abb81c2c92e92722c85a2bfe8a1a81a664bc24b8b70c76c51a3d192e819d6990624f40e3585106aa07019a4c1161e376c082748774c34b0bcb5391c0cb34ed8aa4a5b9cca4f682e6ff3748f82ee78a5636f84c878148cc7020890befffaa4506cebbef9a3f7c67178f2

/-- The chaining value before the first block. -/
def shaStart : Nat := 0x6a09e667bb67ae853c6ef372a54ff53a510e527f9b05688c1f83d9ab5be0cd19

/-- Word `k` of a number of 32-bit words, counted from the least significant. -/
def shaWord (x k : Nat) : Nat := x / 2 ^ (32 * k) % 2 ^ 32

/-- A word turned right by `n` bits: the low half of the doubled word, shifted. -/
def shaTurn (n x : Nat) : Nat := x * (2 ^ 32 + 1) / 2 ^ n % 2 ^ 32

/-- A word turned by each of the given amounts, the results added without carry. -/
def shaMix (turns : List Nat) (x : Nat) : Nat := turns.foldl (fun acc n => acc ^^^ shaTurn n x) 0

/-- The schedule window of 16 words moves on by one word: its oldest word leaves at the top, a new one enters below. -/
def shaSlide (w : Nat) : Nat :=
  let old := shaWord w
  let fresh := old 15 + old 6 + (shaMix [7, 18] (old 14) ^^^ old 14 / 8) + (shaMix [17, 19] (old 1) ^^^ old 1 / 1024)
  w * 2 ^ 32 % 2 ^ 512 + fresh % 2 ^ 32

/-- Round `i` on the working words, a on top (word 7) and h below (word 0), with the window's oldest word: every word moves
down one place, the first sum enters at the top and is added to the word that arrives in the place of e. -/
def shaStep (i w v : Nat) : Nat :=
  let x := shaWord v
  let choice := x 1 ^^^ (x 3 &&& (x 2 ^^^ x 1))
  let most := (x 7 &&& x 6) ||| (x 5 &&& (x 7 ||| x 6))
  let sum := x 0 + choice + shaMix [6, 11, 25] (x 3) + shaWord w 15 + shaWord shaConstants (63 - i)
  let moved := v / 2 ^ 32
  let top := (sum + most + shaMix [2, 13, 22] (x 7)) % 2 ^ 32
  moved - x 4 * 2 ^ 96 + (x 4 + sum) % 2 ^ 32 * 2 ^ 96 + top * 2 ^ 224

/-- A block of 512 bits into the chaining value: 64 rounds, then word-wise sums. -/
def shaCompress (block h : Nat) : Nat :=
  let last := (forUpTo 64 (fun i (p : Nat × Nat) => (shaSlide p.1, shaStep i p.1 p.2)) (block, h)).2
  forUpTo 8 (fun k acc => acc + (shaWord last k + shaWord h k) % 2 ^ 32 * 2 ^ (32 * k)) 0

/-- SHA-256 of a string of bytes, as a number of 256 bits: the message, a one bit, zero bits and the length in bits fill
whole blocks. -/
def sha256 (l : List Nat) : BitVec 256 :=
  let bits := 8 * l.length
  let blocks := (l.length + 72) / 64
  let room := 512 * blocks - bits
  let padded := ofBytes l * 2 ^ room + 2 ^ (room - 1) + bits
  BitVec.ofNat 256 (forUpTo blocks (fun i h => shaCompress (padded / 2 ^ (512 * (blocks - 1 - i)) % 2 ^ 512) h) shaStart)

end Sys2Proof.Machine
end

