-- ==== Sys2Proof/Machine/Guard.lean ====
section
/-!
DEFINITION. The Guard: rules, inputs, outputs, password, sessions and the change log (16 R297 to R313).
-/

namespace Sys2Proof.Machine

/-- The Guard page. -/
def pgGrd : Nat := 0x00E

/-- Change the Guard. -/
def Bolov.modGrd (f : GuardState → GuardState) (b : Bolov) : Bolov := { b with grd := f b.grd }

/-! ### Change log (R309, R310) -/

/-- Kinds of entries. -/
def gkConfig : Nat := 0x01
def gkUnlock : Nat := 0x02
def gkUnlockFailed : Nat := 0x03
def gkLockout : Nat := 0x04
def gkSessionEnd : Nat := 0x05
def gkPassword : Nat := 0x06
def gkArm : Nat := 0x07
def gkArmRefused : Nat := 0x08
def gkHostOff : Nat := 0x09
def gkTrip : Nat := 0x0A
def gkStart : Nat := 0x0B

/-- The bytes of words, most significant first. -/
def recordBytes (l : List W64) : List Nat := l.flatMap (fun w => bytesOf 8 w.toNat)

/-- The words of an entry. -/
def Bolov.logWords (b : Bolov) (kind mask off old new : Nat) : List W64 :=
  let ns := b.time.tod / 2 ^ 32
  let h := b.grd.head.toNat
  [word64 [(32, b.grd.logSeq), (8, kind), (8, mask), (16, if b.grd.opened then b.grd.session.toNat else 0)],
   BitVec.ofNat 64 (ns / 1000000000),
   word64 [(1, b2n b.time.todValid), (1, 0), (30, ns % 1000000000), (16, off), (16, 0)],
   word64 [(32, old), (32, new)]] ++
  (if b.grd.logSeq = 0 then [0, 0, 0, 0]
   else (List.range 4).map (fun i => BitVec.ofNat 64 (h / 2 ^ (64 * (3 - i)))))

/-- The flash fails an append. -/
def Bolov.logFault (b : Bolov) : Bolov := (b.setRegBit Reg.GRD_STATUS 28 true).raise pgGrd 6

/-- An entry is appended, where the flash takes it: a full log loses its oldest sector, whose last hash becomes the
anchor; the GUARD_LOG queue takes a copy. -/
def Bolov.logAppend (flash : Bool) (kind mask off old new : Nat) (b : Bolov) : Bolov :=
  if flash then
    let w := b.logWords kind mask off old new
    let full := decide (b.grd.log.length ≥ 16384)
    let b1 := b.modGrd (fun g =>
      { g with
        log := (if full then g.log.drop 256 else g.log) ++ [w]
        anchor := if full then sha256 (recordBytes (g.log.getD 255 [])) else g.anchor
        logSeq := g.logSeq + 1
        head := sha256 (recordBytes w) })
    b1.qOffer qGuardLog w
  else b.logFault

/-! ### Conditions (R297, R302) -/

/-- p_ok as it reads: 0 while it is stale. -/
def Bolov.pOk (b : Bolov) : BitVec 4 := if b.grd.pAlive then b.grd.pOk else 0

/-- Every enabled input that governs an output is in its window. -/
def Bolov.hClear (b : Bolov) (g : Nat) : Bool :=
  (List.range 4).all (fun i =>
    let c := b.reg (Reg.GRD_H_CFG i)
    !(bit c.toNat 31 && bit c.toNat (24 + g)) || b.grd.hOk.getLsbD i)

/-- The conditions that fail for an output: bit 2 P, 1 H, 0 ILK. -/
def Bolov.failsNow (b : Bolov) (g : Nat) : BitVec 3 :=
  BitVec.ofNat 3 (pack [(1, b2n (!b.pOk.getLsbD g)), (1, b2n (!b.hClear g)), (1, b2n (!b.grd.ilk))])

/-- Seconds for which the conditions of an output have been clear, saturating. -/
def Bolov.clearSeconds (b : Bolov) (g : Fin 4) : Nat :=
  match b.grd.clearSince[g] with
  | some u => cap 65535 ((b.up - u) / ticksS)
  | none => 0

/-- `GRD_OUTg_STATE`. -/
def Bolov.outState (b : Bolov) (g : Fin 4) : Nat :=
  pack [(16, b.clearSeconds g), (3, b.grd.first[g]), (5, 0), (6, b.grd.causes[g].toNat), (2, 0)]

/-- The offset of `GRD_OUTg_STATE`. -/
def outOffset (g : Fin 4) : Nat := 0x040 + 4 * g.val

/-- The first cause that a set of cause bits names: 1 P, 2 H, 3 ILK, 4 read-back, 5 host off. -/
def firstCause (c : BitVec 6) : Nat :=
  if c.getLsbD 5 then 1 else if c.getLsbD 4 then 2 else if c.getLsbD 3 then 3 else if c.getLsbD 2 then 4
  else if c.getLsbD 1 then 5 else 6

/-- A trip (R305): the cause bits are set; an output that permitted also trips: first cause, event, entry. -/
def Bolov.trip (flash : Bool) (g : Fin 4) (causes : BitVec 6) (b : Bolov) : Bolov :=
  let old := b.outState g
  let b1 := b.modGrd (fun x =>
    { x with
      causes := x.causes.set g (x.causes[g] ||| causes)
      first := if x.causes[g] = 0 then x.first.set g (firstCause causes) else x.first })
  if b.grd.on.getLsbD g then
    let b2 := (b1.modGrd (fun x => { x with on := setBit x.on g false, changedAt := x.changedAt.set g b.up })).raise pgGrd 0
    b2.logAppend flash gkTrip (2 ^ g.val) (outOffset g) old (b2.outState g)
  else b1

/-- The conditions of an output are looked at: what fails anew trips it, and its clear time starts or ends. -/
def Bolov.guardOut (flash : Bool) (g : Fin 4) (b : Bolov) : Bolov :=
  let now := b.failsNow g
  let fresh := now &&& ~~~ b.grd.fails[g]
  let b1 := b.modGrd (fun x =>
    { x with
      fails := x.fails.set g now
      clearSince := x.clearSince.set g (if now = 0 then (match x.clearSince[g] with | some u => some u | none => some b.up)
        else none) })
  if fresh = 0 then b1 else b1.trip flash g (fresh.setWidth 6 <<< 3)

/-- All outputs. -/
def Bolov.guardCheck (flash : Bool) (b : Bolov) : Bolov := forAll [0, 1, 2, 3] (Bolov.guardOut flash) b

/-! ### Rules (R301) -/

/-- e^-z for 0 ≤ z ≤ 8, times 2^160: e^(z/16) by its series and four squarings, then the inverse. -/
def expNeg (z : Rat) : Nat :=
  let one : Nat := 2 ^ 160
  let x : Nat := (z.num.toNat * one) / (z.den * 16)
  let series := (List.range 40).foldl (fun (acc : Nat × Nat) i =>
    let term := acc.2 * x / one / (i + 1)
    (acc.1 + term, term)) (one, one)
  let e := (List.range 4).foldl (fun v _ => v * v / one) series.1
  one * one / e

/-- ln h ≤ y, for a rational h from 0.001 to 1. -/
def lnLe (h y : Rat) : Bool :=
  if y ≥ 0 then true
  else if y < -8 then false
  else decide (h.num.toNat * 2 ^ 160 ≤ expNeg (-y) * h.den)

/-- The dew point condition T_c − T_d ≥ lo of R301, T_d by its formula, which has no value at T_a = −243.12 °C (DESIGN CHOICE, log
191: a free value there). -/
def dewClear (ta hum tc lo : Rat) : Bool :=
  let h : Rat := (if hum < 1 / 10 then 1 / 10 else if hum > 100 then 100 else hum) / 100
  let m := tc - lo
  let a := (1762 / 100) * ta / (24312 / 100 + ta)
  let c := 24312 / 100 + m
  let y := (1762 / 100) * m / c - a
  let gammaLow := lnLe h (1762 / 100 - a)
  if ta = -24312 / 100 then Config.dewPole hum tc lo
  else if gammaLow then decide (c > 0) && lnLe h y else decide (c ≥ 0) || lnLe h y

/-- The quantity of a slot (R301). -/
def Bolov.quantity (b : Bolov) (k : Nat) : Rat :=
  let code := signed 24 (fget 0 b.mon.last k).toNat
  let gain := signed 32 (b.reg (Reg.GRD_SCALE_GAIN k)).toNat
  let offset := signed 32 (b.reg (Reg.GRD_SCALE_OFFSET k)).toNat
  mkRat (code * gain + offset * 2 ^ 24) (2 ^ 32)

/-- A slot's record is valid and not older than a number of ms. -/
def Bolov.slotFresh (b : Bolov) (ms k : Nat) : Bool :=
  let w := fget 0 b.mon.last k
  fld w 47 44 == 1 && decide (b.up ≤ fget 0 b.mon.lastAt k + ms * ticksMs)

/-- A rule is clear. -/
def Bolov.ruleClear (b : Bolov) (r : Nat) : Bool :=
  let cfg := b.reg (Reg.GRD_P_CFG r)
  let sa := fld cfg 23 20
  let sb := fld cfg 19 16
  let sc := fld cfg 15 12
  let ms := max 1 (fld cfg 9 0)
  let lo : Rat := mkRat (signed 32 (b.reg (Reg.GRD_P r)).toNat) 256
  let hi : Rat := mkRat (signed 32 (b.reg (Reg.GRD_P r + 4)).toNat) 256
  if bit cfg.toNat 30 then
    b.slotFresh ms sa && b.slotFresh ms sb && b.slotFresh ms sc && dewClear (b.quantity sa) (b.quantity sb) (b.quantity sc) lo
  else b.slotFresh ms sa && decide (lo ≤ b.quantity sa ∧ b.quantity sa ≤ hi)

/-- p_ok as the rules stand at their last evaluation. -/
def Bolov.pOkOf (b : Bolov) : BitVec 4 :=
  BitVec.ofNat 4 (pack ((List.range 4).map (fun i => (1, b2n ((List.range 16).all (fun r =>
    let cfg := b.reg (Reg.GRD_P_CFG r)
    !(bit cfg.toNat 31 && bit cfg.toNat (24 + (3 - i))) || b.grd.pClear.getLsbD r))))))

/-- GUARD_P_OK_WRITE (R302): the supervisor runs no rules in recovery mode (R356). -/
def Bolov.pWrite (flash : Bool) (b : Bolov) : Bolov :=
  if b.sec.recovery then b else (b.modGrd (fun g => { g with pOk := b.pOkOf, pAt := b.up, pAlive := true })).guardCheck flash

/-- GUARD_RULE_EVAL (R301): p_ok follows at once. -/
def Bolov.rulesEval (flash : Bool) (b : Bolov) : Bolov :=
  if b.sec.recovery then b else (b.modGrd (fun g => { g with pClear := BitVec.ofNat 16 (pack ((List.range 16).map (fun i =>
    (1, b2n (b.ruleClear (15 - i)))))) })).pWrite flash

/-- GUARD_P_STALE. -/
def Bolov.pStale (flash : Bool) (b : Bolov) : Bolov :=
  if b.grd.pAlive && decide (b.grd.pAt + 10 * ticksMs ≤ b.up) then
    ((b.modGrd (fun g => { g with pAlive := false })).raise pgGrd 7).guardCheck flash
  else b

/-! ### Inputs (R298, R299) -/

/-- One sample of an enabled input, in µV. -/
def Bolov.hSample (i : Nat) (uv : Int) (b : Bolov) : Bolov :=
  let c := b.reg (Reg.GRD_H_CFG i)
  if bit c.toNat 31 then
    let lo : Int := fld c 15 8 * 10000
    let hi : Int := fld c 23 16 * 10000
    let filter := max 1 (cap 20 (fld c 4 0))
    if lo ≤ uv ∧ uv ≤ hi then b.modGrd (fun g => { g with hOk := setBit g.hOk i true, hCount := fset 0 g.hCount i 0 })
    else
      let n := fget 0 b.grd.hCount i + 1
      b.modGrd (fun g =>
        { g with
          hCount := fset 0 g.hCount i (cap 200 n)
          hOk := if n ≥ 10 * filter then setBit g.hOk i false else g.hOk })
  else b

/-- GUARD_IN_SAMPLE. -/
def Bolov.guardSample (v : Vector Int 4) (flash : Bool) (b : Bolov) : Bolov :=
  (forAll [0, 1, 2, 3] (fun (i : Fin 4) => Bolov.hSample i v[i]) b).guardCheck flash

/-- ILK_IN_OPEN and ILK_IN_CLOSE. -/
def Bolov.ilkSet (closed flash : Bool) (b : Bolov) : Bolov := (b.modGrd (fun g => { g with ilk := closed })).guardCheck flash

/-! ### Read-back (R303) -/

/-- A sample of the pins: bit g, HV_EN[g] reads high. -/
def Bolov.readbackSample (levels : BitVec 4) (flash : Bool) (b : Bolov) : Bolov :=
  forAll [0, 1, 2, 3] (fun (g : Fin 4) b =>
    let on := b.grd.on.getLsbD g
    let wait := if on then ticksMs else 2 * ticksMs
    if levels.getLsbD g == on && decide (b.grd.changedAt[g] + wait ≤ b.up) then (b.trip flash g 4).raise pgGrd 3 else b)
    (b.modGrd (fun x => { x with readback := levels }))

/-! ### Arm and off (R305, R306) -/

/-- An arm of an output is accepted. -/
def Bolov.armOk (b : Bolov) (g : Fin 4) : Bool :=
  b.grd.password.isSome && b.grd.readback.getLsbD g && b.failsNow g == 0 &&
    (match b.grd.clearSince[g] with
     | some u => decide (u + max 1 (b.regFld Reg.GRD_HOLD 7 0) * ticksS ≤ b.up)
     | none => false)

/-- An arm of an output is refused. -/
def Bolov.armRefused (flash : Bool) (g : Fin 4) (b : Bolov) : Bolov :=
  let old := b.outState g
  ((b.setRegBit Reg.GRD_STATUS (4 + g) true).raise pgGrd 2).logAppend flash gkArmRefused (2 ^ g.val) (outOffset g) old old

/-- Arm one output. -/
def Bolov.armOne (flash : Bool) (g : Fin 4) (b : Bolov) : Bolov :=
  let old := b.outState g
  if b.armOk g then
    let b1 := (b.modGrd (fun x =>
      { x with
        on := setBit x.on g true
        causes := x.causes.set g 0
        first := x.first.set g 0
        changedAt := x.changedAt.set g b.up })).raise pgGrd 1
    b1.logAppend flash gkArm (2 ^ g.val) (outOffset g) old (b1.outState g)
  else b.armRefused flash g

/-- GRD_CTRL.arm. -/
def Bolov.arm (mask : BitVec 4) (flash : Bool) (b : Bolov) : Bolov :=
  forAll (([0, 1, 2, 3] : List (Fin 4)).filter (fun (g : Fin 4) => mask.getLsbD g.val)) (Bolov.armOne flash) b

/-- Off for one output. -/
def Bolov.offOne (flash : Bool) (g : Fin 4) (b : Bolov) : Bolov :=
  let old := b.outState g
  let b1 := b.trip flash g 2
  b1.logAppend flash gkHostOff (2 ^ g.val) (outOffset g) old (b1.outState g)

/-- GRD_CTRL.off. -/
def Bolov.guardOff (mask : BitVec 4) (flash : Bool) (b : Bolov) : Bolov :=
  forAll (([0, 1, 2, 3] : List (Fin 4)).filter (fun (g : Fin 4) => mask.getLsbD g.val)) (Bolov.offOne flash) b

/-! ### Password and sessions (R307, R308) -/

/-- Post a result and clear the buffer. -/
def Bolov.pwResult (r : Nat) (b : Bolov) : Bolov := b.modGrd (fun g => { g with result := r, buffer := [] })

/-- A write of `GRD_PW_DATA`: four bytes; the longest password fills the buffer. -/
def Bolov.pwData (v : Word) (b : Bolov) : Bolov :=
  b.modGrd (fun g => { g with buffer := (g.buffer ++ (bytesOf 4 v.toNat).map (BitVec.ofNat 8)).take 64 })

/-- A lockout runs. -/
def Bolov.lockedOut (b : Bolov) : Bool := b.grd.lockEnd.isSome

/-- The length in `GRD_PW_LEN` is 12 to 64, and the password. -/
def Bolov.pwLenOk (b : Bolov) : Bool := decide (12 ≤ b.regFld Reg.GRD_PW_LEN 6 0 ∧ b.regFld Reg.GRD_PW_LEN 6 0 ≤ 64)
def Bolov.pwGiven (b : Bolov) : List Nat := (b.grd.buffer.take (b.regFld Reg.GRD_PW_LEN 6 0)).map BitVec.toNat

/-- A wrong password. -/
def Bolov.unlockFailed (flash : Bool) (b : Bolov) : Bolov :=
  let n := b.grd.failures + 1
  let b1 := ((b.modGrd (fun g => { g with failures := n })).raise pgGrd 4).logAppend flash gkUnlockFailed 0 0x020 0 0
  let b2 := b1.pwResult 1
  if n < 5 then b2
  else ((b2.modGrd (fun g => { g with lockEnd := some (b.up + 3600 * ticksS) })).raise pgGrd 5).logAppend flash gkLockout 0 0x020 0 0

/-- GRD_CTRL.unlock. -/
def Bolov.unlock (flash : Bool) (b : Bolov) : Bolov :=
  if b.lockedOut then b.pwResult 2
  else match b.grd.password with
    | none => b.pwResult 4
    | some (salt, digest) =>
      if !b.pwLenOk then b.pwResult 3
      else if Config.passwordDigest salt b.pwGiven = digest then
        if flash then
          ((b.modGrd (fun g =>
            { g with session := g.session + 1, opened := true, lockedAt := b.up, failures := 0 })).logAppend
              flash gkUnlock 0 0x020 0 0).pwResult 0
        else b.logFault.pwResult 5
      else b.unlockFailed flash

/-- The session ends. -/
def Bolov.sessionEnd (flash : Bool) (off : Nat) (b : Bolov) : Bolov :=
  if b.grd.opened then (b.logAppend flash gkSessionEnd 0 off 0 0).modGrd (fun g => { g with opened := false }) else b

/-- GRD_CTRL.set_pw. -/
def Bolov.setPw (flash : Bool) (b : Bolov) : Bolov :=
  if b.lockedOut then b.pwResult 2
  else if b.grd.password.isSome && !b.grd.opened then b.modGrd (fun g => { g with buffer := [] })
  else if !b.pwLenOk then b.pwResult 3
  else if flash then
    ((b.logAppend flash gkPassword 0 0x020 0 0).modGrd (fun g =>
      { g with salts := g.salts + 1, password := some (g.salts, Config.passwordDigest g.salts b.pwGiven) })).pwResult 0
  else b.logFault.pwResult 5

/-- GUARD_SESSION_TIMEOUT: 600 s without a locked write. -/
def Bolov.sessionTimeout (flash : Bool) (b : Bolov) : Bolov :=
  if b.grd.lockedAt + 600 * ticksS ≤ b.up then b.sessionEnd flash 0 else b

/-- GUARD_LOCKOUT_END. -/
def Bolov.lockoutEnd (b : Bolov) : Bolov :=
  match b.grd.lockEnd with
  | some u => if u ≤ b.up then b.modGrd (fun g => { g with lockEnd := none, failures := 0 }) else b
  | none => b

/-! ### Locked registers (R307, R310, R312) -/

/-- A register of the Guard page is locked. -/
def guardLocked (addr : Nat) : Bool :=
  decide (addr = Reg.GRD_HOLD ∨ addr = Reg.GRD_CONV ∨ (Reg.GRD_H_CFG 0 ≤ addr ∧ addr < Reg.GRD_H_CFG 4) ∨
    (Reg.GRD_P_CFG 0 ≤ addr ∧ addr < Reg.GRD_P_CFG 16 ∧ addr % 16 ≠ 12) ∨
    (Reg.GRD_SCALE_GAIN 0 ≤ addr ∧ addr < Reg.GRD_SCALE_GAIN 16))

/-- The mask of the RW fields of a Bolov register. -/
def bolovRw (addr : Nat) : Word :=
  match findRow (bolovRows (addr / 0x1000)) (addr % 0x1000) with
  | some (r, _) => BitVec.ofNat 32 r.rw
  | none => 0

/-- A write to a locked register: an entry first, then the effect. -/
def Bolov.lockedWrite (addr : Nat) (v : Word) (flash : Bool) (b : Bolov) : Bolov :=
  if !guardLocked addr ∨ addr % 4 ≠ 0 then b
  else if b.grd.password.isSome && !b.grd.opened then b.setRegBit Reg.GRD_STATUS 27 true
  else
    let new := v &&& bolovRw addr
    let b1 := b.logAppend flash gkConfig 0 (addr % 0x1000) (b.reg addr).toNat new.toNat
    if flash then
      (((b1.setReg addr new).modGrd (fun g => { g with lockedAt := b.up })).guardSyncAll).guardCheck flash
    else b1

/-- A write of `GRD_CTRL`: off governs arm (R311). DESIGN CHOICE (log 192): the arm of an output that the same write switches off
is refused. -/
def Bolov.grdCtrlWrite (v : Word) (flash : Bool) (b : Bolov) : Bolov :=
  let off : BitVec 4 := BitVec.ofNat 4 (fld v 7 4)
  let armed : BitVec 4 := BitVec.ofNat 4 (fld v 3 0)
  let refused := ([0, 1, 2, 3] : List (Fin 4)).filter (fun g => (armed &&& off).getLsbD g.val)
  let b1 := (forAll refused (Bolov.armRefused flash) (b.arm (armed &&& ~~~off) flash)).guardOff off flash
  let b2 := if bit v.toNat 29 then b1.setPw flash else b1
  let b3 := if bit v.toNat 30 then b2.unlock flash else b2
  if bit v.toNat 31 then b3.sessionEnd flash 0x020 else b3

/-! ### Meanings -/

/-- GUARD_RULE_EVAL (R301); `flash` says whether the flash takes the entry of a trip. -/
def execGuardRuleEval (flash : Bool) (t : Tick) (s : State) : Out := atB t s (Bolov.rulesEval flash)

/-- GUARD_P_OK_WRITE (R302). -/
def execGuardPOkWrite (flash : Bool) (t : Tick) (s : State) : Out := atB t s (Bolov.pWrite flash)

/-- GUARD_P_STALE (R302). -/
def execGuardPStale (flash : Bool) (t : Tick) (s : State) : Out := atB t s (Bolov.pStale flash)

/-- GUARD_IN_SAMPLE (R298): the input voltages in µV. -/
def execGuardInSample (uv : Vector Int 4) (flash : Bool) (t : Tick) (s : State) : Out := atB t s (Bolov.guardSample uv flash)

/-- ILK_IN_OPEN (R299). -/
def execIlkInOpen (flash : Bool) (t : Tick) (s : State) : Out := atB t s (Bolov.ilkSet false flash)

/-- ILK_IN_CLOSE (R299). -/
def execIlkInClose (t : Tick) (s : State) : Out := atB t s (Bolov.ilkSet true true)

/-- GUARD_READBACK_SAMPLE (R303). -/
def execGuardReadbackSample (levels : BitVec 4) (flash : Bool) (t : Tick) (s : State) : Out :=
  atB t s (Bolov.readbackSample levels flash)

/-- GUARD_ARM (R305). -/
def execGuardArm (mask : BitVec 4) (flash : Bool) (s : State) : Out := onB s (Bolov.arm mask flash)

/-- GUARD_OFF (R306). -/
def execGuardOff (mask : BitVec 4) (flash : Bool) (s : State) : Out := onB s (Bolov.guardOff mask flash)

/-- GUARD_PW_DATA_WRITE (R307). -/
def execGuardPwDataWrite (value : Word) (s : State) : Out := onB s (Bolov.pwData value)

/-- GUARD_UNLOCK (R307). -/
def execGuardUnlock (flash : Bool) (s : State) : Out := onB s (Bolov.unlock flash)

/-- GUARD_LOCK (R307). -/
def execGuardLock (flash : Bool) (s : State) : Out := onB s (Bolov.sessionEnd flash 0x020)

/-- GUARD_SET_PW (R307). -/
def execGuardSetPw (flash : Bool) (s : State) : Out := onB s (Bolov.setPw flash)

/-- GUARD_SESSION_TIMEOUT (R307). -/
def execGuardSessionTimeout (flash : Bool) (t : Tick) (s : State) : Out := atB t s (Bolov.sessionTimeout flash)

/-- GUARD_LOCKOUT_END (R308). -/
def execGuardLockoutEnd (t : Tick) (s : State) : Out := atB t s Bolov.lockoutEnd

/-- GUARD_LOCKED_WRITE (R310). -/
def execGuardLockedWrite (addr : BitVec 16) (value : Word) (flash : Bool) (s : State) : Out :=
  onB s (Bolov.lockedWrite addr.toNat value flash)

end Sys2Proof.Machine
end

