-- ==== Sys2Proof/Machine/Security.lean ====
section
/-!
DEFINITION. Boot, host commands, firmware update, attestation and Guard reset (19 R348 to R363).
-/

namespace Sys2Proof.Machine

/-- The security page. -/
def pgSec : Nat := 0x00F

/-- Change the security state. -/
def Bolov.modSec (f : SecState → SecState) (b : Bolov) : Bolov := { b with sec := f b.sec }

/-- `SEC_STATUS` (R363). -/
def Bolov.secStatus (b : Bolov) : Nat :=
  let s := b.sec
  pack [(2, s.lifecycle), (1, b2n s.recovery), (1, s.running), (1, b2n s.trialRuns), (1, b2n (b.regBit Reg.SEC_STATUS 26)),
    (1, b2n (b.regBit Reg.SEC_STATUS 25)), (7, s.counter), (2, s.valid.toNat), (4, 0), (12, s.bootMs)]

/-! ### Flash (R352) -/

/-- A byte of flash, and a run of bytes. -/
def Bolov.flashByte (b : Bolov) (a : Nat) : Nat := (fget 0xFF b.sec.flash a).toNat
def Bolov.flashBytes (b : Bolov) (a n : Nat) : List Nat := (List.range n).map (fun i => b.flashByte (a + i))

/-- The address and the size of an image slot. -/
def slotBase (s : Nat) : Nat := s * 0x800000
def slotSize : Nat := 0x800000

/-- The device certificate in flash (R358). -/
def certBase : Nat := 0x1000000
def certSize : Nat := 8672

/-- Erase a slot. -/
def Bolov.eraseSlot (s : Nat) (b : Bolov) : Bolov :=
  b.modSec (fun x => { x with flash := x.flash.filter (fun e => !decide (slotBase s ≤ e.1 ∧ e.1 < slotBase s + slotSize)) })

/-- Write bytes. -/
def Bolov.flashWrite (a : Nat) (l : List Nat) (b : Bolov) : Bolov :=
  let put := fun (m : FMap Byte) (e : Nat × Nat) => fset 0xFF m e.1 (BitVec.ofNat 8 e.2)
  b.modSec (fun x => { x with flash := (l.mapIdx (fun i v => (a + i, v))).foldl put x.flash })

/-! ### Images (R353, R354) -/

/-- The header of a slot, and a field of it. -/
def Bolov.header (b : Bolov) (s : Nat) : List Nat := b.flashBytes (slotBase s) 64
def hdrFld (h : List Nat) (i n : Nat) : Nat := ofBytes ((h.drop i).take n)

/-- A slot verifies. -/
def Bolov.slotVerifies (b : Bolov) (s : Nat) : Bool :=
  let h := b.header s
  let len := hdrFld h 16 4
  let t := slotBase s + 64 + len
  let rsaKey := b.flashBytes t 384
  let slhKey := b.flashBytes (t + 384) 32
  decide (hdrFld h 0 4 = 0x424C5646 ∧ hdrFld h 4 2 = 1 ∧ hdrFld h 6 1 = 0xB1 ∧ hdrFld h 7 1 ≤ b.sec.unit.toNat % 256 ∧
    4 ≤ len ∧ len ≤ 8379888) &&
  sha256 rsaKey == b.sec.vendorRsa && sha256 slhKey == b.sec.vendorSlh &&
  Config.rsaVerify rsaKey h (b.flashBytes (t + 416) 384) && Config.slhVerify slhKey h (b.flashBytes (t + 800) 7856) &&
  (sha256 (b.flashBytes (slotBase s + 64) len)).toNat == hdrFld h 28 32 &&
  decide (b.sec.counter ≤ hdrFld h 12 1)

/-! ### Boot (R355, R356) -/

/-- Recovery mode. -/
def Bolov.enterRecovery (b : Bolov) : Bolov :=
  (b.modSec (fun x => { x with recovery := true, trialRuns := false, secVer := 0, version := 0, imageDigest := 0 })).raise pgSec 3

/-- Jump to a slot. -/
def Bolov.jump (s : Nat) (trial : Bool) (b : Bolov) : Bolov :=
  let h := b.header s
  b.modSec (fun x =>
    { x with
      recovery := false
      running := s
      trialRuns := trial
      tried := x.tried || trial
      secVer := hdrFld h 12 1
      version := hdrFld h 8 4
      imageDigest := sha256 h })

/-- BOOT_SEQUENCE. -/
def Bolov.boot (katOk : Bool) (ms : BitVec 12) (flash : Bool) (b : Bolov) : Bolov :=
  let b0 := (b.logAppend flash gkStart 0 0 0 0).modSec (fun x => { x with bootMs := ms.toNat, valid := 0, recoverNext := false })
  if !katOk || b.sec.recoverNext then b0.enterRecovery
  else
    let failed := b.sec.trial.isSome && b.sec.tried
    let b1 := if failed then
        ((b0.modSec (fun x => { x with trial := none, tried := false })).setRegBit Reg.SEC_STATUS 26 true).raise pgSec 4
      else b0
    let first := match b1.sec.trial with | some s => s | none => b1.sec.active
    let mark := fun (s : Nat) (b : Bolov) => b.modSec (fun x => { x with valid := setBit x.valid s true })
    if b1.slotVerifies first then (mark first b1).jump first b1.sec.trial.isSome
    else if b1.slotVerifies (1 - first) then (mark (1 - first) b1).jump (1 - first) false
    else b1.enterRecovery

/-! ### Commands and responses (R357) -/

/-- The fields of a command. -/
def cmdTag (r : List W64) : Nat := fld (r.getD 0 0) 63 48
def cmdCode (r : List W64) : Nat := fld (r.getD 0 0) 47 40
def cmdOffset (r : List W64) : Nat := fld (r.getD 0 0) 31 0
def cmdLength (r : List W64) : Nat := fld (r.getD 1 0) 63 32
def cmdArg (r : List W64) : Nat := fld (r.getD 1 0) 31 0
def cmdData (r : List W64) : List Nat := recordBytes ((r.drop 2).take 6)

/-- Codes of commands. -/
def hcGetStatus : Nat := 0x01
def hcQuoteStart : Nat := 0x10
def hcQuoteRead : Nat := 0x11
def hcCertRead : Nat := 0x20
def hcUpdateBegin : Nat := 0x30
def hcUpdateData : Nat := 0x31
def hcUpdateEnd : Nat := 0x32
def hcSetTrial : Nat := 0x33
def hcConfirm : Nat := 0x34
def hcAdvance : Nat := 0x35
def hcGuardReset : Nat := 0x40
def hcTokenData : Nat := 0x41
def hcDecommission : Nat := 0x50
def hostCodes : List Nat := [hcGetStatus, hcQuoteStart, hcQuoteRead, hcCertRead, hcUpdateBegin, hcUpdateData, hcUpdateEnd,
  hcSetTrial, hcConfirm, hcAdvance, hcGuardReset, hcTokenData, hcDecommission]

/-- Codes accepted in recovery mode (R356), and codes that need the crypto domain (R368). -/
def recoveryCodes : List Nat := [hcGetStatus, hcUpdateBegin, hcUpdateData, hcUpdateEnd, hcSetTrial]
def cryptoCodes : List Nat := [hcQuoteStart, hcUpdateEnd, hcGuardReset]

/-- The data bytes of a response: those given, the others open. -/
def fillData (code : Nat) (l : List Nat) : List W64 :=
  let all := l ++ (List.range (48 - l.length)).map (fun i => (Config.openData code (l.length + i)).toNat)
  (List.range 6).map (fun i => BitVec.ofNat 64 (ofBytes ((all.drop (8 * i)).take 8)))

/-- A response to a command. -/
def hostResponse (r : List W64) (status length result : Nat) (data : List Nat) : List W64 :=
  [word64 [(16, cmdTag r), (8, cmdCode r), (8, status), (32, cmdOffset r)], word64 [(32, length), (32, result)]] ++
    fillData (cmdCode r) data

/-- The head command, where a response can be reserved. -/
def Bolov.hostHead (b : Bolov) : Option (List W64) :=
  if b.qRoom qHostRsp then (b.queues[qHostCmd]).records.head? else none

/-- Take the head command and reserve its response. -/
def Bolov.hostTake (b : Bolov) : Bolov :=
  (b.modQueue qHostCmd (fun q => { q with records := q.records.drop 1 })).qReserve qHostRsp

/-- Post the responses that are ready, in command order. -/
def Bolov.hostFlush (b : Bolov) : Bolov :=
  let ready := b.sec.answers.takeWhile Option.isSome
  forAll (ready.filterMap id) (Bolov.qPost qHostRsp) (b.modSec (fun x => { x with answers := x.answers.drop ready.length }))

/-- Answer a command. -/
def Bolov.answer (r : List W64) (status length result : Nat) (data : List Nat) (b : Bolov) : Bolov :=
  (b.modSec (fun x => { x with answers := x.answers ++ [some (hostResponse r status length result data)] })).hostFlush

/-- Answer with a status and nothing else that is stated. -/
def Bolov.answerStatus (r : List W64) (status : Nat) (b : Bolov) : Bolov :=
  b.answer r status (cmdLength r) (Config.openResult (cmdCode r)).toNat []

/-- Carry out the head command if it has a code: not in recovery mode, not once decommissioned, not without the crypto
domain, each where that forbids it. -/
def Bolov.hostRun (code : Nat) (f : List W64 → Bolov → Bolov) (b : Bolov) : Bolov :=
  match b.hostHead with
  | some r =>
    if cmdCode r = code then
      let b1 := b.hostTake
      if b.sec.recovery && !recoveryCodes.contains code then b1.answerStatus r 6
      else if b.sec.lifecycle == 2 && code != hcGetStatus then b1.answerStatus r 5
      else if cryptoCodes.contains code && !b.domOn 79 then b1.answerStatus r 6
      else f r b1
    else b
  | none => b

/-- GET_STATUS. -/
def Bolov.getStatus (r : List W64) (b : Bolov) : Bolov :=
  let live := !b.sec.recovery && b.domOn 79
  let n := if live then Config.entropy b.sec.draws else 0
  (b.modSec (fun x => { x with draws := x.draws + 1, nonce := if live then some n else none })).answer r 0 (cmdLength r)
    b.secStatus (bytesOf 32 n.toNat)

/-! ### Quotes (R358 to R360) -/

/-- The locked registers in offset order (R312). -/
def lockedRegs : List Nat :=
  [Reg.GRD_HOLD, Reg.GRD_CONV] ++ (List.range 4).map Reg.GRD_H_CFG ++
  (List.range 16).flatMap (fun r => [Reg.GRD_P_CFG r, Reg.GRD_P r, Reg.GRD_P r + 4]) ++
  (List.range 16).flatMap (fun k => [Reg.GRD_SCALE_GAIN k, Reg.GRD_SCALE_OFFSET k])

/-- The configuration digest (R360). -/
def Bolov.configDigest (b : Bolov) : BitVec 256 :=
  let c := b.sort.cfg
  sha256 (lockedRegs.flatMap (fun a => bytesOf 4 (b.reg a).toNat) ++
    (List.range 4096).flatMap (fun e => bytesOf 2 (fget (0x0100#16) c.regionMap e).toNat) ++
    (List.range 256).map c.lane ++ (List.range 256).map c.rate ++
    (List.range 262144).flatMap (fun i => bytesOf 6 (fld (b.ctx i) 95 48)))

/-- The body of a quote (R359). -/
def Bolov.quoteBody (q : QuoteRun) (b : Bolov) : List Nat :=
  let ns := q.tod / 2 ^ 32
  bytesOf 4 0x51540001 ++ bytesOf 8 b.sec.unit.toNat ++ bytesOf 32 b.sec.imageDigest.toNat ++ bytesOf 32 b.configDigest.toNat ++
    bytesOf 32 q.head.toNat ++ bytesOf 4 q.logSeq ++ [b.sec.secVer, b.sec.counter, 0, 0] ++ bytesOf 8 (ns / 1000000000) ++
    bytesOf 4 (pack [(1, b2n q.todValid), (1, 0), (30, ns % 1000000000)]) ++ bytesOf 4 b.sec.quoteSeq ++
    (cmdData q.cmd).take 32 ++ [0, 0, 0, 0]

/-- QUOTE_START. -/
def Bolov.quoteStart (r : List W64) (b : Bolov) : Bolov :=
  if b.sec.lifecycle ≠ 1 then b.answerStatus r 5
  else if b.sec.quote.isSome then b.answerStatus r 1
  else b.modSec (fun x =>
    { x with
      quote := some { cmd := r, began := b.up, tod := b.time.tod, todValid := b.time.todValid, head := b.grd.head,
                      logSeq := b.grd.logSeq, changes := b2n (b.cmt.reached && b.cmt.mergeEnd.isNone) }
      answers := x.answers ++ [none] })

/-- The response that was still to come is filled in. -/
def fillAnswer (w : List W64) : List (Option (List W64)) → List (Option (List W64))
  | [] => []
  | none :: l => some w :: l
  | some v :: l => some v :: fillAnswer w l

/-- QUOTE_READY: `restarted` says that the pass of R360 restarted three times, which takes three switches or merges. -/
def Bolov.quoteReady (restarted : Bool) (b : Bolov) : Bolov :=
  match b.sec.quote with
  | none => b
  | some q =>
    let put := fun (w : List W64) (b : Bolov) =>
      (b.modSec (fun x => { x with quote := none, answers := fillAnswer w x.answers })).hostFlush
    if restarted ∧ 3 ≤ q.changes then
      put (hostResponse q.cmd 1 (cmdLength q.cmd) (Config.openResult hcQuoteStart).toNat []) b
    else
      let b1 := b.modSec (fun x => { x with quoteSeq := x.quoteSeq + 1 })
      let body := b1.quoteBody q
      let quote := body ++ bytesOf 384 (Config.rsaSign b.sec.deviceRsa body).toNat ++
        bytesOf 7856 (Config.slhSign b.sec.deviceSlh body).toNat
      (put (hostResponse q.cmd 0 8408 (Config.openResult hcQuoteStart).toNat [])
        (b1.modSec (fun x => { x with quoteBytes := quote.map (BitVec.ofNat 8) }))).raise pgSec 0

/-- Return 48 bytes of a string from an offset. -/
def Bolov.answerBytes (r : List W64) (l : List Nat) (b : Bolov) : Bolov :=
  if cmdOffset r ≥ l.length then b.answerStatus r 3
  else b.answer r 0 (cmdLength r) (Config.openResult (cmdCode r)).toNat ((l.drop (cmdOffset r)).take 48)

/-- QUOTE_READ; with no quote yet its status is open. -/
def Bolov.quoteRead (r : List W64) (b : Bolov) : Bolov :=
  if b.sec.quoteBytes.isEmpty then b.answerStatus r (Config.openStatus hcQuoteRead).toNat
  else b.answerBytes r (b.sec.quoteBytes.map BitVec.toNat)

/-- CERT_READ. -/
def Bolov.certRead (r : List W64) (b : Bolov) : Bolov :=
  if b.sec.lifecycle ≠ 1 then b.answerStatus r 5 else b.answerBytes r (b.flashBytes certBase certSize)

/-! ### Firmware update (R357) -/

/-- UPDATE_BEGIN. -/
def Bolov.updateBegin (r : List W64) (b : Bolov) : Bolov :=
  let slot := cmdArg r
  if slot > 1 ∨ cmdLength r = 0 ∨ cmdLength r > slotSize then b.answerStatus r 3
  else if slot = b.sec.running ∧ !b.sec.recovery then b.answerStatus r 5
  else ((b.eraseSlot slot).modSec (fun x =>
    { x with update := some ⟨slot, cmdLength r, 0⟩, valid := setBit x.valid slot false })).answerStatus r 0

/-- UPDATE_DATA. -/
def Bolov.updateData (r : List W64) (b : Bolov) : Bolov :=
  let n := cmdLength r
  if n = 0 ∨ n > 48 then b.answerStatus r 3
  else match b.sec.update with
    | none => b.answerStatus r 5
    | some u =>
      if cmdOffset r < u.next ∨ cmdOffset r + n > u.length then b.answerStatus r 5
      else ((b.flashWrite (slotBase u.slot + cmdOffset r) ((cmdData r).take n)).modSec (fun x =>
        { x with update := some { u with next := cmdOffset r + n } })).answerStatus r 0

/-- UPDATE_END; without an update its status is open. -/
def Bolov.updateEnd (r : List W64) (b : Bolov) : Bolov :=
  match b.sec.update with
  | none => b.answerStatus r (Config.openStatus hcUpdateEnd).toNat
  | some u =>
    let b1 := b.modSec (fun x => { x with update := none })
    if b.slotVerifies u.slot then
      ((b1.modSec (fun x => { x with valid := setBit x.valid u.slot true })).raise pgSec 1).answerStatus r 0
    else b1.answerStatus r 4

/-- SET_TRIAL. -/
def Bolov.setTrial (r : List W64) (b : Bolov) : Bolov :=
  if cmdArg r > 1 then b.answerStatus r 3
  else if !b.sec.valid.getLsbD (cmdArg r) then b.answerStatus r 5
  else (b.modSec (fun x => { x with trial := some (cmdArg r), tried := false })).answerStatus r 0

/-- CONFIRM; with no trial slot running its status is open. -/
def Bolov.confirm (r : List W64) (b : Bolov) : Bolov :=
  if b.sec.trialRuns then
    (b.modSec (fun x => { x with active := x.running, trial := none, tried := false, trialRuns := false })).answerStatus r 0
  else b.answerStatus r (Config.openStatus hcConfirm).toNat

/-- ADVANCE: the counter never falls. -/
def Bolov.advanceCounter (r : List W64) (b : Bolov) : Bolov :=
  if cmdArg r > b.sec.secVer ∨ b.sec.trialRuns then b.answerStatus r 5
  else (b.modSec (fun x => { x with counter := max x.counter (cmdArg r) })).answerStatus r 0

/-! ### Guard reset (R361) -/

/-- The bytes of a token. -/
def tokenSize : Nat := 8312

/-- TOKEN_DATA. -/
def Bolov.tokenData (r : List W64) (b : Bolov) : Bolov :=
  let put := fun (m : FMap Byte) (e : Nat × Nat) => if e.1 < tokenSize then fset 0 m e.1 (BitVec.ofNat 8 e.2) else m
  if cmdOffset r ≥ tokenSize then b.answerStatus r 3
  else (b.modSec (fun x => { x with token := ((cmdData r).mapIdx (fun i v => (cmdOffset r + i, v))).foldl put x.token
    })).answerStatus r 0

/-- The token is right. -/
def Bolov.tokenOk (b : Bolov) : Bool :=
  let t := (List.range tokenSize).map (fun i => (fget 0 b.sec.token i).toNat)
  let msg := t.take 72
  (match b.sec.nonce with
    | some n => decide (msg = bytesOf 8 b.sec.unit.toNat ++ bytesOf 32 b.grd.head.toNat ++ bytesOf 32 n.toNat)
    | none => false) &&
  Config.vendorRsaVerify b.sec.vendorRsa msg ((t.drop 72).take 384) && Config.vendorSlhVerify b.sec.vendorSlh msg (t.drop 456)

/-- The Guard returns to the unconfigured state; an output that permits trips. -/
def Bolov.guardUnconfigure (flash : Bool) (b : Bolov) : Bolov :=
  let b1 := forAll [0, 1, 2, 3] (fun (g : Fin 4) b => if b.grd.on.getLsbD g then b.trip flash g 1 else b) b
  let b2 := b1.modGrd (fun g => { g with password := none, failures := 0, lockEnd := none, opened := false })
  (({ b2 with regs := b2.regs.filter (fun e => !guardLocked e.1) }.guardSyncAll).guardCheck flash).logAppend flash gkPassword 0 0 0 0

/-- GUARD_RESET. -/
def Bolov.guardReset (flash : Bool) (r : List W64) (b : Bolov) : Bolov :=
  if b.tokenOk then (b.guardUnconfigure flash).answerStatus r 0
  else (b.logAppend flash gkUnlockFailed 0 0 0 0).answerStatus r 4

/-- DECOMMISSION. -/
def Bolov.decommission (r : List W64) (b : Bolov) : Bolov :=
  if cmdArg r ≠ 0xDEC0 then b.answerStatus r 3
  else (b.modSec (fun x => { x with lifecycle := 2, deviceRsa := BitVec.allOnes 3072, deviceSlh := BitVec.allOnes 768 })).answerStatus r 0

/-- A command with a code the Bolov does not know: recovery mode answers every command it does not accept with 6 (R356), a
decommissioned unit with 5. -/
def Bolov.unknownCmd (b : Bolov) : Bolov :=
  match b.hostHead with
  | some r =>
    if hostCodes.contains (cmdCode r) then b
    else b.hostTake.answerStatus r (if b.sec.recovery then 6 else if b.sec.lifecycle = 2 then 5 else 2)
  | none => b

/-! ### Meanings -/

/-- GET_STATUS (R357). -/
def execGetStatus (t : Tick) (s : State) : Out := atB t s (Bolov.hostRun hcGetStatus Bolov.getStatus)

/-- QUOTE_START (R359). -/
def execQuoteStart (t : Tick) (s : State) : Out := atB t s (Bolov.hostRun hcQuoteStart Bolov.quoteStart)

/-- QUOTE_READY (R359, R360). -/
def execQuoteReady (restarted : Bool) (t : Tick) (s : State) : Out := atB t s (Bolov.quoteReady restarted)

/-- QUOTE_READ (R357). -/
def execQuoteRead (t : Tick) (s : State) : Out := atB t s (Bolov.hostRun hcQuoteRead Bolov.quoteRead)

/-- CERT_READ (R357). -/
def execCertRead (t : Tick) (s : State) : Out := atB t s (Bolov.hostRun hcCertRead Bolov.certRead)

/-- UPDATE_BEGIN (R357). -/
def execUpdateBegin (t : Tick) (s : State) : Out := atB t s (Bolov.hostRun hcUpdateBegin Bolov.updateBegin)

/-- UPDATE_DATA (R357). -/
def execUpdateData (t : Tick) (s : State) : Out := atB t s (Bolov.hostRun hcUpdateData Bolov.updateData)

/-- UPDATE_END (R354). -/
def execUpdateEnd (t : Tick) (s : State) : Out := atB t s (Bolov.hostRun hcUpdateEnd Bolov.updateEnd)

/-- SET_TRIAL (R357). -/
def execSetTrial (t : Tick) (s : State) : Out := atB t s (Bolov.hostRun hcSetTrial Bolov.setTrial)

/-- CONFIRM (R357). -/
def execConfirm (t : Tick) (s : State) : Out := atB t s (Bolov.hostRun hcConfirm Bolov.confirm)

/-- ADVANCE (R357). -/
def execAdvance (t : Tick) (s : State) : Out := atB t s (Bolov.hostRun hcAdvance Bolov.advanceCounter)

/-- TOKEN_DATA (R357). -/
def execTokenData (t : Tick) (s : State) : Out := atB t s (Bolov.hostRun hcTokenData Bolov.tokenData)

/-- GUARD_RESET (R361). -/
def execGuardReset (flash : Bool) (t : Tick) (s : State) : Out := atB t s (Bolov.hostRun hcGuardReset (Bolov.guardReset flash))

/-- DECOMMISSION (R357). -/
def execDecommission (t : Tick) (s : State) : Out := atB t s (Bolov.hostRun hcDecommission Bolov.decommission)

/-- UNKNOWN_HOST_CMD (R357). -/
def execUnknownHostCmd (t : Tick) (s : State) : Out := atB t s Bolov.unknownCmd

/-- SEC_RECOVER (R356). -/
def execSecRecover (s : State) : Out := onB s (Bolov.modSec (fun x => { x with recoverNext := true }))

/-- BOOT_SEQUENCE (R355). -/
def execBootSequence (katOk : Bool) (ms : BitVec 12) (flash : Bool) (t : Tick) (s : State) : Out := atB t s (Bolov.boot katOk ms flash)

end Sys2Proof.Machine
end

