-- ==== Sys2Proof/Machine/Interval.lean ====
section
/-!
DEFINITION. Interval and frequency statistics (11 R212 to R224).
-/

namespace Sys2Proof.Machine

/-- The page of the interval units. -/
def pgIs : Nat := 0x009

/-- A unit. -/
def Bolov.unit (b : Bolov) (n : Fin 4) : IsUnit := b.isu[n]

/-- Change a unit. -/
def Bolov.modUnit (n : Fin 4) (f : IsUnit → IsUnit) (b : Bolov) : Bolov := { b with isu := b.isu.set n (f b.isu[n]) }

/-- `IS_n_CTRL.run`. -/
def Bolov.isRun (b : Bolov) (n : Fin 4) : Bool := b.regBit (Reg.IS_n_CTRL n) 31

/-- The unit runs for the host or is held by a port measurement. -/
def Bolov.isActive (b : Bolov) (n : Fin 4) : Bool := b.isRun n || (b.unit n).link.isSome

/-- The unit is in frequency mode: never while a port holds it (R221). -/
def Bolov.isFreq (b : Bolov) (n : Fin 4) : Bool := b.regBit (Reg.IS_n_CTRL n) 28 && (b.unit n).link.isNone

/-- A source as it is selected: kind, falling bit where it counts, index (R212). -/
abbrev IsSource := Nat × Bool × Nat

/-- The start and the stop source of a unit (R212, R221). -/
def Bolov.isStart (b : Bolov) (n : Fin 4) : IsSource :=
  match (b.unit n).link with
  | some p => (7, false, p)
  | none =>
    let w := b.reg (Reg.IS_n_SRC n)
    (fld w 31 28, (fld w 31 28 == 1 || fld w 31 28 == 2) && bit w.toNat 27, fld w 23 16)
def Bolov.isStop (b : Bolov) (n : Fin 4) : IsSource :=
  match (b.unit n).link with
  | some p => (8, false, p)
  | none =>
    let w := b.reg (Reg.IS_n_SRC n)
    (fld w 15 12, (fld w 15 12 == 1 || fld w 15 12 == 2) && bit w.toNat 11, fld w 7 0)

/-- N of a posting (R218, R221). -/
def Bolov.isN (b : Bolov) (n : Fin 4) : Nat :=
  match (b.unit n).link with
  | some p => match (b.port p).measure with | some m => m.want | none => 1
  | none => max 1 (cap (2 ^ 24) (b.regFld (Reg.IS_n_N n) 24 0))

/-- The timeout and the gate, in ticks (R216, R220). -/
def Bolov.isTimeout (b : Bolov) (n : Fin 4) : Nat := max 1 (cap 343000000 (b.reg (Reg.IS_n_TIMEOUT n)).toNat)
def Bolov.isGate (b : Bolov) (n : Fin 4) : Nat := max 16 (b.regFld (Reg.IS_n_GATE n) 27 0)

/-- The unit is armed (R217). -/
def Bolov.isArmed (b : Bolov) (n : Fin 4) : Bool :=
  if (b.unit n).link.isSome then true
  else b.isRun n && match b.regFld (Reg.IS_n_CTRL n) 27 26 with
    | 1 => b.gateIn != b.regBit (Reg.IS_n_CTRL n) 25
    | 2 => (b.unit n).edgeArmed
    | _ => true

/-- The time from stamp `a` to stamp `z` in 2.5 ps (R213). -/
def stampDiff (a z : Stamp) : Int := (tickDiff z.t a.t : Int) * 1250 - (z.f - a.f : Int)

/-- The sample from stamp `a` to stamp `z` in 2^-10 ns, before the offset (R213). -/
def stampSample (a z : Stamp) : Int := roundDivI ((tickDiff z.t a.t : Int) * 320000 - (z.f - a.f : Int) * 256) 100

/-- A sample that falls now carries ref_lost (R222). -/
def Bolov.refShaky (b : Bolov) : Bool :=
  !b.time.refLock || (match b.time.lockedAt with | some u => decide (b.up < u + ticksMs) | none => false)

/-- One sample into the accumulators (R218). -/
def IsAcc.add (a : IsAcc) (x : Int) (lost : Bool) (edges : Nat) : IsAcc :=
  let a := if a.count = 0 then { a with pivot := x, min := x, max := x, sum := 0, sumsq := 0, clipped := false } else a
  let d0 := x - a.pivot
  let clip := decide (d0.natAbs ≥ 2 ^ 36)
  let d : Int := if clip then (if d0 < 0 then -(2 ^ 36 - 1) else 2 ^ 36 - 1) else d0
  { a with
    count := a.count + 1
    min := if x < a.min then x else a.min
    max := if x > a.max then x else a.max
    sum := a.sum + d
    sumsq := a.sumsq + d.natAbs * d.natAbs
    clipped := a.clipped || clip
    refLost := a.refLost || lost
    edges := a.edges + edges }

/-- The mean of a posting in 2^-18 ns (R219). -/
def IsAcc.mean (a : IsAcc) : Int := roundDivI (256 * (a.pivot * a.count + a.sum)) a.count

/-- The standard deviation of a posting in 2^-18 ns (R219): √Q rounded half up is ⌊(⌊√(4Q)⌋ + 1) ÷ 2⌋. -/
def IsAcc.sd (a : IsAcc) : Nat :=
  if a.count ≤ 1 then 0
  else (isqrt 64 (4 * 65536 * (a.sumsq * a.count - a.sum.natAbs * a.sum.natAbs) / (a.count * (a.count - 1))) + 1) / 2

/-- Post the accumulators of a unit (R219): results, sequence number, events; a unit without cont stops. -/
def Bolov.isPost (n : Fin 4) (early : Bool) (b : Bolov) : Bolov :=
  let u := b.unit n
  let freq := b.isFreq n
  let cont := b.regBit (Reg.IS_n_CTRL n) 29 && u.link.isNone
  let b1 := b.modUnit n (fun u =>
    { u with
      acc := {}
      edgeArmed := false
      opened := if cont then u.opened else none
      closed := if cont then u.closed else none
      result := { acc := u.acc, early := early, freq := freq, mean := u.acc.mean, sd := u.acc.sd, seq := u.result.seq + 1 } })
  let b2 := b1.raise pgIs (4 * n)
  let b3 := if u.acc.clipped then b2.raise pgIs (4 * n + 3) else b2
  if cont then b3 else b3.setRegBit (Reg.IS_n_CTRL n) 31 false

/-- A sample of a unit: accumulated, and posted when it is the Nth (R218). -/
def Bolov.isSample (n : Fin 4) (x : Int) (edges : Nat) (b : Bolov) : Bolov :=
  let off : Int := if (b.unit n).link.isSome then 0 else signed 32 (b.reg (Reg.IS_n_OFFSET n)).toNat
  let b1 := b.modUnit n (fun u => { u with acc := u.acc.add (x - off) b.refShaky edges })
  if (b1.unit n).acc.count ≥ b1.isN n then b1.isPost n false else b1

/-- The open sample or gate of a unit is missed (R216, R220, R222). -/
def Bolov.isMiss (n : Fin 4) (b : Bolov) : Bolov :=
  ((b.modUnit n (fun u => { u with opened := none, edges := 0 })).count (Reg.IS_n_MISSED n) 1).raise pgIs (4 * n + 1)

/-- The bound after which an open sample or gate is missed, in 2.5 ps after its opening edge. -/
def Bolov.isBound (b : Bolov) (n : Fin 4) : Int :=
  ((if b.isFreq n then b.isGate n else 0) + b.isTimeout n : Nat) * 1250

/-- An armed unit opens a sample or gate at an edge. -/
def Bolov.isOpen (n : Fin 4) (z : Stamp) (b : Bolov) : Bolov :=
  if b.isArmed n then b.modUnit n (fun u => { u with opened := some z, edges := 0 }) else b

/-- A start edge may open a sample again: 16 ticks have passed since the last closing edge (R215). -/
def Bolov.isReady (b : Bolov) (n : Fin 4) (z : Stamp) : Bool :=
  match (b.unit n).closed with
  | some c => b.isStart n == b.isStop n || decide (stampDiff c z ≥ 16 * 1250)
  | none => true

/-- An edge at a unit in interval mode (R215, R216). An edge from 480 ps to 500 ps after the start may be taken. -/
def Bolov.isEdgeInterval (n : Fin 4) (src : IsSource) (z : Stamp) (take : Bool) (b : Bolov) : Bolov :=
  let b := match (b.unit n).opened with
    | some a => if stampDiff a z > b.isBound n then b.isMiss n else b
    | none => b
  match (b.unit n).opened with
  | some a =>
    let d := stampDiff a z
    if src = b.isStop n ∧ (d ≥ 200 ∨ (d ≥ 192 ∧ take)) then
      let b1 := (b.modUnit n (fun u => { u with opened := none, closed := some z })).isSample n (stampSample a z) 0
      if src = b.isStart n then b1.isOpen n z else b1
    else b
  | none => if src = b.isStart n ∧ b.isReady n z then b.isOpen n z else b

/-- The first measured edge at or after the gate bound (R220): the gate's sample, and the next gate. -/
def Bolov.isGateClose (n : Fin 4) (z : Stamp) (b : Bolov) : Bolov :=
  match (b.unit n).opened with
  | some a =>
    if b.isFreq n ∧ b.isActive n ∧ stampDiff a z ≥ b.isGate n * 1250 ∧ stampDiff a z ≤ b.isBound n then
      let k := (b.unit n).edges + 1
      let b1 := (b.modUnit n (fun u => { u with opened := none, edges := 0 })).isSample n (stampSample a z) k
      b1.isOpen n z
    else b
  | none => b

/-- An edge at a unit in frequency mode (R220): a measured edge opens a gate, is counted in it, or closes it from its bound
on; after the timeout it finds the gate missed and opens a new one. -/
def Bolov.isEdgeFreq (n : Fin 4) (src : IsSource) (z : Stamp) (b : Bolov) : Bolov :=
  if src = b.isStop n then
    match (b.unit n).opened with
    | some a =>
      if stampDiff a z > b.isBound n then (b.isMiss n).isOpen n z
      else if stampDiff a z < b.isGate n * 1250 then b.modUnit n (fun u => { u with edges := u.edges + 1 })
      else b.isGateClose n z
    | none => b.isOpen n z
  else b

/-- An edge of a source reaches every unit that runs (R212 to R220). -/
def Bolov.isEdge (src : IsSource) (z : Stamp) (take : Bool) (b : Bolov) : Bolov :=
  forAll [0, 1, 2, 3] (fun n b =>
    if b.isActive n then (if b.isFreq n then b.isEdgeFreq n src z else b.isEdgeInterval n src z take) else b) b

/-- A sample or gate that is still open at its bound (R216, R220). -/
def Bolov.isTimeoutNow (n : Fin 4) (b : Bolov) : Bolov :=
  match (b.unit n).opened with
  | some a => if stampDiff a ⟨b.tick, 0⟩ ≥ b.isBound n then b.isMiss n else b
  | none => b

/-- GATE_IN changes (R217): level and edge arming, then its edge as a source (R212). -/
def Bolov.isGateIn (level : Bool) (z : Stamp) (b : Bolov) : Bolov :=
  if b.gateIn = level then b
  else
    let b0 := { b with gateIn := level }
    let b1 := forAll [0, 1, 2, 3] (fun (n : Fin 4) b =>
      if b.isRun n && b.regFld (Reg.IS_n_CTRL n) 27 26 == 2 && (level != b.regBit (Reg.IS_n_CTRL n) 25) then
        b.modUnit n (fun u => { u with edgeArmed := true })
      else b) b0
    b1.isEdge (2, !level, 0) z false

/-- The tick count was loaded (R222): open samples and gates are missed. -/
def Bolov.isTickLoaded (b : Bolov) : Bolov :=
  forAll [0, 1, 2, 3] (fun n b => if (b.unit n).opened.isSome then b.isMiss n else b) b

/-- The unit stops and its working accumulators are discarded (R219). -/
def Bolov.isStopNow (n : Fin 4) (b : Bolov) : Bolov :=
  (b.modUnit n (fun u => { u with acc := {}, opened := none, closed := none, edges := 0, edgeArmed := false })).setRegBit
    (Reg.IS_n_CTRL n) 31 false

/-- A configuration write at a unit that runs or is held is ignored (R221, R223). -/
def Bolov.isCfgIgnored (n : Fin 4) (b : Bolov) : Bolov := b.setRegBit (Reg.IS_n_STATUS n) 27 true

/-- A write of a configuration register of a unit (R223). -/
def Bolov.isCfgWrite (n : Fin 4) (addr : Nat) (v : Word) (b : Bolov) : Bolov :=
  if b.isActive n then b.isCfgIgnored n else b.setReg addr v

/-- A write of `IS_n_CTRL` (R217, R219, R223). -/
def Bolov.isCtrlWrite (n : Fin 4) (v : Word) (b : Bolov) : Bolov :=
  let addr := Reg.IS_n_CTRL n
  if (b.unit n).link.isSome then b.isCfgIgnored n
  else
    let running := b.isRun n
    let cfg := setFld (v &&& 0x3E000000#32) 31 31 (b2n running)
    let b1 := if running then (if cfg = b.reg addr then b else b.isCfgIgnored n) else b.setReg addr cfg
    if bit v.toNat 30 then
      if (b1.unit n).acc.count = 0 then b1.isStopNow n
      else (b1.isPost n true).isStopNow n
    else if bit v.toNat 31 then
      if running then b1
      else (b1.modUnit n (fun u => { link := u.link, result := u.result })).setRegBit addr 31 true
    else b1.isStopNow n

/-- `IS_CTRL.count_clear` (R223). -/
def Bolov.isClear (b : Bolov) : Bolov := forAll [0, 1, 2, 3] (fun n => Bolov.clearCtr (Reg.IS_n_MISSED n) 0) b

/-- A port takes a unit for a measurement (R221). -/
def Bolov.isTake (n : Fin 4) (port : Nat) (b : Bolov) : Bolov :=
  let b1 := if b.isRun n then
      ((b.isStopNow n).setRegBit (Reg.IS_n_STATUS n) 28 true).raise pgIs (4 * n + 2)
    else b
  b1.modUnit n (fun u => { link := some port, result := u.result })

/-- A port gives its unit back, stopped, with the port's result (R221). -/
def Bolov.isGive (n : Fin 4) (b : Bolov) : Bolov := b.modUnit n (fun u => { result := u.result })

/-! ### Meanings -/

/-- The kinds of source whose edges come with a command of their own row: TRIG_IN, PPS_IN, tick, REFCLK_IN and the timing
port; GATE_IN comes with GATE_IN_EDGE, the echoes with the frames that carry them. -/
def isOwnKind (kind : Nat) : Bool := kind == 1 || kind == 3 || kind == 4 || kind == 5 || kind == 6

/-- The index of a source is in range (R212). -/
def isIndexOk (kind index : Nat) : Bool := if kind = 1 then decide (index ≤ 3) else index == 0

/-- IS_EDGE (R215). A tick edge coincides with its stamp's tick (R213). -/
def execIsEdge (kind : BitVec 4) (index : Byte) (falling : Bool) (t : Tick) (f : Nat) (take : Bool) (s : State) : Out :=
  atB t s (fun b =>
    if isOwnKind kind.toNat && isIndexOk kind.toNat index.toNat then
      b.isEdge (kind.toNat, kind == 1 && falling, index.toNat) ⟨t, if kind = 4 then 0 else f⟩ take
    else b)

/-- IS_GATE_CLOSE (R220). -/
def execIsGateClose (unit : Fin 4) (t : Tick) (f : Nat) (s : State) : Out := atB t s (Bolov.isGateClose unit ⟨t, f⟩)

/-- IS_SAMPLE_TIMEOUT (R216). -/
def execIsSampleTimeout (unit : Fin 4) (t : Tick) (s : State) : Out := atB t s (Bolov.isTimeoutNow unit)

/-- GATE_IN_EDGE (R217). -/
def execGateInEdge (level : Bool) (t : Tick) (f : Nat) (s : State) : Out := atB t s (Bolov.isGateIn level ⟨t, f⟩)

/-- IS_RUN_SET (R217): a write of `IS_n_CTRL` with run = 1. -/
def execIsRunSet (unit : Fin 4) (value : Word) (s : State) : Out :=
  onB s (Bolov.isCtrlWrite unit (setBit (setBit value 30 false) 31 true))

/-- IS_RUN_CLEAR (R219): a write of `IS_n_CTRL` with run = 0. -/
def execIsRunClear (unit : Fin 4) (value : Word) (s : State) : Out :=
  onB s (Bolov.isCtrlWrite unit (setBit (setBit value 30 false) 31 false))

/-- IS_POST (R219): a write of `IS_n_CTRL` with post = 1. -/
def execIsPost (unit : Fin 4) (value : Word) (s : State) : Out :=
  onB s (Bolov.isCtrlWrite unit (setBit value 30 true))

/-- IS_COUNT_CLEAR (R223). -/
def execIsCountClear (s : State) : Out := onB s Bolov.isClear

end Sys2Proof.Machine
end

