-- ==== Sys2Proof/Machine/TimeBase.lean ====
section
/-!
DEFINITION. The tick counter, the time of day and its servo, PPS_IN and PPS_OUT, holdover (07 R122 to R133, R138 to
R143).
-/

namespace Sys2Proof.Machine

/-- The page of clocks and time. -/
def pgTm : Nat := 0x003

/-- Change the clocks. -/
def Bolov.modTime (f : TimeState → TimeState) (b : Bolov) : Bolov := { b with time := f b.time }

/-- The window of INCR (R127). -/
def incrMin : Nat := 0x31F99999A
def incrMax : Nat := 0x320666666
def clampIncr (v : Int) : Nat := if v < incrMin then incrMin else if v > incrMax then incrMax else v.toNat

/-- incr_base (R130). -/
def Bolov.incrBase (b : Bolov) : Nat := clampIncr (b.reg64 Reg.TM_INCR_BASE % 2 ^ 40 : Nat)

/-- 1 s and 2^-10 ns in the unit of time of day, 2^-32 ns. -/
def todSec : Nat := 1000000000 * 2 ^ 32
def todFine : Nat := 2 ^ 22

/-- Local time of day `code` × 2.5 ps after the current tick edge. -/
def Bolov.localAt (b : Bolov) (code : Nat) : Int := (b.time.tod + code * b.time.incr / 1250 : Nat)

/-! ### Locked and holdover (R131, R138) -/

/-- Set or clear locked (R131). -/
def Bolov.setLocked (v : Bool) (b : Bolov) : Bolov :=
  let b1 := b.modTime (fun t => { t with locked := v, lockRun := if v then t.lockRun else 0 })
  if b.time.locked = v then b1 else b1.raise pgTm 5

/-- Seconds of holdover (R138). -/
def Bolov.holdSeconds (b : Bolov) : Nat := cap (2 ^ 32 - 1) ((b.up - b.time.holdFrom) / ticksS)

/-- An entry condition of holdover (R138). -/
def Bolov.enterHoldover (b : Bolov) : Bolov :=
  if b.time.holdover then b.modTime (fun t => { t with good := 0 })
  else ((b.setLocked false).modTime (fun t => { t with holdover := true, good := 0, holdFrom := b.up })).raise pgTm 2

/-- Holdover ends (R130, R138). -/
def Bolov.leaveHoldover (b : Bolov) : Bolov :=
  (b.modTime (fun t => { t with holdover := false, good := 0, holdSecs := b.holdSeconds })).raise pgTm 3

/-! ### The servo (R130, R131) -/

/-- A sample is applied: locked (R131). -/
def Bolov.noteApplied (θ : Int) (b : Bolov) : Bolov :=
  if θ.natAbs ≤ b.regFld Reg.TM_LOCK_THR 15 0 * todFine then
    let n := cap 4 (b.time.lockRun + 1)
    let b1 := b.modTime (fun t => { t with lockRun := n })
    if n ≥ 4 then b1.setLocked true else b1
  else b.setLocked false

/-- A sample reaches the servo loop (R130): a step, or integral and INCR. -/
def Bolov.applySample (θ : Int) (b : Bolov) : Bolov :=
  let b := b.noteApplied θ
  if !b.time.todValid || (b.regBit Reg.TM_CTRL 9 && decide (θ.natAbs > (b.reg Reg.TM_STEP_THR).toNat * 1024 * todFine)) then
    b.modTime (fun t => { t with schedStep := some (-θ) })
  else
    let base : Int := b.incrBase
    let ki : Int := b.regFld Reg.TM_SERVO_KI 23 0
    let kp : Int := b.regFld Reg.TM_SERVO_KP 23 0
    let scale : Int := todFine * 2 ^ 24
    let lo := base - incrMax
    let hi := base - incrMin
    let i0 := b.time.integ + ki * θ / scale
    let i := if i0 < lo then lo else if i0 > hi then hi else i0
    let incr := clampIncr (base - i - kp * θ / scale)
    b.modTime (fun t => { t with integ := i, schedIncr := some incr })

/-- An offset sample θ in 2^-32 ns (R130). -/
def Bolov.servoSample (θ : Int) (b : Bolov) : Bolov :=
  let b := b.modTime (fun t => { t with offset := θ / (todFine : Int), lastSample := b.up })
  if !b.regBit Reg.TM_CTRL 8 then b
  else if b.time.holdover then
    if !b.time.refLock then b
    else if b.time.good + 1 < max 1 (b.regFld Reg.TM_CTRL 27 24) then b.modTime (fun t => { t with good := t.good + 1 })
    else b.leaveHoldover.applySample θ
  else b.applySample θ

/-! ### Update ticks (R128, R129, R142) -/

/-- The sort engine counts as enabled at tick `t` (R147): until the end of the final slice. -/
def Bolov.sortEnabledAt (b : Bolov) (t : Tick) : Bool :=
  b.sort.running && match b.sort.final with
    | some n => decide (b.sliceNum t ≤ n)
    | none => true

/-- The current tick is an update tick (R128). -/
def Bolov.isUpdateTick (b : Bolov) : Bool :=
  if b.sortEnabledAt b.tick then
    decide (0 ≤ b.sliceNum b.tick) && tickGap b.tick b.sort.nextStart % b.sliceLen == 0
  else b.tick.toNat % 512 == 0

/-- A step is applied (R126, R129, R131, R139). -/
def Bolov.stepTo (tod : Nat) (b : Bolov) : Bolov :=
  (((b.modTime (fun t => { t with tod := tod, todValid := true, steppedAt := some b.up })).setLocked false).setRegBit
    Reg.TM_STATUS 25 true).raise pgTm 4

/-- The latest INCR and the latest step are applied (R128, R142): a host set replaces a servo step. -/
def Bolov.applyUpdate (b : Bolov) : Bolov :=
  let incr := if b.regBit Reg.TM_CTRL 8 then (match b.time.schedIncr with | some v => v | none => b.time.incr) else b.incrBase
  let set := b.time.hostSet
  let step := b.time.schedStep
  let b1 := b.modTime (fun t => { t with incr := incr, schedIncr := none, schedStep := none, hostSet := none })
  match set, step with
  | some v, _ => b1.stepTo v
  | none, some d => b1.stepTo (((b1.time.tod : Int) + d) % (todMod : Int)).toNat
  | none, none => b1

/-- At an update tick (R128). -/
def Bolov.update (b : Bolov) : Bolov := if b.isUpdateTick then b.applyUpdate else b

/-- `TM_CTRL.tod_set` (R129). -/
def Bolov.todSet (b : Bolov) : Bolov :=
  b.modTime (fun t => { t with
    hostSet := some (b.reg64 Reg.TM_SET_SEC * todSec + cap 999999999 (b.regFld Reg.TM_SET_NS 29 0) * 2 ^ 32) })

/-! ### The reference and the tick counter (R122 to R124) -/

/-- The tick PLL locks (R122, R124): the counter reads 0 at the first lock; a later lock raises ref_lock regained. -/
def Bolov.pllLock (slew : Nat) (b : Bolov) : Bolov :=
  if b.time.refLock then b
  else if b.time.pllOnce then
    (b.modTime (fun t => { t with refLock := true, lockedAt := some (b.up : Int), slew := slew })).raise pgTm 1
  else { b.modTime (fun t => { t with refLock := true, pllOnce := true }) with tick := 0 }

/-- REFCLK_IN shows no edge for 100 ns (R123). -/
def Bolov.refLoss (b : Bolov) : Bolov :=
  (((b.modTime (fun t => { t with refLock := false })).setRegBit Reg.TM_STATUS 26 true).raise pgTm 0).enterHoldover

/-- The reference returns after it had locked once (R123). -/
def Bolov.refReturn (slew : Nat) (b : Bolov) : Bolov := if b.time.pllOnce then b.pllLock slew else b

/-- `TM_CTRL.tick_load` (R124). -/
def Bolov.tickLoad (b : Bolov) : Bolov :=
  if b.anyPortData || b.sort.running then (b.setRegBit Reg.TM_STATUS 24 true).raise pgTm 6
  else b.modTime (fun t => { t with presetPending := true })

/-- The preset is taken at a tick that is a multiple of 16 (R124, R222). -/
def Bolov.tickPreset (b : Bolov) : Bolov :=
  if b.time.presetPending && b.tick.toNat % 16 == 0 then
    ({ b.modTime (fun t => { t with presetPending := false }) with
      tick := BitVec.ofNat 48 (b.reg64 Reg.TM_TICK_PRESET / 16 * 16) }).isTickLoaded
  else b

/-! ### Snapshots (R143) -/

/-- `TM_CTRL.snap`. -/
def Bolov.snap (b : Bolov) : Bolov := b.modTime (fun t => { t with snapBusy := some b.up })

/-- Ticks to the edge at which a requested snapshot is latched. -/
def Bolov.snapWait (b : Bolov) : Nat :=
  match b.time.snapBusy with
  | some u => u + 1 - b.up
  | none => 0

/-- Tick and time of day are latched. -/
def Bolov.snapLatch (b : Bolov) : Bolov :=
  if b.time.snapBusy.isSome then
    b.modTime (fun t => { t with snapBusy := none, snapTick := b.tick, snapTod := t.tod })
  else b

/-! ### PPS (R132, R133) -/

/-- A rising edge on PPS_IN, `code` × 2.5 ps after the current tick edge (R132). -/
def Bolov.ppsEdge (code : Nat) (b : Bolov) : Bolov :=
  let spaced := match b.time.lastPps with
    | some u => decide (b.up ≥ u + 319680000)
    | none => true
  if b.time.ppsSecWritten && spaced then
    let sec := b.reg64 Reg.TM_PPS_SEC
    let θ : Int := b.localAt code - signed 32 (b.reg Reg.TM_PPS_DELAY).toNat * todFine - sec * todSec
    let b1 := b.modTime (fun t => { t with lastPps := some b.up })
    let b2 := if b1.regFld Reg.TM_CTRL 1 0 = 2 then b1.servoSample θ else b1
    if b2.regBit Reg.TM_CTRL 10 then b2.setReg64 Reg.TM_PPS_SEC ((sec + 1) % 2 ^ 64) else b2
  else b.raise pgTm 7

/-- Local time reaches a whole second plus the offset within the current tick (R133). -/
def Bolov.ppsOutNow (b : Bolov) : Bool :=
  let off : Int := signed 16 (b.regFld Reg.TM_PPS_OUT 15 0) * 2 ^ 32
  let x := ((b.time.tod : Int) - off) % todSec
  decide ((todSec - x) % todSec < b.time.incr)

/-- The delay-line steps of 2.5 ps from the current tick edge to the rising edge of PPS_OUT: within ±30 ps of the instant (R133). -/
def Bolov.ppsDelay (b : Bolov) : Nat :=
  let off : Int := signed 16 (b.regFld Reg.TM_PPS_OUT 15 0) * 2 ^ 32
  let x := ((off - b.time.tod) % todSec).toNat
  let steps : Int := roundDiv (x * 1250) b.time.incr
  (max (steps - 12) (min (steps + 12) (Config.ppsPlacement b.up))).toNat

/-- PPS_OUT rises (R133). -/
def Bolov.ppsRise (b : Bolov) : Bolov :=
  if b.regBit Reg.TM_PPS_OUT 31 && b.time.todValid && b.ppsOutNow then
    b.modTime (fun t => { t with ppsOut := true, ppsRose := b.up, ppsCode := b.ppsDelay })
  else b

/-- PPS_OUT falls after its width (R133). -/
def Bolov.ppsFall (b : Bolov) : Bolov :=
  if b.time.ppsOut && decide (b.up ≥ b.time.ppsRose + max 1 (b.regFld Reg.TM_PPS_OUT 23 16) * ticksMs) then
    b.modTime (fun t => { t with ppsOut := false })
  else b

/-- A write of `TM_PPS_OUT`: with en = 0 the pin is held low (R143). -/
def Bolov.ppsOutWrite (v : Word) (b : Bolov) : Bolov :=
  let b1 := b.setReg Reg.TM_PPS_OUT (v &&& 0x80FFFFFF#32)
  if bit v.toNat 31 then b1 else b1.modTime (fun t => { t with ppsOut := false })

/-! ### Holdover conditions (R138) -/

/-- Four sample intervals in ticks (R138): 1 s for PPS, the interval of the last Sync for PTP. -/
def Bolov.holdoverAfter (b : Bolov) : Nat :=
  if b.regFld Reg.TM_CTRL 1 0 = 1 then
    (if b.ptp.syncLog < 0 then 4 * ticksS / 2 ^ b.ptp.syncLog.natAbs else 4 * ticksS * 2 ^ b.ptp.syncLog.natAbs)
  else 4 * ticksS

/-- No offset sample for four sample intervals (R138). -/
def Bolov.holdTimeout (b : Bolov) : Bolov :=
  if b.time.lastSample + b.holdoverAfter ≤ b.up then b.enterHoldover else b

/-- `TM_CTRL.src` is written (R138). -/
def Bolov.srcWrite (v : Nat) (b : Bolov) : Bolov :=
  let old := b.regFld Reg.TM_CTRL 1 0
  let b1 := b.setReg Reg.TM_CTRL (setFld (b.reg Reg.TM_CTRL) 1 0 v)
  if v % 4 = old then b1 else b1.enterHoldover

/-- `TM_INCR_BASE` is written (R142). -/
def Bolov.incrBaseWrite (v : Nat) (b : Bolov) : Bolov := b.setReg64 Reg.TM_INCR_BASE (v % 2 ^ 40)

/-- A write of `TM_CTRL` (R143). -/
def Bolov.tmCtrlWrite (v : Word) (b : Bolov) : Bolov :=
  let b1 := (b.setReg Reg.TM_CTRL ((v &&& 0x0F000700#32) ||| (b.reg Reg.TM_CTRL &&& 3#32))).srcWrite (fld v 1 0)
  let b2 := if bit v.toNat 31 then b1.todSet else b1
  let b3 := if bit v.toNat 30 then b2.tickLoad else b2
  if bit v.toNat 29 then b3.snap else b3

/-- A write of `TM_PPS_SEC` (R132). -/
def Bolov.ppsSecWrite (v : Nat) (b : Bolov) : Bolov :=
  (b.setReg64 Reg.TM_PPS_SEC v).modTime (fun t => { t with ppsSecWritten := true })

/-! ### Meanings -/

/-- TICK_PLL_LOCK (R122). -/
def execTickPllLock (t : Tick) (slew : Nat) (s : State) : Out := atB t s (Bolov.pllLock slew)

/-- REFCLK_LOSS (R123). -/
def execRefclkLoss (t : Tick) (s : State) : Out := atB t s Bolov.refLoss

/-- REFCLK_RETURN (R123): the edges slew by `slew` × 2.5 ps to the new phase. -/
def execRefclkReturn (t : Tick) (slew : Nat) (s : State) : Out := atB t s (Bolov.refReturn slew)

/-- TICK_LOAD (R124). -/
def execTickLoad (s : State) : Out := onB s Bolov.tickLoad

/-- TICK_PRESET_APPLY (R124). -/
def execTickPresetApply (t : Tick) (s : State) : Out := atB t s Bolov.tickPreset

/-- TOD_UPDATE_TICK (R128). -/
def execTodUpdateTick (t : Tick) (s : State) : Out := atB t s Bolov.update

/-- TOD_SET (R129). -/
def execTodSet (s : State) : Out := onB s Bolov.todSet

/-- SNAP (R143). -/
def execSnap (s : State) : Out := onB s Bolov.snap

/-- SNAPSHOT_LATCH (R143): at the next tick edge after the request. -/
def execSnapshotLatch (s : State) : Out := onB (advance s.b.snapWait s) Bolov.snapLatch

/-- PPS_IN_EDGE (R132). -/
def execPpsInEdge (t : Tick) (code : Fin 1250) (s : State) : Out := atB t s (Bolov.ppsEdge code)

/-- HOLDOVER_TIMEOUT (R138). -/
def execHoldoverTimeout (t : Tick) (s : State) : Out := atB t s Bolov.holdTimeout

/-- TM_SRC_WRITE (R138). -/
def execTmSrcWrite (src : BitVec 2) (s : State) : Out := onB s (Bolov.srcWrite src.toNat)

/-- TM_INCR_BASE_WRITE (R142). -/
def execTmIncrBaseWrite (base : BitVec 40) (s : State) : Out := onB s (Bolov.incrBaseWrite base.toNat)

/-- PPS_OUT_RISE (R133). -/
def execPpsOutRise (t : Tick) (s : State) : Out := atB t s Bolov.ppsRise

/-- PPS_OUT_FALL (R133). -/
def execPpsOutFall (t : Tick) (s : State) : Out := atB t s Bolov.ppsFall

end Sys2Proof.Machine
end

