-- ==== Sys2Proof/Machine/Ptp.lean ====
section
/-!
DEFINITION. The PTP timing port (07 R134 to R137, R144).
-/

namespace Sys2Proof.Machine

/-- Change the PTP engine. -/
def Bolov.modPtp (f : PtpState → PtpState) (b : Bolov) : Bolov := { b with ptp := f b.ptp }

/-- The timing port is on: `PTP_CTRL` and its domain (R368). -/
def Bolov.ptpOn (b : Bolov) : Bool := b.regBit Reg.PTP_CTRL 8 && b.domOn 77

/-- A message is discarded (R135). -/
def Bolov.ptpDiscard (b : Bolov) : Bolov := b.count Reg.PTP_DISCARD 1

/-- The message came by the multicast of the transport that `PTP_CTRL.ipv4` chooses (R134). DESIGN CHOICE (log 187): one that
did not is a discarded message of R135. -/
def Bolov.ptpCarried (b : Bolov) (m : PtpMsg) : Bool :=
  m.multicast && (match m.transport with
    | .ethernet => !b.regBit Reg.PTP_CTRL 9
    | .ipv4 => b.regBit Reg.PTP_CTRL 9
    | .ipv6 => false)

/-- Transport, domain and version are accepted (R134, R135). -/
def Bolov.ptpAccepts (b : Bolov) (m : PtpMsg) : Bool :=
  b.ptpCarried m && m.domain.toNat == b.regFld Reg.PTP_CTRL 23 16 && m.version == 2#4 && (m.minor == 0#4 || m.minor == 1#4)

/-- The message is from the master (R135). -/
def Bolov.fromMaster (b : Bolov) (m : PtpMsg) : Bool :=
  m.clock.toNat == b.reg64 Reg.PTP_MASTER_ID && m.portNo.toNat == b.regFld Reg.PTP_MASTER_PORT 15 0

/-- The mean path delay in 2^-32 ns, where one exists (R136): over the last 2^delay_avg values, as many as there are. -/
def Bolov.pathDelay (b : Bolov) : Option Int :=
  let l := b.ptp.delays.take (2 ^ cap 8 (b.regFld Reg.PTP_CTRL 15 12))
  if l = [] then none else some (l.foldl (· + ·) 0 / (l.length : Int))

/-- A Sync pair is complete (R136): it gives an offset sample while a mean path delay exists and PTP is the source. -/
def Bolov.pairDone (p : SyncPair) (b : Bolov) : Bolov :=
  let b1 := b.modPtp (fun x => { x with pair := some p, pending := none })
  match b1.pathDelay with
  | some d =>
    if b1.regFld Reg.TM_CTRL 1 0 = 1 then
      b1.servoSample (p.t2 - p.t1 - d - signed 32 (b1.reg Reg.PTP_ASYM).toNat * todFine)
    else b1
  | none => b1

/-- Only messages the engine handles from the master get past here (R135). -/
def Bolov.ptpMaster (m : PtpMsg) (f : Bolov → Bolov) (b : Bolov) : Bolov :=
  if !b.ptpOn then b
  else if m.unsupported || !b.ptpAccepts m || !b.fromMaster m then b.ptpDiscard
  else f b

/-- A time of a message and a correction in 2^-32 ns: the correction field is in 2^-16 ns. -/
def ptpTime (m : PtpMsg) : Int := (m.time : Int) * 2 ^ 32
def ptpCorr (m : PtpMsg) : Int := m.correction * 2 ^ 16

/-- Sync (R135). -/
def Bolov.ptpSync (m : PtpMsg) (code : Nat) (b : Bolov) : Bolov :=
  b.ptpMaster m (fun b =>
    let t2 := b.localAt code
    let b1 := b.modPtp (fun x => { x with pending := none, syncLog := m.interval })
    if m.twoStep then b1.modPtp (fun x => { x with pending := some ⟨m.seq, t2, ptpCorr m⟩ })
    else b1.pairDone ⟨ptpTime m + ptpCorr m, t2⟩)

/-- Follow_Up (R135). -/
def Bolov.ptpFollowUp (m : PtpMsg) (b : Bolov) : Bolov :=
  b.ptpMaster m (fun b =>
    match b.ptp.pending with
    | some p => if p.seq = m.seq then b.pairDone ⟨ptpTime m + p.correction + ptpCorr m, p.t2⟩ else b.ptpDiscard
    | none => b.ptpDiscard)

/-- Delay_Req is sent (R135). -/
def Bolov.ptpDelayReq (code : Nat) (b : Bolov) : Bolov :=
  if b.ptpOn then
    b.modPtp (fun x => { x with req := some ⟨x.nextSeq, b.localAt code⟩, nextSeq := x.nextSeq + 1 })
  else b

/-- Delay_Resp (R135, R136): t4 is receiveTimestamp − correctionField. -/
def Bolov.ptpDelayResp (m : PtpMsg) (toUs : Bool) (b : Bolov) : Bolov :=
  b.ptpMaster m (fun b =>
    match b.ptp.req with
    | some r =>
      if toUs && r.seq == m.seq then
        let b1 := b.modPtp (fun x => { x with delayLog := m.interval })
        match b1.ptp.pair with
        | some p =>
          let d := ((p.t2 - p.t1) + (ptpTime m - ptpCorr m - r.t3)) / 2
          b1.modPtp (fun x => { x with delays := (d :: x.delays).take 256 })
        | none => b1
      else b.ptpDiscard
    | none => b.ptpDiscard)

/-- Announce (R135, R137): handed to the firmware; from the chosen master it updates `TM_UTC`. -/
def Bolov.ptpAnnounce (m : PtpMsg) (utcValid leap61 leap59 : Bool) (offset : BitVec 16) (b : Bolov) : Bolov :=
  if !b.ptpOn then b
  else if m.unsupported || !b.ptpAccepts m then b.ptpDiscard
  else
    let b1 := b.modPtp (fun x => { x with announce := some (m.clock, m.portNo) })
    if b1.fromMaster m then
      let w := word32 [(1, 1), (1, b2n utcValid), (1, b2n leap61), (1, b2n leap59), (12, 0), (16, offset.toNat)]
      let old := b1.time.utc
      let b2 := b1.modTime (fun t => { t with utc := w })
      if setBit old 31 true = w then b2 else b2.raise pgTm 8
    else b1

/-- A master change (R137, R138). -/
def Bolov.masterChanged (b : Bolov) : Bolov :=
  ((b.modPtp (fun x => { x with pending := none, pair := none, delays := [], req := none, syncLog := 0 })).modTime
    (fun t => { t with utc := setBit t.utc 31 false })).enterHoldover

/-- The master registers are written (R137): what the best master clock algorithm of the firmware chose, or the host, is the
operand (log 188). -/
def Bolov.masterWrite (id : Nat) (port : Nat) (b : Bolov) : Bolov :=
  let b1 := (b.setReg64 Reg.PTP_MASTER_ID id).setReg Reg.PTP_MASTER_PORT (BitVec.ofNat 32 (port % 65536))
  if b.reg64 Reg.PTP_MASTER_ID = id ∧ b.regFld Reg.PTP_MASTER_PORT 15 0 = port % 65536 then b1 else b1.masterChanged

/-! ### Meanings -/

/-- PTP_SYNC_RECEIVED (R135). -/
def execPtpSyncReceived (m : PtpMsg) (t : Tick) (code : Fin 1250) (s : State) : Out := atB t s (Bolov.ptpSync m code)

/-- PTP_FOLLOW_UP_RECEIVED (R135). -/
def execPtpFollowUpReceived (m : PtpMsg) (t : Tick) (s : State) : Out := atB t s (Bolov.ptpFollowUp m)

/-- PTP_DELAY_REQ_SEND (R135). -/
def execPtpDelayReqSend (t : Tick) (code : Fin 1250) (s : State) : Out := atB t s (Bolov.ptpDelayReq code)

/-- PTP_DELAY_RESP_RECEIVED (R136). -/
def execPtpDelayRespReceived (m : PtpMsg) (toUs : Bool) (t : Tick) (s : State) : Out := atB t s (Bolov.ptpDelayResp m toUs)

/-- PTP_ANNOUNCE_RECEIVED (R137). -/
def execPtpAnnounceReceived (m : PtpMsg) (utcValid leap61 leap59 : Bool) (offset : BitVec 16) (t : Tick) (s : State) : Out :=
  atB t s (Bolov.ptpAnnounce m utcValid leap61 leap59 offset)

/-- MASTER_CHANGE (R137). -/
def execMasterChange (clock : BitVec 64) (portNo : BitVec 16) (s : State) : Out :=
  onB s (Bolov.masterWrite clock.toNat portNo.toNat)

/-- PTP_COUNT_CLEAR (R144). -/
def execPtpCountClear (s : State) : Out := onB s (Bolov.clearCtr Reg.PTP_DISCARD 0)

end Sys2Proof.Machine
end

