-- ==== Sys2Proof/Machine/Trigger.lean ====
section
/-!
DEFINITION. Trigger marks, windows and livetime annotations, and the hold of calibration runs (10 R192 to R197, R208 to
R211; 04 R69).
-/

namespace Sys2Proof.Machine

/-- The trigger page. -/
def pgTrg : Nat := 0x007

/-- Change the trigger block. -/
def Bolov.modTrg (f : TrgState → TrgState) (b : Bolov) : Bolov := { b with trg := f b.trg }

/-! ### Windows (R195) and hold (R69) -/

/-- W of a mark, in ticks. -/
def Mark.half (m : Mark) : Nat := 16 * m.w

/-- Tick `t` lies in the mark's window, from t − W up to t + W. -/
def Mark.covers (m : Mark) (t : Tick) : Bool :=
  notBefore t (m.tick - BitVec.ofNat 48 m.half) && later (m.tick + BitVec.ofNat 48 m.half) t

/-- The mark's window overlaps the ticks from `a` up to `z`. -/
def Mark.overlaps (m : Mark) (a z : Tick) : Bool :=
  decide (0 < m.half) && later z (m.tick - BitVec.ofNat 48 m.half) && later (m.tick + BitVec.ofNat 48 m.half) a

/-- A protected window is open. -/
def Bolov.protectedOpen (b : Bolov) : Bool := b.trg.marks.any (fun m => m.protect && m.windowOpen)

/-- The marks whose windows may still bear on data (R125, R195). -/
def Bolov.marksKnown (b : Bolov) : List Mark := b.trg.marks.filter (fun m => b.recent m.at')

/-- A protected window known now overlaps the ticks from `a` up to `z`. -/
def Bolov.protects (b : Bolov) (a z : Tick) : Bool := b.marksKnown.any (fun m => m.protect && m.overlaps a z)

/-- R69 requires hold. -/
def Bolov.holdNeeded (b : Bolov) : Bool := decide (b.rate.stage ≥ 2) || b.protectedOpen

/-- Hold or release goes to every Jilek whose lease the Bolov owns. -/
def Bolov.sendHold (arg : Nat) (b : Bolov) : Bolov :=
  forUpTo 128 (fun p b => b.sendOwned p { op := fCalStart, arg := arg, payload := 0 }) b

/-- Hold begins when it is first required, and release follows when it is required no longer (R69). -/
def Bolov.holdUpdate (b : Bolov) : Bolov :=
  if b.holdNeeded ∧ !b.rate.holding then
    { (b.sendHold 3) with rate := { b.rate with holding := true, holdAt := b.up } }
  else if !b.holdNeeded ∧ b.rate.holding then
    { (b.sendHold 4) with rate := { b.rate with holding := false } }
  else b

/-- Hold is repeated while it is required (R69). -/
def Bolov.holdRepeat (b : Bolov) : Bolov :=
  if b.holdNeeded then { (b.sendHold 3) with rate := { b.rate with holding := true, holdAt := b.up } } else b

/-! ### Marks (R193, R194) -/

/-- `TRG_SRCn_CFG` fields. -/
def Bolov.trgOn (b : Bolov) (n : Nat) : Bool := b.regBit (Reg.TRG_SRC_CFG n) 31

/-- The marks of higher sources generated in the tick that ends at edge `edge`: the mark of source `source` goes before them
(R193, R208). Marks that have left are not overtaken: DESIGN CHOICE, log entry 183. -/
def Bolov.marksBehind (b : Bolov) (source edge : Nat) : List Mark :=
  let queued := fun (m : Mark) => b.lanes.toList.any (fun l => l.markQ.any (fun u => match u with
    | .mark _ _ _ _ q _ _ _ => q == m.seq
    | _ => false))
  (b.trg.marks.reverse.takeWhile (fun m => m.edge == edge && decide (source < m.source) && (m.dropped || queued m))).reverse

/-- A sequence number moves up where it is one of the `k` from `seq` on. -/
def seqUp (seq : BitVec 16) (k : Nat) (q : BitVec 16) : BitVec 16 := if (q - seq).toNat < k then q + 1 else q

/-- A queued mark takes its new number. -/
def ExpressUnit.seqUp (seq : BitVec 16) (k : Nat) (u : ExpressUnit) : ExpressUnit :=
  match u with
  | .mark s f p t q fi w i => .mark s f p t (Sys2Proof.Machine.seqUp seq k q) fi w i
  | .hit w t p fe => .hit w t p fe

/-- A unit stands before the queued marks from `seq` on. -/
def putMark (u : ExpressUnit) (seq : BitVec 16) (k : Nat) (l : List ExpressUnit) : List ExpressUnit :=
  let first := fun (x : ExpressUnit) => match x with | .mark _ _ _ _ q _ _ _ => decide ((q - (seq + 1)).toNat < k) | _ => false
  l.takeWhile (fun x => !first x) ++ [u] ++ l.dropWhile (fun x => !first x)

/-- The `k` marks from `seq` on move up by one, wherever they stand. -/
def Bolov.marksUp (seq : BitVec 16) (k : Nat) (b : Bolov) : Bolov :=
  if k = 0 then b
  else
    { b with
      trg := { b.trg with marks := b.trg.marks.map (fun m =>
        if !m.annotated && b.recent m.at' then { m with seq := seqUp seq k m.seq } else m) }
      lanes := b.lanes.map (fun l => { l with markQ := l.markQ.map (ExpressUnit.seqUp seq k) })
      tarn := { b.tarn with marks := b.tarn.marks.map (fun e =>
        (e.1, if e.2.auto && b.trg.marks.any (fun m => m.source == e.2.source && m.seq == e.2.seq && !m.annotated) then
          { e.2 with seq := seqUp seq k e.2.seq } else e.2)) } }

/-- A source generates a mark (R193, R194, R233) in the tick that ends at edge `edge`. A mark dropped with `OUT_EXPRESS.en` = 0
raises the event and is not counted (R184, R191). -/
def Bolov.genMark (source : Nat) (tick : Tick) (fine edge : Nat) (b : Bolov) : Bolov :=
  if !b.trgOn source then b
  else
    let cfg := b.reg (Reg.TRG_SRC_CFG source)
    let k := (b.marksBehind source edge).length
    let seq := b.trg.seq - BitVec.ofNat 16 k
    let w := fld cfg 23 16
    let prot := bit cfg.toNat 29
    let falling := decide (source < 4) && bit cfg.toNat 30
    let b1 := ((b.marksUp seq k).count (Reg.TRG_SRC_MARKS source) 1).modTrg (fun x => { x with seq := x.seq + 1 })
    let (b2, idx) := if bit cfg.toNat 28 then b1.autoMark source seq (tick - BitVec.ofNat 48 (16 * w)) else (b1, none)
    let home := b2.expressHome
    let off := !b2.expressOn
    let full := decide ((b2.lanes[home]).markQ.length ≥ 16)
    let drop := b2.emitsExpress && (off || full)
    let lose := fun (b : Bolov) => b.modTrg (fun x => { x with lost := true })
    let unit : ExpressUnit := .mark source falling prot tick seq fine w (match idx with | some i => i | none => 0xFF)
    let b3 :=
      if !b2.emitsExpress then b2
      else if off then lose (if b2.ek4 then b2 else b2.raise pgOut 2)
      else if full then lose b2.expressDrop
      else b2.modLane home (fun l => { l with markQ := putMark unit seq k l.markQ })
    let m : Mark := { at' := b.up, edge := edge, source := source, tick := tick, w := w, seq := seq, protect := prot,
                      windowOpen := later (tick + BitVec.ofNat 48 (16 * w)) b.tick, dropped := drop }
    let put := fun (l : List Mark) => l.take (l.length - k) ++ [m] ++ l.drop (l.length - k)
    ((b3.modTrg (fun x => { x with marks := put x.marks })).raise pgTrg 0).holdUpdate

/-- Holdoff of a source in ticks (R193). -/
def Bolov.holdoffOf (b : Bolov) (n : Nat) : Nat := max 4 (b.regFld (Reg.TRG_SRC_CFG n) 15 0)

/-- The mark tick and fine time of a crossing `fine0` × 2.5 ps before the current tick edge (R193): c is the crossing less
the path delay; times in units of 2.5 ps ÷ 1,024, of which a tick has 1,280,000. -/
def crossingMark (now : Tick) (fine0 : Nat) (delay : Int) : Tick × Nat :=
  let y : Int := fine0 * 1024 + delay * 400
  let k : Int := (-y) / 1280000 + 1
  let rem := (k * 1280000 + y).toNat
  (now + BitVec.ofInt 48 k, ceilDiv rem 1024)

/-- The threshold and the hysteresis of a comparator in µV (R192): as set, out by a free value within the limits. -/
def Bolov.trgThreshold (n : Nat) (b : Bolov) : Int :=
  let set : Int := (min 3000 (b.regFld (Reg.TRG_SRC_LEVEL n) 27 16) : Nat) * 1000 - 1000000
  set + between (-(5000 + set.natAbs / 200 : Nat)) (5000 + set.natAbs / 200 : Nat) (Config.trigThreshold n b.up)
def Bolov.trgHysteresis (n : Nat) (b : Bolov) : Int :=
  let set : Nat := max 5 (min 200 (b.regFld (Reg.TRG_SRC_LEVEL n) 7 0)) * 1000
  set + between (-(set / 5 + 2000 : Nat)) (set / 5 + 2000 : Nat) (Config.trigHysteresis n b.up)

/-- The input of a comparator has been out to `peak` µV since the command before and is now at `level` µV (R192): whether it fires, and
whether it is armed then. -/
def Bolov.comparator (n : Nat) (peak level : Int) (b : Bolov) : Bool × Bool :=
  let falling := b.regBit (Reg.TRG_SRC_CFG n) 30
  let th := b.trgThreshold n
  let hy := b.trgHysteresis n
  let armed := b.trg.armed.getLsbD n || (if falling then decide (th + hy < peak) else decide (peak < th - hy))
  let fires := armed && (if falling then decide (level < th) else decide (th < level))
  (fires, armed && !fires)

/-- The comparator of sources 0 to 3 fires (R193): a mark, or the holdoff event. -/
def Bolov.trigFires (n : Fin 4) (fine0 : Nat) (b : Bolov) : Bolov :=
  if !b.trgOn n then b
  else
    let (tick, fine) := crossingMark b.tick fine0 (signed 32 (b.reg (Reg.TRG_SRC_DELAY n)).toNat)
    let held := match fget none b.trg.lastMark n with
      | some t => b.recent t.2 && later (t.1 + BitVec.ofNat 48 (b.holdoffOf n)) tick
      | none => false
    if held then b.raise pgTrg 1
    else (b.modTrg (fun x => { x with lastMark := fset none x.lastMark n (some (tick, b.up)) })).genMark n tick fine b.up

/-- The input of TRIG_IN[n] crosses its threshold (R192, R193). -/
def Bolov.trigIn (n : Fin 4) (fine0 : Nat) (peak level : Int) (b : Bolov) : Bolov :=
  let (fires, armed) := b.comparator n peak level
  whenDo fires (Bolov.trigFires n fine0) (b.modTrg (fun x => { x with armed := setBit x.armed n armed }))

/-- `TRG_CTRL.soft` (R193). -/
def Bolov.softTrigger (b : Bolov) : Bolov := b.genMark 4 (b.tick + 1) 0 (b.up + 1)

/-- Protected windows whose end has come close (R195). -/
def Bolov.windowsClose (b : Bolov) : Bolov :=
  (b.modTrg (fun x => { x with marks := x.marks.map (fun m =>
    if notBefore b.tick (m.tick + BitVec.ofNat 48 m.half) then { m with windowOpen := false } else m) })).holdUpdate

/-! ### Annotations (R196, R197, R207) -/

/-- The regions a dead-time record reaches under a configuration. -/
def dtRegions (c : SliceCfg) (r : DtRec) : List Nat :=
  match r.scope with
  | 0 => (c.region r.port (r.sub / 64)).toList
  | 1 => (c.region r.port r.sub).toList
  | 2 => (List.range 32).filterMap (fun t => c.region r.port t)
  | _ => [r.sub]

/-- The overlap of the ticks from `a` up to `z` with those from `c` up to `d`. -/
def overlapTicks (a z c d : Tick) : Nat :=
  let lo := latest a c
  let hi := earliest z d
  if later hi lo then tickDiff hi lo else 0

/-- The open outages of R196 as records: every port out of data with an open link-down record, to the end of the window. -/
def Bolov.openOutages (b : Bolov) (stop : Tick) : List DtRec :=
  b.ports.filterMap (fun e =>
    match e.2.downFrom with
    | some h => if e.2.rx == .data then none else
        some { cause := dtLinkDown, scope := scPort, port := e.1, start := h, stop := stop, count := dtUnknown }
    | none => none)

/-- The bits of regions as a number. -/
def regionBits (l : List Nat) : Nat := l.foldl (fun m r => m ||| 2 ^ r) 0

/-- The annotation of a mark (R197). -/
def Bolov.annotation (b : Bolov) (m : Mark) : List W64 :=
  let a := m.tick - BitVec.ofNat 48 m.half
  let z := m.tick + BitVec.ofNat 48 m.half
  let c := b.cfgAt m.tick
  let hit := fun (l : List DtRec) => l.filter (fun r => decide (overlapTicks r.start r.stop a z > 0))
  let recs := hit (b.issued.filterMap (fun x => if b.recent x.1 then some x.2 else none))
  let outs := hit (b.openOutages z)
  let bitmap := regionBits ((recs ++ outs).flatMap (dtRegions c))
  let sum := (recs ++ outs).foldl (fun n r => n + b.dtCells r * overlapTicks r.start r.stop a z) 0
  [word64 [(8, 2), (8, 7), (16, m.seq.toNat), (1, b2n m.dropped), (1, b2n (!outs.isEmpty)), (30, 0)],
   word64 [(16, m.half), (48, m.tick.toNat)],
   BitVec.ofNat 64 bitmap, BitVec.ofNat 64 (bitmap / 2 ^ 64), BitVec.ofNat 64 (bitmap / 2 ^ 128),
   BitVec.ofNat 64 (bitmap / 2 ^ 192), BitVec.ofNat 64 (cap (2 ^ 64 - 1) sum)]

/-- The issue tick of a mark's annotation. -/
def Mark.issueTick (m : Mark) : Tick := m.tick + BitVec.ofNat 48 (m.half + 12288)

/-- The annotation of the mark with a sequence number is issued at its issue tick (R196). -/
def Bolov.annotate (seq : BitVec 16) (b : Bolov) : Bolov :=
  match b.trg.marks.find? (fun m => m.seq == seq && !m.annotated) with
  | some m =>
    if notBefore b.tick m.issueTick then
      let words := b.annotation m
      let b1 := b.modTrg (fun x => { x with marks := x.marks.map (fun y =>
        if y.seq = seq ∧ !y.annotated then { y with annotated := true } else y) })
      let b2 := if b1.ek4 then b1 else b1.notice words (some (m.tick - BitVec.ofNat 48 m.half))
      b2.raise pgTrg 2
    else b
  | none => b

/-- `TRG_CTRL.count_clear`. -/
def Bolov.trgClear (b : Bolov) : Bolov := forUpTo 6 (fun n => Bolov.clearCtr (Reg.TRG_SRC_MARKS n) 0) b

/-! ### Meanings -/

/-- TRIG_IN_CROSSING (R192, R193). -/
def execTrigInCrossing (source : Fin 4) (t : Tick) (edge : TrigEdge) (s : State) : Out :=
  atB t s (Bolov.trigIn source edge.fine edge.peak edge.level)

/-- SOFT_TRIGGER (R193). -/
def execSoftTrigger (s : State) : Out := onB s Bolov.softTrigger

/-- PROTECTED_WINDOW_CLOSE (R195). -/
def execProtectedWindowClose (t : Tick) (s : State) : Out := atB t s Bolov.windowsClose

/-- ANNOTATION_ISSUE (R196). -/
def execAnnotationIssue (seq : BitVec 16) (t : Tick) (s : State) : Out := atB t s (Bolov.annotate seq)

/-- CAL_HOLD_REPEAT (R69). -/
def execCalHoldRepeat (t : Tick) (s : State) : Out := atB t s Bolov.holdRepeat

/-- TRG_COUNT_CLEAR (R211). -/
def execTrgCountClear (s : State) : Out := onB s Bolov.trgClear

end Sys2Proof.Machine
end

