-- ==== Sys2Proof/Machine/Rate.lean ====
section
/-!
DEFINITION. Rate reduction: stages, prescale, refusal, test-pulse slices, throttle pins (10 R198 to R204, R210).
-/

namespace Sys2Proof.Machine

/-! ### Stages (R198, R203) -/

/-- Pool use and backlog in units of 8 lines. While a partner catches up, the lines of frames built but not yet sent count
in the backlog (R269). -/
def Bolov.poolUnits (b : Bolov) : Nat := b.poolUsed / 8
def Bolov.backlogLines (b : Bolov) : Nat :=
  b.backlog + (match b.pod.resend with
    | some n => (b.tarn.entries.filter (fun e => e.kind == 2 && decide (n ≤ e.slice))).foldl (fun k e => k + e.lines) 0
    | none => 0)
def Bolov.backlogUnits (b : Bolov) : Nat := b.backlogLines / 8

/-- Watermarks of stage n. -/
def Bolov.poolHi (b : Bolov) (n : Nat) : Nat := b.regFld (Reg.RATE_POOL_WM1 + 8 * (n - 1)) 31 16
def Bolov.poolLo (b : Bolov) (n : Nat) : Nat := b.regFld (Reg.RATE_POOL_WM1 + 8 * (n - 1)) 15 0
def Bolov.blHi (b : Bolov) (n : Nat) : Nat := b.regFld (Reg.RATE_BL_WM1 + 8 * (n - 1)) 31 16
def Bolov.blLo (b : Bolov) (n : Nat) : Nat := b.regFld (Reg.RATE_BL_WM1 + 8 * (n - 1)) 15 0

/-- The stages whose entry is possible. -/
def Bolov.stages (b : Bolov) : List Nat := (List.range (b.regFld Reg.RATE_CTRL 5 4 + 1)).drop 1

/-- The stage and the exit count after a slice start (R198). -/
def Bolov.nextStage (b : Bolov) : Nat × Nat :=
  let floor := b.regFld Reg.RATE_CTRL 3 2
  if !b.regBit Reg.RATE_CTRL 0 then (floor, b.rate.held)
  else
    let p := b.poolUnits
    let q := b.backlogUnits
    let st := b.rate.stage
    let target := b.stages.foldl (fun t n => if p ≥ b.poolHi n ∨ q ≥ b.blHi n then n else t) 0
    let r :=
      if target > st then (target, 0)
      else if st > 0 ∧ p < b.poolLo st ∧ q < b.blLo st then
        if b.rate.held + 1 ≥ max 1 (b.regFld Reg.RATE_HOLD 7 0) then (st - 1, 0) else (st, b.rate.held + 1)
      else (st, 0)
    (max r.1 floor, r.2)

/-- The open prescale record of a region is issued (R201). -/
def Bolov.closePrescale (r : Nat) (b : Bolov) : Bolov :=
  match fget none b.rate.openRecs r with
  | some o =>
    (b.modRate (fun x => { x with openRecs := fset none x.openRecs r none })).issueDt
      { cause := dtRate, scope := scRegion, sub := r, start := o.start, stop := o.stop, count := dtCount o.count }
  | none => b

/-- The stage takes a value at the start of slice `n`: event, announcement, open records (R198, R201, R203). -/
def Bolov.setStage (n : Nat) (start : Tick) (stage held : Nat) (floor : Bool) (b : Bolov) : Bolov :=
  let old := b.rate.stage
  let b1 := b.modRate (fun x => { x with stage := stage, held := held })
  if stage = old then b1
  else
    let pool := b.stages.any (fun k => decide (b.poolUnits ≥ b.poolHi k))
    let back := b.stages.any (fun k => decide (b.backlogUnits ≥ b.blHi k))
    let words := [word64 [(8, 3), (8, 2), (2, stage), (2, old), (1, b2n pool), (1, b2n back), (1, b2n floor), (41, 0)],
                  word64 [(16, 0), (48, n)]]
    let b2 := b1.raise pgRate (if stage > old then 0 else 1)
    let b3 := if b2.ek4 then b2 else b2.notice words (some start)
    let b4 := if stage < 2 then forAll (b3.rate.openRecs.map Prod.fst) Bolov.closePrescale b3 else b3
    ({ b4 with pod := { b4.pod with stageDue := true } }).holdUpdate

/-- The stage step at a slice start (R198); a partner that does not emit applies the stage of the active one (10 R203,
14 R278). -/
def Bolov.stageStep (n : Nat) (start : Tick) (b : Bolov) : Bolov :=
  match (if b.emits || b.pod.silent then none else b.pod.stage) with
  | some st => b.setStage n start st b.rate.held false
  | none =>
    let (st, held) := b.nextStage
    let floor := !b.regBit Reg.RATE_CTRL 0 || decide (st = b.regFld Reg.RATE_CTRL 3 2 ∧ st > b.rate.stage ∧
      !(b.stages.any (fun k => decide (b.poolUnits ≥ b.poolHi k ∨ b.backlogUnits ≥ b.blHi k) && decide (st ≤ k))))
    b.setStage n start st held floor

/-! ### Test-pulse slices (R200) -/

/-- A slice from `a` up to `z` is marked for test-pulse injection. -/
def Bolov.tpMarked (b : Bolov) (a z : Tick) : Bool :=
  let span := max 1 (b.regFld Reg.RATE_TP_SPAN 7 0)
  b.trg.testPulses.any (fun x => b.recent x.2 && later z x.1 && later (x.1 + BitVec.ofNat 48 span) a)

/-- A go sends a TEST_PULSE (R200, R332): its tick marks slices. -/
def Bolov.testPulseGo (t : Tick) (b : Bolov) : Bolov := b.modTrg (fun x => { x with testPulses := (t, b.up) :: x.testPulses })

/-- The first frame that carries a TEST_PULSE is sent (R193): with tp_mark a source 5 mark is generated. -/
def Bolov.testPulseSent (t : Tick) (b : Bolov) : Bolov :=
  if b.regBit Reg.TRG_CTRL 29 then b.genMark 5 t 0 (b.up + 1) else b

/-! ### Stages 2 and 3 (R201, R202) -/

/-- A record of region `r` with a tick is removed at stage 2: `cls` is the class of its cell, 0 where the context is poisoned. -/
def Bolov.prescaled (b : Bolov) (c : SliceCfg) (r : Nat) (w : W64) (tick : Tick) (cls : Nat) : Bool :=
  let k := c.rate r % 16
  recType w == 1 && decide (k > 0) && !bit c.classExempt.toNat cls
    && !b.marksKnown.any (fun m => m.covers tick) && decide (recCheck w % 2 ^ k ≠ 0)

/-- The regions refused at the start of a slice at stage 3. -/
def Bolov.refusals (b : Bolov) (c : SliceCfg) (a z : Tick) : BitVec 256 :=
  if b.rate.stage = 3 ∧ !b.protects a z then
    BitVec.ofNat 256 (regionBits ((List.range 256).filter (fun r => decide (c.rate r / 128 = 1))))
  else 0

/-- Records of a region were removed, or none, as a frame begins at stage 2 or 3 (R201). -/
def Bolov.prescaleSlice (r n : Nat) (a z : Tick) (b : Bolov) : Bolov :=
  if n = 0 then b.closePrescale r
  else
    let o := match fget none b.rate.openRecs r with
      | some o => { o with stop := z, count := o.count + n }
      | none => ⟨a, z, n⟩
    let b1 := (b.modRate (fun x => { x with openRecs := fset none x.openRecs r (some o) })).count Reg.RATE_PRESCALED n
    if tickDiff o.stop o.start ≥ 4096 then b1.closePrescale r else b1

/-! ### Counters -/

/-- `RATE_CTRL.count_clear`. -/
def Bolov.rateClear (b : Bolov) : Bolov :=
  let b1 := Bolov.clearCtrs Reg.RATE_DT_CELLTICKS 8 (Bolov.clearCtrs Reg.RATE_DT_RECORDS 8 b)
  forAll [Reg.RATE_PRESCALED, Reg.RATE_TP_DROPPED, Reg.RATE_REFUSED] (fun a => Bolov.clearCtr a 0) b1

/-! ### Meanings -/

/-- RATE_COUNT_CLEAR (R211). -/
def execRateCountClear (s : State) : Out := onB s Bolov.rateClear

end Sys2Proof.Machine
end

