-- ==== Sys2Proof/Machine/Sort.lean ====
section
/-!
DEFINITION. The sort engine: start and stop, input queues, bins, closing, late records (08 R145 to R161, R167 to R170;
13 R251).
-/

namespace Sys2Proof.Machine

/-- The sort page. -/
def pgSort : Nat := 0x005

/-! ### Start and stop (R146, R147) -/

/-- The four sort-quadrant domains are on, as `PWR_DOM_STATE` shows them (R368). -/
def sortDomains : List Nat := [72, 73, 74, 75]
def Bolov.sortDomsOn (b : Bolov) : Bool := sortDomains.all (fun d => b.domOn d)

/-- The engine drains: a final slice is set. -/
def Bolov.draining (b : Bolov) : Bool := b.sort.running && b.sort.final.isSome

/-- A refused start. -/
def Bolov.startRefused (b : Bolov) : Bolov := (b.setRegBit Reg.SORT_STATUS 29 true).raise pgSort 0

/-- The slices of a new run are numbered from 0 again, also for the progress of a Pod partner (R145, R267). -/
def PodState.newRun (p : PodState) : PodState :=
  { p with through := none, completed := [], partnerR := none, resend := none, emitFrom := 0, markTo := 0 }

/-- A write of 1 to `SORT_CTRL.en` (R146). -/
def Bolov.sortStart (b : Bolov) : Bolov :=
  if b.draining then b.startRefused
  else if b.sort.running then b
  else if b.sortDomsOn && later b.s0 b.tick && decide (tickDiff b.s0 b.tick ≥ 1024) then
    let b1 := b.modSort (fun x =>
      { x with
        running := true
        final := none
        nextSlice := 0
        nextStart := b.s0
        nextFrame := 0
        slices := []
        skips := [] })
    { b1 with pod := b1.pod.newRun }.setRegBit Reg.SORT_CTRL 0 true
  else b.startRefused

/-- A write of 0 to `SORT_CTRL.en` (R147). -/
def Bolov.sortStop (b : Bolov) : Bolov :=
  if !b.sort.running || b.draining then b
  else
    let b1 := b.setRegBit Reg.SORT_CTRL 0 false
    if b.sliceNum b.tick < 0 then b1.modSort (fun x => { x with running := false })
    else b1.modSort (fun x => { x with final := some (b.sliceNum b.tick).toNat })

/-! ### The pool (R155) -/

/-- A free pool line: a returned one, or one never used. -/
def Bolov.takeLine (b : Bolov) : Option (Nat × Bolov) :=
  match b.sort.freeLines with
  | l :: rest => some (l, b.modSort (fun x => { x with freeLines := rest }))
  | [] =>
    if b.sort.freshLine < 327680 then
      some (b.sort.freshLine, b.modSort (fun x => { x with freshLine := x.freshLine + 1 }))
    else none

/-- The highest pool use since the last read. -/
def Bolov.notePeak (b : Bolov) : Bolov := b.modSort (fun x => { x with poolPeak := max x.poolPeak b.poolUsed })

/-- The bin of a region in the column of a slice. -/
def binNumber (r slice : Nat) : Nat := r * 256 + slice % 256

/-- A bin's overflow enable (R155, R250). -/
def Bolov.overflowEnabled (bin : Nat) (b : Bolov) : Bolov × Bool :=
  let (b1, lost) := b.tableRead (overflowLine 0 bin) (overflowLine 1 bin)
  (b1, !lost && bit (fget 0 b.sort.overflowEn (bin / 32)).toNat (bin % 32))

/-- An enabled bin overflows (R155, R323). -/
def Bolov.binOverflow (bin : Nat) (b : Bolov) : Bolov :=
  let b1 := b.modSort (fun x => { x with ovfBin := BitVec.ofNat 16 bin })
  let b2 := (b1.setRegBit Reg.SORT_BIN_OVF 31 true).raise pgSort 5
  if b2.regBit Reg.INT_CTRL 0 then
    { b2 with binIbi := match b2.binIbi with | some (f, n) => some (f, n + 1) | none => some (bin, 0) }
  else b2

/-- One more lost record of a tick. -/
def Losses.add (t : Tick) (l : Losses) : Losses :=
  if l.count = 0 then ⟨1, t, t⟩ else ⟨l.count + 1, earliest l.first t, latest l.last t⟩

/-- A record finds no free line (R155). -/
def Bolov.poolLoss (n r : Nat) (t : Tick) (b : Bolov) : Bolov :=
  let b1 := ((b.modSlice n (fun s => { s with lost := fmod {} s.lost r (Losses.add t) })).count Reg.SORT_POOL_LOSS 1).raise pgSort 2
  let (b2, en) := b1.overflowEnabled (binNumber r n)
  if en then b2.binOverflow (binNumber r n) else b2

/-- A record is appended to its bin (R153, R155), its offset from the slice start; a tagged word stores poison (R250). The first
word of a new line is a full-line write, and the link to it is written in a narrow write (R252). -/
def Bolov.append (s : Slice) (r p : Nat) (w : W64) (t : Tick) (tagged : Bool) (b : Bolov) : Bolov :=
  let key := r * 128 + p
  let c := fget {} s.chains key
  let w' := setFld w 50 39 (tickDiff t s.start)
  let put := fun (lines : List Nat) (b : Bolov) =>
    b.modSlice s.num (fun s => { s with chains := fset {} s.chains key ⟨c.recs ++ [w'], lines⟩ })
  if c.recs.length % 4 = 0 then
    match b.takeLine with
    | some (l, b1) =>
      let b2 := match c.lines.getLast? with | some prev => b1.narrowWrite (linkLine prev) | none => b1
      (put (c.lines ++ [l]) (if tagged then b2.storePoison (poolLine l) else b2.fullWrite (poolLine l))).notePeak
    | none => b.poolLoss s.num r t
  else
    let l := c.lines.getLastD 0
    whenDo tagged (Bolov.storePoison (poolLine l)) (put c.lines (b.narrowWrite (poolLine l)))

/-! ### Closing (R156 to R159, R112) -/

/-- The close margin of a port (R157). -/
def Bolov.closeMargin (b : Bolov) (p : Nat) : Nat :=
  let w := b.reg (Reg.QD_SORT_CTRL p)
  if bit w.toNat 31 then max 1 (fld w 11 0) else 512 + b.dly p + b.regFld Reg.SORT_MARGIN_PAD 7 0

/-- The feed of a configuration: pairs of region and port with an entry (R148). -/
def SliceCfg.feeds (c : SliceCfg) : List (Nat × Nat) :=
  c.regionMap.filterMap (fun e => if bit e.2.toNat 8 then none else some (e.2.toNat % 256, e.1 / 32))

/-- Link-down records that have reached 65,536 ticks close with a slice (R112). -/
def Bolov.chainOutages (stop : Tick) (b : Bolov) : Bolov :=
  forAll (fkeys b.ports) (fun p b =>
    match (b.port p).downFrom with
    | some h =>
      if later stop h ∧ tickDiff stop h ≥ 65536 ∧ (b.port p).rx ≠ .data then
        (b.modPort p (fun x => { x with downFrom := some stop })).issueDt
          { cause := dtLinkDown, scope := scPort, port := p, start := h, stop := stop, count := dtUnknown,
            feId := ((b.cfgAt h).feId p).toNat }
      else b
    | none => b) b

/-- A region closes a slice (R155, R158, R202): its losses and its refused records become dead-time records. -/
def Bolov.closeRegion (n r : Nat) (b : Bolov) : Bolov :=
  match b.sort.slices.find? (fun s => s.num == n) with
  | none => b
  | some s =>
    let stop := b.sliceEnd s
    let b1 := b.modSlice n (fun s => { s with open' := setBit s.open' r false })
    let l := fget {} s.lost r
    let b2 := if l.count = 0 then b1 else
      b1.issueDt { cause := dtRate, scope := scRegion, sub := r, start := l.first, stop := l.last + 1, count := dtCount l.count }
    let b3 := if s.refused.getLsbD r then
        b2.issueDt { cause := dtRate, scope := scRegion, sub := r, start := s.start, stop := stop,
                     count := dtCount (fget 0 s.refusedCount r) }
      else b2
    if setBit s.open' r false = 0 then
      (b3.modSlice n (fun s => { s with phase := .closed })).chainOutages stop
    else b3

/-- The open regions of a mask, in rising number. -/
def openRegions (m : BitVec 256) : List Nat := (List.range 256).filter (fun r => m.getLsbD r)

/-- The slices that have ended and are collecting. -/
def Bolov.endedSlices (b : Bolov) : List Slice :=
  b.sort.slices.filter (fun s => s.phase == .collecting && notBefore b.tick (b.sliceEnd s))

/-- The horizon test of R158: every region closes that has no port behind the slice end among those in
data that have read a marker (R167). -/
def Bolov.closeByHorizon (b : Bolov) : Bolov :=
  forAll b.endedSlices (fun s b =>
    let stop := b.sliceEnd s
    let wait := regionBits ((s.cfg.feeds.filter (fun f =>
      (b.port f.2).rx == .data && (b.port f.2).inTest && later stop (b.port f.2).hEff)).map Prod.fst)
    forAll ((openRegions s.open').filter (fun r => !wait.testBit r)) (Bolov.closeRegion s.num) b) b

/-- The margin of a region in a slice, and whether it is clamped to 224 × L (R157, R159). -/
def Bolov.regionMargin (b : Bolov) (s : Slice) (r : Nat) : Nat × Bool :=
  let m := ((s.cfg.feeds.filter (fun f => f.1 == r)).map (fun f => b.closeMargin f.2)).foldl max 0
  let lim := 224 * b.sliceLen
  if m > lim then (lim, true) else (m, false)

/-- The margin test of R158, after the horizon test (R167). -/
def Bolov.closeByMargin (b : Bolov) : Bolov :=
  let b := b.closeByHorizon
  forAll b.endedSlices (fun s b =>
    let late := tickDiff b.tick (b.sliceEnd s)
    forAll (openRegions s.open') (fun r b =>
      let (m, clamped) := b.regionMargin s r
      let b1 := if clamped then (b.setRegBit Reg.SORT_STATUS 26 true).raise pgSort 8 else b
      if late ≥ m then (b1.closeRegion s.num r).count Reg.SORT_MARGIN_CLOSE 1 else b1) b) b

/-! ### Late records (R160, R161) -/

/-- A late record is dropped (R161). -/
def Bolov.dropLate (p : Nat) (t : Tick) (b : Bolov) : Bolov :=
  (((b.countAt Reg.SORT_P_LATE_DROP p 1).raise pgSort 4).modPort p (fun x => { x with lateDrop := x.lateDrop.add b.up t }))

/-- A record goes into the late queue, or is dropped where it is full or in EK-4 compatibility mode (R188). -/
def Bolov.queueLate (p : Nat) (w : W64) (t : Tick) (tagged : Bool) (b : Bolov) : Bolov :=
  if b.ek4 ∨ b.sort.late.length ≥ 4096 then b.dropLate p t
  else
    let k := b.sort.lateSeq
    let r : LateRec := { word := setFld w 50 39 (t.toNat % 4096), tick := t, port := p, feId := (b.cfgAt t).feId p,
                         off := b.inSliceOffset t, pos := k }
    let b1 := b.modSort (fun x => { x with lateSeq := k + 1, late := x.late ++ [r] })
    whenDo tagged (Bolov.storePoison (lateLine k)) (b1.narrowWrite (lateLine k))

/-- A port's span of dropped late records closes (R161). -/
def Bolov.lateSpanClose (p : Nat) (b : Bolov) : Bolov :=
  match (b.port p).lateDrop with
  | some s => if s.over b.up then (b.modPort p (fun x => { x with lateDrop := none })).issueDt (b.spanRecord dtLate p s) else b
  | none => b

/-! ### Port input queues (R149, R151, R251) -/

/-- Records queued at a port. -/
def PortState.depth (x : PortState) : Nat := (x.queue.filter (fun i => match i with | .word _ _ _ => true | .marker _ => false)).length

/-- A record word reaches the input queue, or is refused (R149, R151). -/
def Bolov.queueWord (p : Nat) (w : W64) (b : Bolov) : Bolov :=
  let x := b.port p
  let h := b.lastH p
  if x.depth < 12 then b.modPort p (fun x => { x with queue := x.queue ++ [.word w (parityOf w) h] })
  else
    let t := h + BitVec.ofNat 48 ((recOffset w + 4096 - h.toNat % 4096) % 4096)
    let b1 := b.modPort p (fun x => { x with refusal := x.refusal.add b.up t })
    { b1 with pod := { b1.pod with refusedAt := (b.up, p) :: b1.pod.refusedAt } }

/-- A port's refusal span closes (R151). -/
def Bolov.refusalClose (p : Nat) (b : Bolov) : Bolov :=
  match (b.port p).refusal with
  | some s =>
    if s.over b.up then
      ((b.modPort p (fun x => { x with refusal := none })).issueDt (b.spanRecord dtAdmission p s)).countAt
        Reg.SORT_P_REFUSED p s.hits.length
    else b
  | none => b

/-- `QD_QUEUE.flush` (R251). -/
def Bolov.queueFlush (p : Nat) (b : Bolov) : Bolov :=
  if b.sort.running then b
  else (b.modPort p (fun x => { x with queue := [] })).count Reg.SORT_OUTSIDE (b.port p).depth

/-! ### The table of R153 -/

/-- The bin is not open (R153, R160). -/
def Bolov.lateRecord (p : Nat) (w : W64) (t : Tick) (tagged : Bool) (b : Bolov) : Bolov :=
  if recType w = 1 then
    let b1 := b.countAt Reg.SORT_P_LATE p 1
    if b1.regBit Reg.SORT_CTRL 2 then b1.queueLate p w t tagged else b1.dropLate p t
  else b.queueLate p w t tagged

/-- A record of type 01 or 10 that is read from a port's queue (R153): the first row that applies. -/
def Bolov.sortRecord (p : Nat) (w : W64) (t : Tick) (tagged : Bool) (b : Bolov) : Bolov :=
  let tile := recCell w / 64
  let e := p * 32 + tile
  let (b, lost) := b.tableRead (mapLine 0 e) (mapLine 1 e)
  let slice := b.sliceOf t
  let cfg := match slice with | some s => s.cfg | none => b.cfgAt t
  match (if lost then none else cfg.region p tile) with
  | none => b.countAt Reg.SORT_P_EXCLUDED p 1
  | some r =>
    match b.sliceInRun t with
    | none => b.count Reg.SORT_OUTSIDE 1
    | some n =>
      let start := b.sliceStart n
      if recType w = 1 ∧ recExpress w ∧ b.expressOn then (if b.emitsExpress then b.queueHit w t p else b)
      else if later start (b.tick + 64) then
        ((b.countAt Reg.SORT_P_AHEAD p 1).raise pgSort 6).queueLate p w t tagged
      else if b.sort.skips.contains n then b
      else
        match slice with
        | some s =>
          if s.open'.getLsbD r ∧ s.phase = .collecting then
            if s.refused.getLsbD r then
              (b.modSlice s.num (fun s => { s with refusedCount := fmod 0 s.refusedCount r (· + 1) })).count Reg.RATE_REFUSED 1
            else b.append s r p w t tagged
          else b.lateRecord p w t tagged
        | none => b.lateRecord p w t tagged

/-- The next item of a port's input queue is read (R153, R251): `flip` are the bits that read wrongly, the parity on top. -/
def Bolov.queueItem (p : Nat) (flip : BitVec 65) (b : Bolov) : Bolov :=
  if !b.sort.running then b
  else match (b.port p).queue with
    | [] => b
    | .marker h0 :: rest =>
      let b1 := b.modPort p (fun x => { x with queue := rest })
      let h := h0 ^^^ flip.setWidth 48
      if parityOf (flip.setWidth 64) != flip.getLsbD 64 then b1.count Reg.MERE_QPAR 1
      else ((b1.modPort p (fun x => { x with hEff := h, inTest := x.rx == .data })).calHorizon p h).closeByHorizon
    | .word w0 par h :: rest =>
      let b1 := b.modPort p (fun x => { x with queue := rest })
      let w1 := w0 ^^^ flip.setWidth 64
      let bad := parityOf w1 != (par != flip.getLsbD 64)
      let w := if bad then setFld w1 63 62 2 else w1
      let b2 := if bad then b1.count Reg.MERE_QPAR 1 else b1
      let t := h + BitVec.ofNat 48 ((recOffset w + 4096 - h.toNat % 4096) % 4096)
      if recType w = 3 then b2.countAt Reg.SORT_P_TERM p 1
      else (b2.sortRecord p w t bad).throttle

/-- `SORT_CTRL.count_clear` (R168). -/
def Bolov.sortClear (b : Bolov) : Bolov :=
  let b1 := forAll [Reg.SORT_OUTSIDE, Reg.SORT_POOL_LOSS, Reg.SORT_SKIPPED, Reg.SORT_MARGIN_CLOSE] (fun a => Bolov.clearCtr a 0) b
  forAll [Reg.SORT_P_EXCLUDED, Reg.SORT_P_LATE, Reg.SORT_P_LATE_DROP, Reg.SORT_P_REFUSED, Reg.SORT_P_TERM, Reg.SORT_P_AHEAD,
    Reg.SORT_P_TICK_ERR] (fun a => Bolov.clearCtrs a 128) b1

/-! ### Slice starts (R156, R200, R202) -/

/-- The slice is skipped (R156): a dead-time record for each region, each spanning the whole slice. -/
def Bolov.skipSlice (s : Slice) (stop : Tick) (b : Bolov) : Bolov :=
  let b1 := ((b.modSort (fun x => { x with
    slices := x.slices ++ [{ s with skipped := true, open' := 0, phase := .closed }]
    skips := s.num :: x.skips })).count
    Reg.SORT_SKIPPED 1).raise pgSort 3
  forUpTo 256 (fun r => Bolov.issueDt { cause := dtRate, scope := scRegion, sub := r, start := s.start, stop := stop, count := 0 }) b1

/-- The time flags of a slice header at its start tick (R139). -/
def Bolov.timeFlags (b : Bolov) : BitVec 5 :=
  BitVec.ofNat 5 (pack [(1, b2n b.time.todValid), (1, b2n b.time.locked), (1, b2n b.time.holdover), (1, b2n b.refShaky),
    (1, b2n (b.time.steppedAt == some b.up))])

/-- The slice that starts now opens, or is skipped while a bin of its column is not free (R156). -/
def Bolov.openSlice (b : Bolov) : Bolov :=
  let n := b.sort.nextSlice
  let stop := b.tick + BitVec.ofNat 48 b.sliceLen
  let s : Slice := { num := n, start := b.tick, cfg := b.sort.cfg, tod := b.time.tod, incr := b.time.incr,
                     timeFlags := b.timeFlags, stageAtStart := b.rate.stage, refused := b.refusals b.sort.cfg b.tick stop }
  let busy := b.sort.slices.any (fun x => !x.skipped && decide (x.num % 256 = n % 256))
  let b1 := b.modSort (fun x => { x with nextSlice := n + 1, nextStart := stop })
  if busy then b1.skipSlice s stop
  else b1.modSort (fun x => { x with slices := x.slices ++ [s] })

/-- A slice starts now: the engine runs, this is its tick, and no final slice lies before it. -/
def Bolov.sliceDue (b : Bolov) : Bool :=
  b.sort.running && b.sort.nextStart == b.tick &&
    (match b.sort.final with | some f => decide (b.sort.nextSlice ≤ f) | none => true)

/-! ### Meanings -/

/-- SORT_START (R146). -/
def execSortStart (s : State) : Out := onB s Bolov.sortStart

/-- SORT_STOP (R147). -/
def execSortStop (s : State) : Out := onB s Bolov.sortStop

/-- INPUT_QUEUE_ITEM (R153). -/
def execInputQueueItem (port : Fin 128) (flip : BitVec 65) (reads : List LineRead) (t : Tick) (s : State) : Out :=
  atB t s (fun b => (b.withFlaws reads).queueItem port flip)

/-- REGION_CLOSE_BY_MARGIN (R158). -/
def execRegionCloseByMargin (t : Tick) (s : State) : Out := atB t s Bolov.closeByMargin

/-- PORT_REFUSAL_SPAN_CLOSE (R151). -/
def execPortRefusalSpanClose (port : Fin 128) (t : Tick) (s : State) : Out := atB t s (Bolov.refusalClose port)

/-- LATE_DROP_SPAN_CLOSE (R161). -/
def execLateDropSpanClose (port : Fin 128) (t : Tick) (s : State) : Out := atB t s (Bolov.lateSpanClose port)

/-- SORT_COUNT_CLEAR (R169). -/
def execSortCountClear (s : State) : Out := onB s Bolov.sortClear

/-- QD_QUEUE_FLUSH (R251). -/
def execQdQueueFlush (port : Fin 128) (s : State) : Out := onB s (Bolov.queueFlush port)

end Sys2Proof.Machine
end

