-- ==== Sys2Proof/Machine/Twin.lean ====
section
/-!
DEFINITION. What a Pod does as frames are built and completed: Pod events, progress, twin records (14 R263, R267, R271, R277).
-/

namespace Sys2Proof.Machine

/-- The Pod page. -/
def pgPod : Nat := 0x00C

/-- Change the Pod state. -/
def Bolov.modPod (f : PodState → PodState) (b : Bolov) : Bolov := { b with pod := f b.pod }

/-- The code of a state (R266). -/
def PodSt.code : PodSt → Nat
  | .off => 0
  | .pairing => 1
  | .standby => 2
  | .active => 3
  | .takingOver => 4
  | .yielding => 5
  | .fenced => 6

/-- The state of a code. -/
def PodSt.ofCode : Nat → PodSt
  | 1 => .pairing
  | 2 => .standby
  | 3 => .active
  | 4 => .takingOver
  | 5 => .yielding
  | 6 => .fenced
  | _ => .off

/-! ### Pod events (R277) -/

/-- The slice in which something takes effect now: the newest started. -/
def Bolov.sliceNow (b : Bolov) : Nat := (b.sliceNumber b.tick).getD 0

/-- A Pod event. -/
def Bolov.podNotice (ev : Nat) (new old : PodSt) (dup r : Nat) (b : Bolov) : Bolov :=
  if b.ek4 then b
  else b.notice [word64 [(8, 5), (8, 3), (4, ev), (3, new.code), (3, old.code), (8, b.pod.health), (30, 0)],
      word64 [(16, b.pod.partnerLeaseId.toNat), (48, b.sliceNow)], word64 [(2, dup), (14, 0), (48, r)]] (some b.tick)

/-! ### Progress (R267) -/

/-- The sent-through slice moves on: the newest slice up to which every frame is completed. -/
def advanceThrough : Nat → Nat → List Nat → Nat × List Nat
  | 0, r, l => (r, l)
  | k + 1, r, l => if l.contains (r + 1) then advanceThrough k (r + 1) (l.filter (· != r + 1)) else (r, l)

/-- A frame of a slice has been completed. -/
def PodState.complete (n : Nat) (p : PodState) : PodState :=
  match p.through with
  | none => if n = 0 then { p with through := some 0 } else { p with through := some n, completed := [] }
  | some r =>
    let (r', l) := advanceThrough (p.completed.length + 1) r (n :: p.completed)
    { p with through := some r', completed := l }

/-! ### Twin records (R263, R271) -/

/-- A twin record waits to be sent, or is dropped. -/
def Bolov.queueTwin (r : TwinRec) (b : Bolov) : Bolov :=
  if b.pod.twinQ.length < 64 then b.modPod (fun p => { p with twinQ := p.twinQ ++ [r] })
  else b.count Reg.POD_TWIN_SKIP 1

/-- The active partner's record `r` is compared with the own record `t`. -/
def Bolov.twinCompare (r t : TwinRec) (b : Bolov) : Bolov :=
  if t.records % 2 ^ 24 = r.records ∧ t.digest = r.digest then b.count Reg.POD_TWIN_OK 1
  else if r.flags ≠ 0 ∨ t.flags ≠ 0 ∨ t.outage then b.count Reg.POD_TWIN_EXPL 1
  else (((b.count Reg.POD_TWIN_DIV 1).modPod (fun p => { p with diverged := b.up :: p.diverged })).podNotice 8
    b.pod.state b.pod.state 0 0).raise pgPod 5

/-- A slice is built: its record is kept, and compared where that of the active partner has come. -/
def Bolov.twinBuilt (t : TwinRec) (b : Bolov) : Bolov :=
  let mine := fun (r : TwinRec) => t.slice % 65536 == r.slice
  let b1 := b.modPod (fun p => { p with
    through := some (match p.through with | some r => max r t.slice | none => t.slice)
    built := t :: p.built
    twinWait := p.twinWait.filter (fun r => !mine r) })
  match b.pod.twinWait.find? mine with
  | some r => if b.pod.state = .standby ∧ !b.pod.silent then b1.twinCompare r t else b1
  | none => b1

end Sys2Proof.Machine
end

