-- ==== Sys2Proof/Machine/Output.lean ====
section
/-!
DEFINITION. The slice frame: its parts, its check, the emitter, frames built by a Pod partner and frames sent again (09
R174 to R182, R185, R188; 08 R154, R156; 10 R200, R201; 14 R267, R269, R271).
-/

namespace Sys2Proof.Machine

/-! ### Region blocks (R176, R177) -/

/-- A region block: its records as emitted and their calibration entries. -/
structure Block where
  region : Nat
  port : Nat
  feId : Nat
  flags : Nat
  recs : List W64
  entries : List Nat
deriving DecidableEq, Repr

/-- Calibration words: two entries each, the pad entry behind an odd count (R177). -/
def calWords : List Nat → List W64
  | [] => []
  | [e] => [word64 [(32, e), (32, 0x40000000)]]
  | e :: f :: l => word64 [(32, e), (32, f)] :: calWords l

/-- The words of a region block. -/
def Block.words (cal : Bool) (k : Block) : List W64 :=
  word64 [(8, k.region), (7, k.port), (1, 0), (16, k.feId), (7, k.flags), (4, 0), (21, k.recs.length)] ::
    k.recs ++ (if cal then calWords k.entries else [])

/-- The dead-time flags of region `r` and port `p` in a slice (R176): from bit 31 of the header down, cause 0 first. -/
def dtFlags (c : SliceCfg) (r p : Nat) (a z : Tick) (recs : List DtRec) : Nat :=
  let hit := fun (cause : Nat) => recs.any (fun d => d.cause == cause && decide (overlapTicks d.start d.stop a z > 0) &&
    (match d.scope with
     | 0 => d.port == p && c.region p (d.sub / 64) == some r
     | 1 => d.port == p && c.region p d.sub == some r
     | 2 => d.port == p
     | _ => d.sub == r))
  pack ((List.range 7).map (fun k => (1, b2n (hit k))))

/-- Every dead-time record the Bolov holds: issued, and open by stage 2 (R201). -/
def Bolov.heldRecords (b : Bolov) : List DtRec :=
  (b.issued.filterMap (fun x => if b.recent x.1 then some x.2 else none)) ++ b.rate.openRecs.filterMap (fun e => e.2.map (fun o =>
    { cause := dtRate, scope := scRegion, sub := e.1, start := o.start, stop := o.stop, count := dtCount o.count }))

/-- A chain of a slice. -/
def Bolov.chainOf (b : Bolov) (num key : Nat) : Chain :=
  match b.sort.slices.find? (fun s => s.num == num) with
  | some s => fget {} s.chains key
  | none => {}

/-- The records of a chain as the emitter reads them, from its line `k` on (R247, R250): type 10 from a poisoned line; behind a
poisoned link, type 10 and zero. The lines that stay out of reach are not returned. -/
def Bolov.readLines (num key : Nat) : List Nat → Nat → Bolov → Bolov × List W64 × List Nat
  | [], _, b => (b, [], [])
  | l :: rest, k, b =>
    let (b1, flip) := b.readLine false false (poolLine l)
    let recs := (b1.chainOf num key).recs.drop (4 * k)
    let mine := (recs.take 4).mapIdx (fun j w =>
      let v := w ^^^ flipWord flip j
      if b1.poisoned (poolLine l) then setFld v 63 62 2 else v)
    if rest.isEmpty then (b1, mine, [l])
    else
      let b2 := b1.readOnce (linkLine l)
      if b2.poisoned (linkLine l) then (b2, mine ++ (recs.drop 4).map (fun _ => setFld (0 : W64) 63 62 2), [l])
      else
        let (b3, ws, ls) := Bolov.readLines num key rest (k + 1) b2
        (b3, mine ++ ws, l :: ls)

/-- The tick of a record from its slice's start. -/
def recTick (start : Tick) (w : W64) : Tick := start + BitVec.ofNat 48 (recOffset w)

/-- A record as read for emission, with its context where that is read: the version it uses, and whether it is poisoned. -/
structure ReadRec where
  word : W64
  ctx : BitVec 128 := 0
  bad : Bool := false
deriving DecidableEq, Repr

/-- The contexts of the records of a port in a slice are read (R164). -/
def Bolov.readCtxs (start : Tick) (port : Nat) : List W64 → Bolov → Bolov × List ReadRec
  | [], b => (b, [])
  | w :: l, b =>
    let (b1, c, bad) := b.readCtx port w (recTick start w)
    let (b2, rs) := Bolov.readCtxs start port l b1
    (b2, ⟨w, c, bad⟩ :: rs)

/-- The class of a record's cell (R201). -/
def ReadRec.cls (r : ReadRec) : Nat := if r.bad then 0 else ctxClass r.ctx

/-- The calibration entry of an emitted record (R165). -/
def ReadRec.entry (r : ReadRec) : Nat := calEntry r.ctx r.bad r.word (recOffset r.word)

/-- The records of one region and port in a frame, and its pool lines, each with the records kept up to its end. -/
structure Part where
  region : Nat
  port : Nat
  recs : List ReadRec
  lines : List (Nat × Nat)
deriving DecidableEq, Repr

/-- The bin of a region and port is read: `ctx` says whether contexts are read too. -/
def Bolov.readPart (s : Slice) (ctx : Bool) (r p : Nat) (b : Bolov) : Bolov × Part :=
  let (b1, ws, lines) := b.readLines s.num (r * 128 + p) (b.chainOf s.num (r * 128 + p)).lines 0
  let (b2, recs) := if ctx then b1.readCtxs s.start p ws else (b1, ws.map (fun w => { word := w }))
  (b2, ⟨r, p, recs, lines.mapIdx (fun k l => (min ws.length (4 * (k + 1)), l))⟩)

/-- Every bin of a slice is read, in the order of R174. -/
def Bolov.readParts (s : Slice) (ctx : Bool) : List (Nat × Nat) → Bolov → Bolov × List Part
  | [], b => (b, [])
  | x :: l, b =>
    let (b1, part) := b.readPart s ctx x.1 x.2
    let (b2, parts) := Bolov.readParts s ctx l b1
    (b2, part :: parts)

/-- The records of a part without those that `out` removes. -/
def Part.without (out : ReadRec → Bool) (x : Part) : Part :=
  { x with recs := x.recs.filter (fun r => !out r)
           lines := x.lines.map (fun e => (((x.recs.take e.1).filter (fun r => !out r)).length, e.2)) }

/-- The words of a region block. -/
def Part.size (cal : Bool) (x : Part) : Nat :=
  let n := x.recs.length
  if n = 0 then 0 else 1 + n + (if cal then (n + 1) / 2 else 0)

/-- The pool lines of a frame, each with the words up to its last record (R155, R156), from word `at'` on. -/
def lineEnds (cal : Bool) : Nat → List Part → List (Nat × Nat)
  | _, [] => []
  | at', x :: l => x.lines.map (fun e => (if e.1 = 0 then at' else at' + 1 + e.1, e.2)) ++ lineEnds cal (at' + x.size cal) l

/-! ### Words of a frame as a receiver reads them (R176 to R178) -/

/-- The region blocks of a native frame from its words behind the header: records still to come, fuel. -/
def parseBlocks (cal : Bool) : Nat → Nat → List W64 → List Block × List W64
  | 0, _, ws => ([], ws)
  | _, 0, ws => ([], ws)
  | fuel + 1, left, ws =>
    match ws with
    | [] => ([], [])
    | h :: rest =>
      let n := fld h 20 0
      let recs := rest.take n
      let cw := if cal then (rest.drop n).take ((n + 1) / 2) else []
      let entries := (cw.flatMap (fun w => [fld w 63 32, fld w 31 0])).take n
      let (l, tail) := parseBlocks cal fuel (left - n) (rest.drop (n + cw.length))
      (⟨fld h 63 56, fld h 55 49, fld h 47 32, fld h 31 25, recs, entries⟩ :: l, tail)

/-- The hits that a native frame's words deliver: port and record, region blocks first, then the late block. -/
def frameHits (ws : List W64) : List (Nat × W64) :=
  let h5 := ws.getD 5 0
  let left := fld (ws.getD (ws.length - 2) 0) 31 0
  let (blocks, tail) := parseBlocks (bit h5.toNat 55) ws.length left (ws.drop 6)
  let late := (List.range (fld h5 38 28)).map (fun i => (fld (tail.getD (3 * i + 2) 0) 63 57, tail.getD (3 * i) 0))
  blocks.flatMap (fun k => k.recs.map (fun w => (k.port, w))) ++ late

/-! ### Checks (R180, R188, R271) -/

/-- The bytes of words in the order of R4. -/
def wordBytes (ws : List W64) : List Nat := ws.flatMap (fun w => bytesOf 8 w.toNat)

/-- The slice check over every word but the last and the upper half of the last (R180). -/
def sliceCheck (ws : List W64) : Nat :=
  crc32c ((wordBytes ws).take (8 * ws.length - 4))

/-- The words with the slice check in T1. -/
def withCheck (ws : List W64) : List W64 :=
  ws.take (ws.length - 1) ++ [setFld (ws.getLastD 0) 31 0 (sliceCheck ws)]

/-- The twin digest of region blocks (R271). -/
def twinDigest (cal : Bool) (blocks : List Block) : Nat :=
  (blocks.flatMap (fun k => (k.recs.zip (if cal then k.entries else k.recs.map (fun _ => 0))).map (fun x =>
    crc32c (bytesOf 2 k.feId ++ bytesOf 1 k.region ++ bytesOf 8 x.1.toNat ++ bytesOf 4 x.2)))).foldl (· + ·) 0 % 2 ^ 32

/-! ### Rate reduction as a frame begins (R200, R201) -/

/-- A marked slice is dropped at stage 1 or higher (R200). -/
def Bolov.dropsSlice (b : Bolov) (s : Slice) : Bool :=
  decide (b.rate.stage ≥ 1) && b.tpMarked s.start (b.sliceEnd s) && !b.protects s.start (b.sliceEnd s) && !s.skipped

/-- The chains of a slice with their region and port. -/
def Slice.parts (s : Slice) : List (Nat × Nat × Chain) := s.chains.map (fun e => (e.1 / 128, e.1 % 128, e.2))

/-- The dead-time records of a dropped slice (R200). -/
def Bolov.dropRecords (s : Slice) (b : Bolov) : Bolov :=
  forUpTo 256 (fun r b =>
    let n := ((s.parts.filter (fun x => x.1 == r)).map (fun x => x.2.2.recs.length)).foldl (· + ·) 0
    if n = 0 then b
    else b.issueDt { cause := dtRate, scope := scRegion, sub := r, start := s.start, stop := b.sliceEnd s, count := dtCount n })
    (b.count Reg.RATE_TP_DROPPED 1)

/-- The parts of a frame, after stages 1 and 2: a dropped slice frees its bins at once. -/
def Bolov.frameParts (b : Bolov) (s : Slice) : Bolov × List Part :=
  if b.dropsSlice s then
    (b.dropRecords s, s.parts.map (fun x => ⟨x.1, x.2.1, [], x.2.2.lines.map (fun l => (0, l))⟩))
  else
    let cal := s.cfg.cal && !b.ek4
    let (b1, all) := b.readParts s (cal || decide (b.rate.stage ≥ 2)) (s.parts.map (fun x => (x.1, x.2.1)))
    if b1.rate.stage < 2 then (b1, all)
    else
      let out := fun (x : Part) (r : ReadRec) => b1.prescaled s.cfg x.region r.word (recTick s.start r.word) r.cls
      let removed := fun (r : Nat) =>
        ((all.filter (fun x => x.region == r)).map (fun x => (x.recs.filter (out x)).length)).foldl (· + ·) 0
      (forUpTo 256 (fun r => Bolov.prescaleSlice r (removed r) s.start (b.sliceEnd s)) b1, all.map (fun x => x.without (out x)))

/-! ### Notices and the late block (R154, R160, R178, R179) -/

/-- Take the notices due in a frame whose slice ends at `stop`, in order, up to 4,095 words. -/
def takeNotices (stop : Tick) : List Notice → Nat → Bool → List W64 × List Notice
  | [], _, _ => ([], [])
  | n :: l, used, full =>
    let due := match n.after with | none => true | some a => later stop a
    if due && !full && decide (used + n.words.length ≤ 4095) then
      let (w, r) := takeNotices stop l (used + n.words.length) false
      (n.words ++ w, r)
    else
      let (w, r) := takeNotices stop l used (full || due)
      (w, n :: r)

/-- A late record is read (R178, R247, R250): its port and its three words. -/
def Bolov.readLate (cal : Bool) (r0 : LateRec) (b : Bolov) : Bolov × Nat × List W64 :=
  let (b1, flip) := b.readLine false false (lateLine r0.pos)
  let r := ((b1.sort.late.find? (fun x => x.pos == r0.pos)).getD r0).flip flip
  let w := if b1.poisoned (lateLine r0.pos) then setFld r.word 63 62 2 else r.word
  let (b2, entry) := if cal then let (b2, c, bad) := b1.readCtx r.port w r.tick; (b2, calEntry c bad w r.off) else (b1, 0)
  (b2, r.port, [w, word64 [(16, r.feId.toNat), (48, r.tick.toNat)], word64 [(7, r.port), (25, 0), (32, entry)]])

/-- The late records of a frame are read. -/
def Bolov.readLates (cal : Bool) : List LateRec → Bolov → Bolov × List (Nat × List W64)
  | [], b => (b, [])
  | r :: l, b =>
    let (b1, x) := b.readLate cal r
    let (b2, xs) := Bolov.readLates cal l b1
    (b2, x :: xs)

/-! ### Building a frame (R174, R175, R180, R188) -/

/-- Where a frame goes: its lane, and the bits of H5 that depend on it. -/
structure LanePick where
  lane : Nat
  redirected : Bool
  breach : Bool
deriving DecidableEq, Repr

/-- A frame as formed: its words, what it delivers, its twin record, the pool lines, its regions and its notices. -/
structure Formed where
  words : List W64
  hits : List (Nat × W64)
  twin : TwinRec
  lines : List (Nat × Nat)
  regions : BitVec 256
  notices : Bool
deriving DecidableEq, Repr

/-- H0 to H5 (R175). -/
def Bolov.headerWords (b : Bolov) (s : Slice) (pick : LanePick) (final : Bool) (blocks late notices : Nat) : List W64 :=
  [word64 [(16, 0x5CE1), (48, s.num)], word64 [(16, 0), (48, s.start.toNat)],
   word64 [(64, s.tod / 2 ^ 32 / 1000000000)],
   word64 [(2, 0), (30, s.tod / 2 ^ 32 % 1000000000), (32, s.tod % 2 ^ 32)],
   word64 [(40, s.incr), (5, s.timeFlags.toNat), (19, 0)],
   word64 [(4, s.cfg.epoch.toNat), (4, pick.lane), (1, b2n s.cfg.cal), (1, 0), (1, b2n s.skipped),
     (1, b2n (b.tpMarked s.start (b.sliceEnd s))), (1, b2n (decide (s.stageAtStart ≥ 1 ∨ b.rate.stage ≥ 1))),
     (1, b2n pick.breach), (1, b2n pick.redirected), (1, b2n final), (9, cap 511 blocks), (11, late), (12, notices),
     (16, s.cfg.streamId.toNat)]]

/-- A region block of a slice, from its part. -/
def Bolov.blockOf (b : Bolov) (s : Slice) (held : List DtRec) (cal : Bool) (x : Part) : Block :=
  { region := x.region, port := x.port, feId := (s.cfg.feId x.port).toNat, recs := x.recs.map ReadRec.word,
    flags := dtFlags s.cfg x.region x.port s.start (b.sliceEnd s) held,
    entries := if cal then x.recs.map ReadRec.entry else [] }

/-- The twin record of a frame (R271). -/
def Bolov.twinOf (b : Bolov) (s : Slice) (held : List DtRec) (cal : Bool) (blocks : List Block) (poisoned : Nat) : TwinRec :=
  { slice := s.num
    records := (blocks.map (fun k => k.recs.length)).foldl (· + ·) 0
    digest := twinDigest cal blocks
    flags := BitVec.ofNat 4 (pack [(1, b2n (decide (s.stageAtStart ≥ 1 ∨ b.rate.stage ≥ 1))), (1, b2n (decide (poisoned > 0))),
      (1, b2n (held.any (fun d => decide (overlapTicks d.start d.stop s.start (b.sliceEnd s) > 0)))), (1, b2n s.skipped)])
    outage := s.cfg.feeds.any (fun f => (b.port f.2).rx != .data) }

/-- Type-10 records of region blocks. -/
def poisonedIn (blocks : List Block) : Nat :=
  (blocks.map (fun k => (k.recs.filter (fun w => recType w == 2)).length)).foldl (· + ·) 0

/-- Form the native frame of a slice (R174): the notices it takes and its late records leave their queues. -/
def Bolov.formNative (s : Slice) (pick : LanePick) (b : Bolov) : Bolov × Formed :=
  let cal := s.cfg.cal
  let (b0, parts) := b.frameParts s
  let held := b0.heldRecords
  let blocks := (parts.filter (fun x => !x.recs.isEmpty)).map (b0.blockOf s held cal)
  let (b1, late) := b0.readLates cal (b0.sort.late.take 1024)
  let (nw, rest) := takeNotices (b.sliceEnd s) b1.notices 0 false
  let head := b1.headerWords s pick (b1.sort.final == some s.num) blocks.length late.length nw.length
  let body := blocks.flatMap (Block.words cal) ++ late.flatMap Prod.snd ++ nw
  let poisoned := poisonedIn blocks + (late.filter (fun x => recType (x.2.headD 0) == 2)).length
  let twin := b1.twinOf s held cal blocks poisoned
  let words := withCheck (head ++ body ++ [word64 [(32, head.length + body.length + 2), (32, twin.records)],
    word64 [(16, cap 65535 poisoned), (16, 0), (32, 0)]])
  ({ b1 with notices := rest, sort := { b1.sort with late := b1.sort.late.drop 1024 } },
   { words := words, twin := twin, lines := lineEnds cal 6 parts, notices := decide (nw.length > 0),
     hits := blocks.flatMap (fun k => k.recs.map (fun w => (k.port, w))) ++ late.map (fun x => (x.1, x.2.headD 0)),
     regions := BitVec.ofNat 256 (regionBits (blocks.map Block.region)) })

/-- Form the EK-4 event frame of a slice (R188). -/
def Bolov.formEk4 (s : Slice) (pick : LanePick) (b : Bolov) : Bolov × Formed :=
  let (b1, parts) := b.frameParts s
  let held := b1.heldRecords
  let blocks := (parts.filter (fun x => !x.recs.isEmpty)).map (b1.blockOf s held false)
  let body := blocks.flatMap (fun k =>
    word64 [(8, 0xCB), (8, k.region), (7, k.port), (16, k.feId), (25, k.recs.length)] :: k.recs)
  let head := [word64 [(8, 0xE4), (4, pick.lane), (4, 0), (48, s.start.toNat)],
    word64 [(32, s.num), (16, s.cfg.streamId.toNat), (16, cap 65535 blocks.length)]]
  let ws := head ++ body
  (b1, { words := ws ++ [word64 [(8, 0xE5), (24, ws.length + 1), (32, crc32 (wordBytes ws))]],
         hits := blocks.flatMap (fun k => k.recs.map (fun w => (k.port, w))), lines := lineEnds false 2 parts, notices := false,
         twin := b1.twinOf s held false blocks (poisonedIn blocks),
         regions := BitVec.ofNat 256 (regionBits (blocks.map Block.region)) })

/-- Form the frame of a slice. -/
def Bolov.form (s : Slice) (pick : LanePick) (b : Bolov) : Bolov × Formed :=
  if b.ek4 then b.formEk4 s pick else b.formNative s pick

/-- The delivered-hit counters of a frame's hits (R166). -/
def Bolov.deliverAll (hits : List (Nat × W64)) (b : Bolov) : Bolov :=
  forAll hits (fun h => Bolov.deliver h.1 h.2) b.syncWalk

/-! ### Beginning a frame (R182, R185, R187) -/

/-- The engine drains (R112): every link-down record still open, of a port out of data or before its first horizon back in data,
closes at the end of the final slice and is issued in its frame. -/
def Bolov.finalOutages (stop : Tick) (b : Bolov) : Bolov :=
  forAll (fkeys b.ports) (fun p b =>
    match (b.port p).downFrom with
    | some h =>
      if later stop h then
        (b.modPort p (fun x => { x with downFrom := none })).issueDt
          { cause := dtLinkDown, scope := scPort, port := p, start := h, stop := stop, count := dtUnknown,
            feId := ((b.cfgAt h).feId p).toNat }
      else b
    | none => b) b

/-- The named lane of a slice (R182, R250). -/
def Bolov.namedLane (n : Nat) (c : SliceCfg) (b : Bolov) : Bolov × Fin 16 :=
  let i := n % 256
  let (b1, lost) := b.tableRead (steeringLine 0 i) (steeringLine 1 i)
  (b1, Fin.ofNat 16 (if lost then i else c.lane i))

/-- The words still to come of a replay frame that is interrupted now (R185): `left` as far as the blocks allow. -/
def Bolov.replayLeft (n : Fin 16) (left : Nat) (b : Bolov) : Option (BitVec 16 × List W64) :=
  (b.lanes[n]).replay.map (fun r =>
    (r.1, r.2.drop (r.2.length - max left (r.2.length - b.wordsRoom (b.lanes[n]) b.up))))

/-- The lane takes a frame: its SOF block goes out, a replay in the middle waits (R172, R185); lines whose records are all read
return. -/
def Bolov.startFrame (n : Fin 16) (f : FrameOut) (left : Nat) (b : Bolov) : Bolov :=
  let sof := (0xB4#8, BitVec.ofNat 56 (pack [(16, 0), (32, f.words.length), (8, f.slice)]))
  let b1 := b.modLane n (fun l => { l with frame := some f, since := b.up, extra := 0, replay := b.replayLeft n left })
  (if b.ek4 then b1 else b1.laneSend n [sof]).linesBack n f 0

/-- Counters and events of a frame that begins on a lane (R190, R191). -/
def Bolov.countFrame (n : Fin 16) (redirected : Bool) (b : Bolov) : Bolov :=
  let b1 := b.countAt Reg.OUT_L_FRAMES n 1
  if redirected then (b1.countAt Reg.OUT_L_REDIRECT n 1).raise pgOut 3 else b1

/-- The closed slice whose frame is next. -/
def Bolov.nextClosed (b : Bolov) : Option Slice :=
  b.sort.slices.find? (fun s => s.num == b.sort.nextFrame && s.phase == .closed)

/-- The lane is free for a frame (R171, R182): 4,096 blocks have passed, and its previous live frame is finished. -/
def Bolov.laneFree (b : Bolov) (n : Fin 16) : Bool := (b.lanes[n]).started && (b.lanes[n]).frame.isNone

/-- An emitting Bolov begins the frame of a closed slice. -/
def Bolov.emitFrame (s : Slice) (left : Nat) (b : Bolov) : Bolov :=
  let (b0, named) := b.namedLane s.num s.cfg
  match b0.chooseLane named with
  | none => b
  | some n =>
    if !b0.laneFree n then b
    else
      let pick : LanePick := ⟨n.val, n != named, (b0.lanes[n]).breach⟩
      let b1 := if b0.sort.final = some s.num then b0.finalOutages (b0.sliceEnd s) else b0
      let (b2, f) := b1.form s pick
      let b3 := ((b2.modSort (fun x => { x with nextFrame := x.nextFrame + 1 })).modSlice s.num
        (fun x => { x with phase := .emitting })).deliverAll f.hits
      let b4 := b3.reserve 1 n f.words s.num s.tod f.regions f.notices
      (b4.startFrame n { slice := s.num, words := f.words, lines := f.lines, lane := n.val, twin := f.twin } left).countFrame
        n pick.redirected

/-! ### Completion (R156, R147, R267) -/

/-- The bins of a slice are freed at once, and their lines return (R267). -/
def Bolov.freeSlice (num : Nat) (lines : List (Nat × Nat)) (b : Bolov) : Bolov :=
  (b.modSort (fun x => { x with slices := x.slices.filter (fun s => s.num != num),
                                freeLines := x.freeLines ++ lines.map Prod.snd })).throttle

/-- The frames of every slice up to the final one have been completed: the engine stops (R147). -/
def Bolov.drained (b : Bolov) : Bolov :=
  match b.sort.final with
  | some f =>
    if b.sort.running ∧ b.sort.nextFrame = f + 1 ∧ b.sort.slices = [] ∧ b.pod.resend = none
        ∧ b.lanes.toList.all (fun l => l.frame.isNone) then
      ((b.modSort (fun x => { x with running := false, final := none })).raise pgSort 1).commitStopped
    else b
  | none => b

/-- A standby, taking-over or fenced partner builds the slice (R267): a kind 0x2 entry, no lane. -/
def Bolov.buildFrame (s : Slice) (b : Bolov) : Bolov :=
  let (b0, named) := b.namedLane s.num s.cfg
  let b1 := if b0.sort.final = some s.num then b0.finalOutages (b0.sliceEnd s) else b0
  let (b2, f) := b1.form s ⟨named.val, false, false⟩
  let b3 := (b2.modSort (fun x => { x with nextFrame := x.nextFrame + 1 })).reserve 2 named f.words s.num s.tod f.regions f.notices
  ((b3.freeSlice s.num f.lines).twinBuilt f.twin).drained

/-! ### Frames sent again in a takeover (R269) -/

/-- The built entry of a slice that is sent again: the words with their lane, flags and check. -/
def resendWords (ws : List W64) (pick : LanePick) (takeover : Bool) : List W64 :=
  let h5 := setFld (setFld (setFld (setFld (ws.getD 5 0) 59 56 pick.lane) 54 54 (b2n takeover)) 50 50 (b2n pick.breach))
    49 49 (b2n pick.redirected)
  withCheck (ws.set 5 h5)

/-- The next built frame is sent again. -/
def Bolov.resendFrame (num : Nat) (left : Nat) (b : Bolov) : Bolov :=
  let next := if num + 1 < b.sort.nextFrame then some (num + 1) else none
  match b.tarn.entries.reverse.find? (fun e => e.kind == 2 && e.slice == num) with
  | none => b.modPod (fun p => { p with resend := next })
  | some e =>
    let (b0, named) := b.namedLane num (b.cfgAt (b.sliceStart num))
    match b0.chooseLane named with
    | none => b
    | some n =>
      if !b0.laneFree n then b
      else
        let pick : LanePick := ⟨n.val, n != named, (b0.lanes[n]).breach⟩
        let ws := resendWords e.words pick (decide (num < b.pod.markTo))
        let twin := (b.pod.built.find? (fun t => t.slice == num)).getD { slice := num, records := 0, digest := 0, flags := 0 }
        let b1 := ((b0.deliverAll (frameHits ws)).reserve 1 n ws num e.tod e.regions e.notices).modPod
          (fun p => { p with resend := next })
        (b1.startFrame n { slice := num, words := ws, lines := [], lane := n.val, twin := twin, again := true } left).countFrame
          n pick.redirected

/-- FRAME_BEGIN: the next frame, if it may begin. After a takeover or a handover a slice before the first to emit is built (R269,
R270). -/
def Bolov.frameBegin (left : Nat) (b : Bolov) : Bolov :=
  if b.emits then
    match b.pod.resend with
    | some n => if b.pod.state = .yielding ∧ b.pod.x ≤ n then b else b.resendFrame n left
    | none =>
      match b.nextClosed with
      | some s =>
        if s.num < b.pod.emitFrom then b.buildFrame s
        else if b.pod.state = .yielding ∧ b.pod.x ≤ s.num then b
        else b.emitFrame s left
      | none => b
  else if b.pod.state = .pairing then b
  else
    match b.nextClosed with
    | some s => b.buildFrame s
    | none => b

/-- T1 of the frame on a lane may go out: the blocks since the SOF hold every word, no hold has stopped the lane (R186), and in a Pod
every frame of an earlier slice is completed and the T1 before lies 16 ticks back (R267). -/
def Bolov.mayComplete (b : Bolov) (n : Fin 16) (f : FrameOut) : Bool :=
  decide (f.words.length ≤ b.wordsRoom b.lanes[n] b.up) && !b.laneStopped b.lanes[n] &&
    (b.pod.state == .off ||
      (!b.lanes.toList.any (fun l => match l.frame with | some g => decide (g.slice < f.slice) | none => false) &&
        (match b.pod.lastT1 with | some u => decide (u + 16 ≤ b.up) | none => true)))

/-- The lane goes on after a live frame: a replay in the middle resumes (R185), or one cut meanwhile ends (R240); else idle blocks. -/
def Bolov.resumeLane (n : Fin 16) (b : Bolov) : Bolov :=
  let l := b.lanes[n]
  let bl := match l.cut, l.replay with
    | some id, _ => resumeBlock id 0
    | none, some (id, w) => if w.isEmpty then idleBlock else resumeBlock id w.length
    | none, none => idleBlock
  (b.modLane n (fun l => { l with frame := none, cut := none, since := b.up, extra := 0 })).laneSend n [bl]

/-- The last word of the history entry of a frame is sent. -/
def Bolov.entrySent (lane slice : Nat) (b : Bolov) : Bolov :=
  b.modTarn (fun t => { t with entries := t.entries.map (fun e =>
    if e.kind = 1 ∧ e.slice = slice ∧ e.lane = lane ∧ e.sent = none then { e with sent := some b.up } else e) })

/-- FRAME_COMPLETE: the last word of the frame on a lane is sent. -/
def Bolov.frameComplete (n : Fin 16) (b : Bolov) : Bolov :=
  match (b.lanes[n]).frame with
  | none => b
  | some f =>
    if !b.mayComplete n f then b
    else
      let b1 := (((b.linesBack n f f.words.length).resumeLane n).entrySent n f.slice).throttle
      let b2 := b1.modPod (fun p => { p.complete f.slice with lastT1 := some b.up })
      (if b2.pod.state = .off then b2 else b2.queueTwin f.twin).drained

/-! ### Meanings -/

/-- FRAME_BEGIN (R182): `left` are the words still to come of a replay frame that the live frame interrupts. -/
def execFrameBegin (left : Nat) (reads : List LineRead) (t : Tick) (s : State) : Out :=
  atB t s (fun b => (b.withFlaws reads).syncMerge.frameBegin left)

/-- FRAME_COMPLETE (R156). -/
def execFrameComplete (lane : Fin 16) (t : Tick) (s : State) : Out := atB t s (Bolov.frameComplete lane)

end Sys2Proof.Machine
end

