-- ==== Sys2Proof/Machine/Port.lean ====
section
/-!
DEFINITION. The ports: block lock and states, control words, delay measurement, downlink frames, eye scans (06 R104 to
R121; 08 R149, R150; 05 R93; 11 R221).
-/

namespace Sys2Proof.Machine

/-! ### Leaving and entering data (R112) -/

/-- A port goes back to acquiring; leaving data opens a link-down record from the last horizon. -/
def Bolov.portDown (p : Nat) (b : Bolov) : Bolov :=
  let x := b.port p
  let was := x.rx == .data
  let b1 := b.modPort p (fun x =>
    { x with
      rx := .acquiring, goodHeaders := 0, headers := [], goodControl := 0, words := 0, failedAt := [], base := none, publish := {}, inTest := false
      downFrom := if was then (match x.downFrom with
        | some h => some h
        | none => some (match x.lastH with | some h => h | none => b.tick)) else x.downFrom })
  if was then { b1.raisePort p 0 with pod := { b1.pod with leftData := (b1.up, p) :: b1.pod.leftData } } else b1

/-- A horizon that returns the port to the stream closes its link-down record. -/
def Bolov.closeOutage (p : Nat) (h : Tick) (b : Bolov) : Bolov :=
  match (b.port p).downFrom with
  | some a =>
    let b1 := b.modPort p (fun x => { x with downFrom := none })
    if later h a then b1.issueDt { cause := dtLinkDown, scope := scPort, port := p, start := a, stop := h, count := dtUnknown,
                                   feId := ((b.cfgAt a).feId p).toNat } else b1
  | none => b

/-- A horizon or frame header breaks the order of R150. -/
def Bolov.tickErr (p : Nat) (b : Bolov) : Bolov := (b.countAt Reg.SORT_P_TICK_ERR p 1).raise pgSort 6

/-- FRAME_HEADER_RECEIVED (R112, R150). -/
def Bolov.frameHeader (p : Nat) (base : Tick) (b : Bolov) : Bolov :=
  let x := b.port p
  match x.rx with
  | .ready => (b.modPort p (fun x => { x with rx := .data, base := some base, lastH := none, beenData := x.beenData || decide (b.up ≤ x.txAt + 10 * ticksMs) })).raisePort p 1
  | .data =>
    let b1 := if x.base.all (fun o => base == o + 4096) then b else b.tickErr p
    b1.modPort p (fun x => { x with base := some base })
  | _ => b

/-- HORIZON_RECEIVED (R149, R150). -/
def Bolov.horizon (p : Nat) (h : Tick) (b : Bolov) : Bolov :=
  let x := b.port p
  if x.rx ≠ .data then b
  else if x.lastH.any (fun l => later l h) then b.tickErr p
  else (b.closeOutage p h).modPort p (fun x => { x with lastH := some h, queue := x.queue ++ [.marker h] })

/-- DEAD_TIME_REPORT_RECEIVED (R93). -/
def Bolov.deadTimeReport (p payload : Nat) (b : Bolov) : Bolov :=
  let cause := bits payload 47 46
  if (b.port p).rx = .acquiring ∨ cause > 1 then b
  else
    let start := rebuild (b.lastH p - BitVec.ofNat 48 61440) 16 (bits payload 15 0)
    b.issueDt { cause := if cause = 0 then dtAdmission else dtFlush, scope := scTile, port := p, sub := bits payload 45 41,
                start := start, stop := start + BitVec.ofNat 48 (bits payload 27 16), count := bits payload 40 28,
                feId := ((b.cfgAt start).feId p).toNat }

/-! ### Delay measurement (R116, R117, R221) -/

/-- The unit named by `QD_LINK_CTRL.unit`. -/
def Bolov.measureUnit (b : Bolov) (p : Nat) : Fin 4 := Fin.ofNat 4 (b.regFld (Reg.QD_LINK_CTRL p) 7 6)

/-- A measurement starts, unless one runs or its unit is held. -/
def Bolov.measureStart (p : Nat) (b : Bolov) : Bolov :=
  let n := b.measureUnit p
  if (b.port p).measure.isSome ∨ (b.unit n).link.isSome then b
  else
    let m : Measure := { unit := n, want := 2 ^ b.regFld (Reg.QD_LINK_CTRL p) 19 16, seq0 := (b.unit n).result.seq }
    (b.isTake n p).modPort p (fun x => { x with measure := some m })

/-- The open sample of a port's unit is dropped without being counted (R221). -/
def Bolov.dropSample (p : Nat) (b : Bolov) : Bolov :=
  match (b.port p).measure with
  | some m => b.modUnit m.unit (fun u => { u with opened := none, edges := 0 })
  | none => b

/-- ECHO_REPLY_RECEIVED (R116, R212): the lag is accepted when the reply carries the tag of the ECHO sent last and the first lag
of the series; otherwise the port's sample is dropped. Every reply is an edge of the port's echo return. -/
def Bolov.echoReply (p payload : Nat) (z : Stamp) (b : Bolov) : Bolov :=
  if (b.port p).rx = .acquiring then b
  else
    let lag := bits payload 19 0
    let b1 := b.modPort p (fun x => { x with downlink := bits payload 39 39 })
    match (b1.port p).measure with
    | none => b1.isEdge (8, false, p) z true
    | some m =>
      if m.tag == some (bits payload 47 40) && m.lag.all (· == lag) then
        (b1.modPort p (fun x => { x with lag := lag, measure := some { m with lag := some lag } })).isEdge (8, false, p) z true
      else (b1.dropSample p).isEdge (8, false, p) z true

/-- d_down and d_up from a mean in 2^-18 ns, a lag in 2.5 ps and `QD_ASYM`, in 2^-18 ÷ 800 ns (R116): K is 1.150 ns. -/
def delayDown (mean : Int) (lag : Nat) (asym : Int) : Int :=
  mean * 400 - (lag * 2 ^ 18 : Nat) + (460 * 2 ^ 18 : Nat) + asym * (800 * 2 ^ 8 : Nat)
def delayUp (mean : Int) (lag : Nat) (asym : Int) : Int :=
  2 * (mean * 400 - (lag * 2 ^ 18 : Nat)) - delayDown mean lag asym

/-- whole and code of a downlink delay (R116). -/
def phaseOf (d : Int) : Nat × Nat :=
  let whole := ceilTicks d
  let code := (roundDivI ((whole * (2500 * 2 ^ 18) : Nat) - d) (2 ^ 19)).toNat
  if code = 1250 then (whole + 1, 0) else (whole, code)

/-- A CONFIG write that the Bolov sends of its own accord. -/
def Bolov.ownWrite (p addr : Nat) (v : Nat) (b : Bolov) : Bolov :=
  b.sendOwned p { op := fConfig, arg := 0, payload := payloadConfig (Config.ownTag b.up).toNat 1 addr v }

/-- The value of `LK_PHASEn` (R120). -/
def phaseWord (whole code : Nat) : Nat := pack [(1, 1), (10, 0), (10, whole), (11, code)]

/-- The fe_id of the Jilek on a port, as it is in force. -/
def Bolov.feIdNow (b : Bolov) (p : Nat) : BitVec 16 := b.sort.cfg.feId p

/-- An accepted measurement (R116, R268): the phase goes to the Jilek, the partner's too, or to the partner. -/
def Bolov.phaseOut (p : Nat) (b : Bolov) : Bolov :=
  let (whole, code) := phaseOf (b.port p).dDown
  let b1 := if b.regBit (Reg.QD_LINK_CTRL p) 2 then
      b.ownWrite p (Reg.LK_PHASE (b.port p).downlink) (phaseWord whole code) else b
  let b2 := if (b1.port p).rx = .ready then b1.sendOwned p { op := fTickSync, arg := 0, payload := 0 } else b1
  match b2.pod.state with
  | .active => match fget none b2.pod.phases (b2.feIdNow p).toNat with
    | some w => b2.ownWrite p (Reg.LK_PHASE (if b2.regBit Reg.POD_CTRL 1 then 1 else 0)) (phaseWord w.1 w.2)
    | none => b2
  | .standby => { b2 with pod := { b2.pod with phaseQ := b2.pod.phaseQ ++ [(b2.feIdNow p, whole, code)] } }
  | _ => b2

/-- DELAY_MEASURE_END (R116, R117): the port posts, accepts or rejects, and gives the unit back. -/
def Bolov.measureEnd (p : Nat) (b : Bolov) : Bolov :=
  match (b.port p).measure with
  | none => b
  | some m =>
    if m.sent < m.want then b
    else
      let b1 := if (b.unit m.unit).acc.count > 0 then b.isPost m.unit true else b
      let r := (b1.unit m.unit).result
      let asym := signed 16 (b1.reg (Reg.QD_ASYM p)).toNat
      let lag := m.lag.getD 0
      let down := delayDown r.mean lag asym
      let up := delayUp r.mean lag asym
      let bad := r.seq == m.seq0 || decide (down > (2000 * delayNs : Nat)) || decide (up > (2000 * delayNs : Nat)) ||
        decide (2 * r.acc.count < m.want) || decide (r.sd * 50 > 2 ^ 18)
      let b2 := (b1.isGive m.unit).modPort p (fun x => { x with measure := none })
      if bad then (b2.modPort p (fun x => { x with delayFault := true })).raisePort p 3
      else ((b2.modPort p (fun x => { x with delayValid := true, delayFault := false, dDown := down, dUp := up })).raisePort p 2).phaseOut p

/-! ### Blocks (R104, R105, R112) -/

/-- The port has reached ready. -/
def Bolov.portReady (p : Nat) (b : Bolov) : Bolov :=
  let b1 := b.modPort p (fun x => { x with rx := .ready })
  if b1.regBit (Reg.QD_LINK_CTRL p) 3 then b1.measureStart p else b1

/-- A control word: its check, and the way to ready or back to acquiring. -/
def Bolov.controlIn (p : Nat) (w : W64) (b : Bolov) : Bolov :=
  if controlOk w then
    let b1 := b.modPort p (fun x => { x with goodControl := x.goodControl + 1 })
    if (b1.port p).rx = .blockLock ∧ (b1.port p).goodControl ≥ 64 then b1.portReady p else b1
  else
    let b1 := b.countAt (Reg.QD_CW_ERR p) 0 1
    let b2 := if fld w 61 56 = sEcho then b1.dropSample p else b1
    let b3 := b2.modPort p (fun x => { x with goodControl := 0,
                                              failedAt := x.words :: x.failedAt.filter (fun n => decide (x.words < n + 1024)) })
    if (b3.port p).failedAt.length ≥ 16 then b3.portDown p else b3

/-- UPLINK_BLOCK_RECEIVED (R103, R104): a sync header and the 64 line bits after it, which are descrambled. -/
def Bolov.blockIn (p : Nat) (header : BitVec 2) (line : W64) (b : Bolov) : Bolov :=
  if !b.domOn (p / 4) then b else
  let ok := header == 1
  let w := descramble (b.port p).scr line
  let b := b.modPort p (fun x => { x with scr := lineTail line })
  let b1 := if ok then b else b.countAt (Reg.QD_SYNC_ERR p) 0 1
  if (b1.port p).rx = .acquiring then
    let n := if ok then (b1.port p).goodHeaders + 1 else 0
    b1.modPort p (fun x => { x with goodHeaders := n, rx := if n ≥ 64 then .blockLock else .acquiring })
  else
    let b2 := b1.modPort p (fun x => { x with headers := ((!ok) :: x.headers).take 64, words := x.words + 1 })
    if ((b2.port p).headers.filter id).length ≥ 16 then b2.portDown p
    else if !ok then b2
    else if recType w = tControl then b2.controlIn p w
    else if (b2.port p).rx = .data then b2.queueWord p w
    else b2

/-- `QD_LINK_CTRL.count_clear` (R121). -/
def Bolov.portClear (p : Nat) (b : Bolov) : Bolov := (b.clearCtr (Reg.QD_SYNC_ERR p) 0).clearCtr (Reg.QD_CW_ERR p) 0

/-! ### Downlink frames (R107, R109) -/

/-- The next command of a port (R109): LEASE first, then the order of issue; and the commands that stay. -/
def nextCommand (l : List PortCmd) : Option (PortCmd × List PortCmd) :=
  match l.find? (fun c => c.op == fLease) with
  | some c => some (c, dropFirst (fun c => c.op == fLease) l)
  | none => match l with
    | c :: rest => some (c, rest)
    | [] => none

/-- A frame carries a remote request (R330), or a command of a go (R332); the first frame that carries a TEST_PULSE generates a mark
(R193). -/
def Bolov.commandSent (c : PortCmd) (b : Bolov) : Bolov :=
  let b1 := match c.request with
    | some q => { b with rmt := { b.rmt with requests := b.rmt.requests.map (fun r =>
        if r.seq = q then { r with sentAt := some (b.up + 16) } else r) } }
    | none => b
  if c.fc then
    let b2 := if c.op = fTestPulse ∧ !b1.rmt.fcBegun then b1.testPulseSent (BitVec.ofNat 48 (c.payload / 2 ^ 48)) else b1
    { b2 with rmt :=
      { b2.rmt with
        fcBegun := true
        fcSent := if b2.rmt.fcBegun then b2.rmt.fcSent else b2.tick
        fcBusy := b2.ports.any (fun e => e.2.commands.any (fun x => x.fc)) } }
  else b1

/-- DOWNLINK_FRAME_SEND (R107, R109): the frame of the port at a multiple of 16. -/
def Bolov.downSend (p : Nat) (b : Bolov) : Bolov :=
  if b.tick.toNat % 16 ≠ 0 ∨ !b.txOn p then b
  else
    let x := b.port p
    let echo := match x.measure with
      | some m => decide (b.tick.toNat % 1056 = 0 ∧ m.sent < m.want)
      | none => false
    let ready := x.rx == .ready || x.rx == .data
    let put := fun (op arg payload : Nat) (b : Bolov) =>
      b.modPort p (fun x => { x with
        txFrame := some (scrambleFrame (downFrame ready (bit b.tick.toNat 4) (fastField op arg) payload)) })
    if echo then
      let sent := match x.measure with | some m => m.sent | none => 0
      ((put fEcho (sent % 256) 0 b).modPort p (fun x =>
        { x with measure := x.measure.map (fun m => { m with sent := m.sent + 1, tag := some (sent % 256) }) })).isEdge (7, false, p) ⟨b.tick, 0⟩ true
    else match nextCommand x.commands with
      | some (c, rest) =>
        (put c.op c.arg (if c.op = fTickSync then payloadTick b.tick.toNat else c.payload)
          (b.modPort p (fun x => { x with commands := rest }))).commandSent c
      | none => put fNop 0 0 b

/-! ### Eye scans (R119) -/

/-- `QD_EYE.start`, and the end of the scan: 2^24 bits at 32 bits a tick. -/
def Bolov.eyeStart (p : Nat) (b : Bolov) : Bolov :=
  (b.modPort p (fun x => { x with eye := some b.up })).setRegBit (Reg.QD_EYE p) 30 false
def Bolov.eyeDone (p errors : Nat) (b : Bolov) : Bolov :=
  match (b.port p).eye with
  | some u =>
    if u + 2 ^ 19 ≤ b.up then
      (b.modPort p (fun x => { x with eye := none })).setReg (Reg.QD_EYE p)
        (setFld (setBit (b.reg (Reg.QD_EYE p)) 30 true) 11 0 (cap 4095 errors))
    else b
  | none => b

/-! ### Meanings -/

/-- UPLINK_BLOCK_RECEIVED (R104). -/
def execUplinkBlockReceived (port : Fin 128) (header : BitVec 2) (line : W64) (t : Tick) (s : State) : Out :=
  atB t s (Bolov.blockIn port header line)

/-- FRAME_HEADER_RECEIVED (R150). -/
def execFrameHeaderReceived (port : Fin 128) (base : BitVec 48) (t : Tick) (s : State) : Out :=
  atB t s (Bolov.frameHeader port base)

/-- HORIZON_RECEIVED (R150). -/
def execHorizonReceived (port : Fin 128) (h : BitVec 48) (t : Tick) (s : State) : Out := atB t s (Bolov.horizon port h)

/-- ECHO_REPLY_RECEIVED (R116): the sync header arrives `f` × 2.5 ps before tick edge `t`. -/
def execEchoReplyReceived (port : Fin 128) (payload : BitVec 48) (f : Nat) (t : Tick) (s : State) : Out :=
  atB t s (Bolov.echoReply port payload.toNat ⟨t, f⟩)

/-- DEAD_TIME_REPORT_RECEIVED (R93). -/
def execDeadTimeReportReceived (port : Fin 128) (payload : BitVec 48) (t : Tick) (s : State) : Out :=
  atB t s (Bolov.deadTimeReport port payload.toNat)

/-- DELAY_MEASURE_START (R116). -/
def execDelayMeasureStart (port : Fin 128) (s : State) : Out := onB s (Bolov.measureStart port)

/-- DELAY_MEASURE_END (R117). -/
def execDelayMeasureEnd (port : Fin 128) (t : Tick) (s : State) : Out := atB t s (Bolov.measureEnd port)

/-- QD_COUNT_CLEAR (R121). -/
def execQdCountClear (port : Fin 128) (s : State) : Out := onB s (Bolov.portClear port)

/-- DOWNLINK_FRAME_SEND (R107). -/
def execDownlinkFrameSend (port : Fin 128) (t : Tick) (s : State) : Out := atB t s (Bolov.downSend port)

/-- EYE_SCAN_START (R119): at a Jilek downlink receiver, or at a port. -/
def execEyeScanStart (jilek : Bool) (index : Fin 128) (s : State) : Out :=
  if jilek then onJ s (Jilek.eyeStart (Fin.ofNat 2 index)) else onB s (Bolov.eyeStart index)

/-- EYE_SCAN_DONE (R119). -/
def execEyeScanDone (jilek : Bool) (index : Fin 128) (errors : Nat) (t : Tick) (s : State) : Out :=
  if jilek then atJ t s (Jilek.eyeDone (Fin.ofNat 2 index) errors) else atB t s (Bolov.eyeDone index errors)

end Sys2Proof.Machine
end

