-- ==== Sys2Proof/Machine/Pod.lean ====
section
/-!
DEFINITION. Pods: states, cross-link, pairing, leases, takeover, handover, twin check, health, fence (14 R261 to R280).
-/

namespace Sys2Proof.Machine

/-- This partner is preferred. -/
def Bolov.preferred (b : Bolov) : Bool := b.regBit Reg.POD_CTRL 1

/-- The lease ID of this Bolov. -/
def Bolov.leaseId (b : Bolov) : Nat := b.regFld Reg.POD_LEASE_ID 15 0

/-! ### Changes of state (R266, R277, R280) -/

/-- The event code of a state entered without a takeover or handover. -/
def podCode (new old : PodSt) : Nat :=
  match new with
  | .standby => 3
  | .fenced => 7
  | _ => (Config.podEventCode new.code old.code).toNat

/-- A change of state (R266, R277, R280). -/
def Bolov.podGo (new : PodSt) (ev dup r : Nat) (b : Bolov) : Bolov :=
  let old := b.pod.state
  ((b.modPod (fun p => { p with state := new, entered := b.up, released := false, windowOver := false, tail := false })).podNotice
    ev new old dup r).raise pgPod 0

/-- A change of state of no code of its own. -/
def Bolov.podMove (new : PodSt) (b : Bolov) : Bolov := b.podGo new (podCode new b.pod.state) 0 0

/-- Into standby (R266, R268): the phase of every measured port is sent to the partner. -/
def Bolov.podStandby (tail : Bool) (b : Bolov) : Bolov :=
  (b.podMove .standby).modPod (fun p =>
    { p with
      byHandover := false
      fitSince := none
      resend := none
      tail := tail
      phaseQ := p.phaseQ ++ (fkeys b.ports).filterMap (fun q =>
        if (b.port q).delayValid then let w := phaseOf (b.port q).dDown; some (b.feIdNow q, w.1, w.2) else none) })

/-! ### Pairing (R265) -/

/-- Pairing starts again. -/
def PodState.pairAgain (p : PodState) : PodState := { p with arrival := none, rounds := 0, tickSent := false, lostOnce := false }

/-- The conditions of a tick load (R124). -/
def Bolov.mayLoadTick (b : Bolov) : Bool := !b.sort.running && !b.anyPortData

/-- Tick content arrives in pairing: `a` is the partner's offset, `own` the tick at the arrival, `carried` the partner's. The partner
cannot have recorded an offset before it was sent tick content (log entry 184). -/
def Bolov.pairRound (own carried : Tick) (a : Int) (b : Bolov) : Bolov :=
  if b.pod.state ≠ .pairing then b
  else
    let mine : Int := signed 48 (own - carried).toNat
    let o := roundDivI (mine - a) 2
    let b0 := b.modPod (fun p => { p with arrival := some mine })
    if !b.pod.tickSent then b0
    else
      let b1 := b0.modPod (fun p => { p with rounds := if o = 0 then p.rounds + 1 else 0 })
      let b2 := if o ≠ 0 ∧ !b1.preferred ∧ b1.mayLoadTick then
          ({ b1 with tick := b1.tick - BitVec.ofInt 48 o }).isTickLoaded
        else b1
      if b2.pod.rounds ≥ 3 then (b2.modPod (fun p => { p with lostOnce := false })).podStandby false else b2

/-! ### Taking over (R266, R268) -/

/-- Into taking over. -/
def Bolov.podTakeOver (byHandover : Bool) (x : Nat) (b : Bolov) : Bolov :=
  (b.podMove .takingOver).modPod (fun p => { p with
    byHandover := byHandover, x := x, wasSilent := b.pod.silent, entryFrame := b.sort.nextFrame })

/-- The ports in ready or data. -/
def Bolov.livePorts (b : Bolov) : List Nat :=
  (fkeys b.ports).filter (fun p => (b.port p).rx == .ready || (b.port p).rx == .data)

/-- A standby partner takes over where no Jilek has an owner (R266). -/
def Bolov.podCheckOwners (b : Bolov) : Bolov :=
  if b.pod.state = .standby ∧ b.livePorts.all (fun p => !(b.port p).leaseOwned) ∧ (b.preferred ∨ b.pod.lostOnce) then
    b.podTakeOver false 0
  else b

/-- LEASE to a port (R109): 0 claim, 1 renew, 2 release. -/
def Bolov.sendLease (op p : Nat) (b : Bolov) : Bolov := b.send p { op := fLease, arg := op, payload := payloadLease b.leaseId }

/-- POD_LEASE_RENEW_TIMER (R268). -/
def Bolov.renewLeases (b : Bolov) : Bolov :=
  if b.tick.toNat % 1024 = 0 ∧ (b.pod.state = .active ∨ b.pod.state = .off) then
    forAll (fkeys b.ports) (fun p b => if (b.port p).owner then b.sendLease 1 p else b) b
  else b

/-- POD_CLAIM_TIMER (R268). -/
def Bolov.claimLeases (b : Bolov) : Bolov :=
  let b := b.podCheckOwners
  match b.pod.state with
  | .active | .off =>
    if b.tick.toNat % 128 = 0 then
      forAll b.livePorts (fun p b => if (b.port p).leaseOwned then b else b.sendLease 0 p) b
    else b
  | .takingOver =>
    if b.tick.toNat % 128 = 0 ∧ !b.pod.windowOver ∧ !b.livePorts.all (fun p => (b.port p).owner) then
      forAll b.livePorts (Bolov.sendLease 0) b
    else b
  | .standby => if b.pod.silent && b.tick.toNat % 8192 == 0 then forAll b.livePorts (Bolov.sendLease 0) b else b
  | _ => b

/-- The end of the claim window, as a count of tick edges (R268). -/
def Bolov.claimWindow (b : Bolov) : Nat := b.pod.entered + 8192 + 2 * ((List.range 128).map b.dly).foldl max 0

/-- CLAIM_WINDOW_END. -/
def Bolov.windowEnd (b : Bolov) : Bolov :=
  if b.pod.state = .takingOver ∧ b.up ≥ b.claimWindow then b.modPod (fun p => { p with windowOver := true }) else b

/-! ### Fence (R275) -/

/-- POD_FENCE_OUT is asserted. -/
def Bolov.fenceAssert (b : Bolov) : Bolov :=
  if b.pod.fenceOut then b
  else
    let b1 := (b.modPod (fun p => { p with fenceOut := true, fenceAt := b.up })).count Reg.POD_FENCE_COUNT 1
    (b1.podNotice 6 b.pod.state b.pod.state 0 0).raise pgPod 3

/-- POD_FENCE_OUT is released. -/
def Bolov.fenceRelease (b : Bolov) : Bolov := b.modPod (fun p => { p with fenceOut := false })

/-- POD_FENCE_IN as it stands: a partner of a Pod that sees it asserted is fenced; a preferred partner ignores it for 2 µs after its
own assertion. -/
def Bolov.fenceSeen (b : Bolov) : Bolov :=
  let ignored := b.preferred && b.pod.fenceOut && decide (b.up < b.pod.fenceAt + 640)
  if !b.pod.fenceIn ∨ b.pod.state = .off ∨ b.pod.state = .fenced ∨ ignored then b
  else (b.podMove .fenced).fenceRelease.raise pgPod 4

/-- POD_FENCE_IN is asserted. -/
def Bolov.fenceInSet (b : Bolov) : Bolov := (b.modPod (fun p => { p with fenceIn := true })).fenceSeen

/-- POD_CTRL.rejoin (R266). -/
def Bolov.podRejoin (b : Bolov) : Bolov :=
  if b.pod.state = .fenced ∧ !b.pod.fenceIn then (b.modPod PodState.pairAgain).podMove .pairing else b

/-! ### Enabling (R265, R266) -/

/-- `POD_CTRL.en` = 1: with the engine running or a port in data the write is ignored. -/
def Bolov.podEnable (b : Bolov) : Bolov :=
  if b.sort.running ∨ b.anyPortData then b.setRegBit Reg.POD_STATUS 24 true
  else if b.regBit Reg.POD_CTRL 0 then b
  else (((b.setRegBit Reg.POD_CTRL 0 true).modPod (fun p => { p.pairAgain.newRun with built := [], twinWait := [] })).podMove
    .pairing).fenceSeen

/-- `POD_CTRL.en` = 0: any state to off. -/
def Bolov.podDisable (b : Bolov) : Bolov :=
  let b1 := b.setRegBit Reg.POD_CTRL 0 false
  if b1.pod.state = .off then b1 else b1.podMove .off

/-! ### A refused claim, lease statuses (R268) -/

/-- The partner becomes silent (R268, R275). -/
def Bolov.podSilent (b : Bolov) : Bolov :=
  let b1 := ((b.podStandby false).modPod (fun p => { p with silent := true })).count Reg.POD_CLAIM_REFUSED 1
  let b2 := (b1.podNotice 9 .standby .takingOver 0 0).raise pgPod 6
  if b2.regBit Reg.POD_CTRL 2 then b2.fenceAssert else b2

/-- All leases of a yielding partner are released: standby (R266). -/
def Bolov.podYielded (b : Bolov) : Bolov :=
  if b.pod.state = .yielding ∧ b.pod.released ∧ !(fkeys b.ports).any (fun p => (b.port p).owner) then b.podStandby true else b

/-- A lease status of a port (R106, R118): outcome, and the owner it names. -/
def Bolov.leaseStatus (p outcome arg : Nat) (b : Bolov) : Bolov :=
  let owned := decide (bits arg 15 14 ≠ 0)
  let id := bits arg 31 16
  let mine := owned && id == b.leaseId
  let b1 := b.modPort p (fun x => { x with owner := mine, leaseOwned := owned, leaseOwnerId := BitVec.ofNat 16 id })
  let b2 := if owned && !mine then b1.modPod (fun q => { q with partnerLeaseId := BitVec.ofNat 16 id }) else b1
  let b3 := if outcome = 3 ∧ !mine ∧ b2.pod.state = .takingOver ∧ b2.pod.windowOver then b2.podSilent else b2
  b3.podYielded.podCheckOwners

/-! ### Becoming active (R269, R270) -/

/-- A slice starts now, or the engine is stopped. -/
def Bolov.atSliceStart (b : Bolov) : Bool :=
  !b.sort.running || (decide (0 ≤ b.sliceNum b.tick) && b.inSliceOffset b.tick == 0)

/-- The first slice to emit from slice `n` on (R269): that slice, or the oldest one still in Tarn or in the bins. -/
def Bolov.resendFrom (b : Bolov) (n : Nat) : Nat :=
  let have' := b.tarn.entries.filter (fun e => e.kind == 2 && decide (n ≤ e.slice ∧ e.slice < b.sort.nextFrame))
  match (if b.tarnOn then have' else []) with
  | [] => max n b.sort.nextFrame
  | e :: l => l.foldl (fun m x => min m x.slice) e.slice

/-- The slice before slice `n`. -/
def before (n : Nat) : Option Nat := if n = 0 then none else some (n - 1)

/-- The slice after one, slice 0 before the first. -/
def after : Option Nat → Nat
  | some r => r + 1
  | none => 0

/-- TAKEOVER_ACTIVATE: after a handover the first slice is X, after a takeover r + 1; slices before it are not emitted again. -/
def Bolov.podActivate (b0 : Bolov) : Bolov :=
  let b := b0.fenceSeen
  if b.pod.state = .takingOver ∧ b.atSliceStart ∧ b.livePorts.all (fun p => (b.port p).owner) then
    let r := b.pod.partnerR
    let first := b.resendFrom (if b.pod.byHandover then b.pod.x else after r)
    let b1 := b.modPod (fun p =>
      { p with
        resend := if first < b.sort.nextFrame then some first else none
        emitFrom := first
        through := before first
        completed := []
        markTo := if b.pod.byHandover then 0 else if b.pod.wasSilent then b.pod.entryFrame + 1 else after r + 2
        silent := false })
    if b.pod.byHandover then b1.podGo .active 2 0 (r.getD 0)
    else
      let b2 := (b1.podGo .active 1 2 (r.getD 0)).count Reg.POD_TAKEOVERS 1
      forUpTo 128 (fun p b => b.issueDt
        { cause := dtFailover, scope := scPort, port := p, start := b.pod.lastHb, stop := b.sliceStart first,
          count := dtUnknown, feId := (b.feIdNow p).toNat }) b2
  else b

/-! ### Yielding (R270, R273, R274) -/

/-- The slice after the newest that the partner has begun. -/
def Bolov.nextBegun (b : Bolov) : Nat := match b.pod.resend with | some n => n | none => b.sort.nextFrame

/-- An active partner yields: 0 self-diagnosis, 1 reversion, 2 host. -/
def Bolov.podYield (reason : Nat) (b : Bolov) : Bolov :=
  if b.pod.state = .active then
    let x := b.nextBegun
    (b.podMove .yielding).modPod (fun p => { p with x := x, reason := reason, handover := some (x, false, reason) })
  else b

/-- YIELD_RELEASE: sent-through has reached X − 1. -/
def Bolov.yieldRelease (b : Bolov) : Bolov :=
  let done := match b.pod.through with | some r => decide (b.pod.x ≤ r + 1) | none => b.pod.x == 0
  if b.pod.state == .yielding && !b.pod.released && done then
    (forAll (fkeys b.ports) (fun p b => if (b.port p).owner then b.sendLease 2 p else b)
      (b.modPod (fun p => { p with released := true }))).podYielded
  else b

/-! ### Partner lost and regained (R264) -/

/-- The partner is lost (R264, R266, R278). -/
def Bolov.podLost (b : Bolov) : Bolov :=
  let st := b.pod.state
  let b1 := ((b.modPod (fun p => { p with partnerLost := true, lostOnce := true })).podNotice 4 st st 0 0).raise pgPod 1
  match st with
  | .standby => if b1.pod.partnerState = .active then b1.podTakeOver false 0 else b1.podCheckOwners
  | .yielding => b1.podMove .active
  | .takingOver => b1.modPod (fun p => { p with byHandover := false })
  | _ => b1

/-- HEARTBEAT_MISS: the interval of 128 ticks that ends now held no valid heartbeat. -/
def Bolov.heartbeatMiss (b : Bolov) : Bolov :=
  let seen := b.pod.hbSeen && notBefore b.pod.lastHb (b.tick - 128) && later b.tick b.pod.lastHb
  if b.pod.state = .off ∨ b.tick.toNat % 128 ≠ 0 ∨ seen then b
  else
    let b1 := (b.modPod (fun p => { p with missed := p.missed + 1 })).count Reg.POD_HB_MISSED 1
    if b1.pod.missed = 32 ∧ !b1.pod.partnerLost then b1.podLost else b1

/-- A valid heartbeat (R264). -/
def Bolov.heartbeat (b : Bolov) : Bolov :=
  let b1 := b.modPod (fun p => { p with hbSeen := true, lastHb := b.tick, missed := 0 })
  if b1.pod.partnerLost then
    ((b1.modPod (fun p => { p with partnerLost := false, silent := false })).podNotice 5 b.pod.state b.pod.state 0 0).raise pgPod 2
  else b1

/-! ### The cross-link (R262, R263) -/

/-- Frame lock over received frames (R108), whose CRC counts whatever their sync: what led to lock or to its loss is done with. -/
def PodState.xlLock (sync crc : Bool) (p : PodState) : PodState :=
  let good := if sync && crc then p.goodRun + 1 else 0
  let bad := if sync then 0 else p.badRun + 1
  let win := ((!crc) :: p.crcWindow).take 64
  if p.lock && (decide (bad ≥ 4) || decide ((win.filter id).length ≥ 16)) then
    { p with goodRun := 0, badRun := 0, lock := false, crcWindow := [] }
  else if !p.lock && decide (good ≥ 8) then { p with goodRun := good, badRun := bad, lock := true, crcWindow := [] }
  else { p with goodRun := good, badRun := bad, crcWindow := win }

/-- A slice number whose low 16 bits are given: the newest such up to the slice that opens next; none before slice 0. -/
def Bolov.sliceFrom16 (b : Bolov) (low : Nat) : Option Nat :=
  let d := (b.sort.nextSlice + 65536 - low % 65536) % 65536
  if d ≤ b.sort.nextSlice then some (b.sort.nextSlice - d) else none

/-- A twin record of the active partner arrives (R271): it is compared with that of the slice, or waits until the slice is built. One
older than the last 256 built is not compared. -/
def Bolov.twinCheck (slice16 records digest flags : Nat) (b : Bolov) : Bolov :=
  if b.pod.state ≠ .standby ∨ b.pod.silent then b
  else
    let r : TwinRec := { slice := slice16, records := records, digest := digest, flags := BitVec.ofNat 4 flags }
    match (b.pod.built.take 256).find? (fun t => t.slice % 65536 == slice16) with
    | some t => b.twinCompare r t
    | none => if b.pod.built.any (fun t => t.slice % 65536 == slice16) then b
              else b.modPod (fun p => { p with twinWait := p.twinWait ++ [r] })

/-- The content of a frame (R263). An offer governs over a request that waits (R278). -/
def Bolov.xlContent (arrival : Tick) (kind c : Nat) (b : Bolov) : Bolov :=
  match kind with
  | 1 => b.twinCheck (bits c 75 60) (bits c 59 36) (bits c 35 4) (bits c 3 0)
  | 2 => b.modPod (fun p => { p with stage := some (bits c 75 74) })
  | 3 => b.pairRound arrival (BitVec.ofNat 48 (bits c 75 28)) (signed 28 (bits c 27 0))
  | 4 => b.modPod (fun p => { p with phases := fset none p.phases (bits c 75 60) (some (bits c 59 50, bits c 49 39)) })
  | 5 =>
    if bit c 59 then (if b.pod.state = .active ∧ !b.preferred then b.podYield 1 else b)
    else
      let b1 := b.modPod (fun p => { p with offered := true, handover := none })
      if b1.pod.state = .standby then b1.podTakeOver true ((b1.sliceFrom16 (bits c 75 60)).getD 0) else b1
  | 6 =>
    let i : Fin 3 := Fin.ofNat 3 (bits c 75 74)
    b.modPod (fun p => { p with partnerReport := p.partnerReport.set i (BitVec.ofNat 64 (bits c 73 10)) })
  | _ => b

/-- `POD_HEALTH_CFG.thr`. -/
def Bolov.healthThr (b : Bolov) : Nat := b.regFld Reg.POD_HEALTH_CFG 31 24

/-- XLINK_FRAME_RECEIVED (R262 to R264): a frame as it stands on the line; `arrival` is the tick at the arrival of its start. The
progress is that of R269 where the sender is active, or yields and still emits. -/
def Bolov.xlReceive (line : BitVec 128) (arrival : Tick) (b : Bolov) : Bolov :=
  let v := (scrambleFrame line).toNat
  let sync := bits v 127 126 == 2
  let ok := frameCrcOk (scrambleFrame line)
  let b1 := whenDo (!ok) (Bolov.count Reg.POD_XL_CRC 1) (b.modPod (PodState.xlLock sync ok))
  if !b.domOn 78 then b
  else if !ok || !sync || !b1.pod.lock || b1.pod.state == .off then b1
  else
    let health := bits v 119 112
    let st := PodSt.ofCode (bits v 123 121)
    let b2 := b1.modPod (fun p =>
      { p with
        partnerState := st
        partnerPref := bit v 124
        partnerHealth := health
        partnerR := if st == .active || st == .yielding then b1.sliceFrom16 (bits v 111 96) else p.partnerR
        tail := p.tail && st != .active
        offered := p.offered && st == .active
        partnerBelow := if health < b1.healthThr then (match p.partnerBelow with | some u => some u | none => some b1.up) else none })
    let b3 := if bit v 120 then b2.heartbeat else b2
    (b3.xlContent arrival (bits v 95 92) (bits v 91 16)).podCheckOwners.fenceSeen

/-- The content that is ready, in the order of R263: its type, its bits, and the state without it. -/
def Bolov.xlNext (b : Bolov) : Nat × Nat × PodState :=
  let p := b.pod
  match p.handover with
  | some (x, req, reason) => (5, pack [(16, x), (1, b2n req), (2, reason), (57, 0)], { p with handover := none })
  | none =>
    if p.state = .active ∧ (p.stageDue ∨ p.stageAt + 1024 ≤ b.up) then
      (2, pack [(2, b.rate.stage), (4, b.sort.cfg.epoch.toNat), (70, 0)], { p with stageDue := false, stageAt := b.up })
    else match p.twinQ with
      | t :: l => (1, pack [(16, t.slice), (24, t.records), (32, t.digest), (4, t.flags.toNat)], { p with twinQ := l })
      | [] => match p.phaseQ with
        | w :: l => (4, pack [(16, w.1.toNat), (10, w.2.1), (11, w.2.2), (39, 0)], { p with phaseQ := l })
        | [] =>
          if p.state = .pairing ∧ p.lock then
            (3, pack [(48, b.tick.toNat), (28, match p.arrival with
              | some a => satSigned 28 a
              | none => (Config.podNoArrival b.up).toNat)], { p with tickSent := true })
          else match p.reportDue with
            | i :: l => (6, pack [(2, i), (64, (p.report.toList.getD i 0).toNat), (10, 0)], { p with reportDue := l })
            | [] => (0, 0, p)

/-- The progress field (R262): bits [15:0] of the slice, of −1 before the first (log entry 185). -/
def Bolov.xlProgress (b : Bolov) : Nat := match b.pod.through with | some r => r % 65536 | none => 0xFFFF

/-- XLINK_FRAME_SEND (R262): at a multiple of 16, while the domain of the Pod link is on. -/
def Bolov.xlSend (b0 : Bolov) : Bolov :=
  let b := b0.fenceSeen
  if b.tick.toNat % 16 ≠ 0 ∨ !b.domOn 78 then b
  else
    let (kind, c, p) := b.xlNext
    let body := pack [(2, 2), (1, b2n (bit b.tick.toNat 4)), (1, b2n b.preferred), (3, b.pod.state.code),
      (1, b2n (decide (b.tick.toNat % 128 = 0))), (8, b.pod.health), (16, b.xlProgress), (4, kind), (76, c)]
    { b with pod := { p with sent := some (scrambleFrame (BitVec.ofNat 128 (pack [(112, body), (16, crc16 body 112)]))) } }

/-! ### Health (R272 to R276) -/

/-- Moments within the last 2^28 ticks. -/
def Bolov.lastSecond (b : Bolov) (u : Nat) : Bool := decide (b.up < u + 2 ^ 28)

/-- Ports of a list of moments in the last second, each once. -/
def Bolov.portsLately (b : Bolov) (l : List (Nat × Nat)) : Nat :=
  (((l.filter (fun e => b.lastSecond e.1)).map Prod.snd).eraseDups).length

/-- The penalties of R272, one for each row. -/
def Bolov.penalties (b : Bolov) : List Nat :=
  let div := (b.pod.diverged.filter b.lastSecond).length + fld (b.pod.partnerReport.toList.getD 2 0) 63 32
  [if b.pod.wdogExpired then 255 else 0,
   16 * ((List.range 24).filter (fun i => b.mere.held.getLsbD i)).length,
   if b.tarnOn then 0 else 32,
   if b.pwr.vcoreLow then 64 else 0,
   cap 64 (4 * b.portsLately b.pod.leftData),
   cap 64 (16 * b.portsLately b.pod.refusedAt),
   cap 128 (32 * div),
   if b.pod.lock then 0 else 16]

/-- The own health report (R276). -/
def Bolov.healthReport (b : Bolov) (score : Nat) : Vector W64 3 :=
  #v[word64 [(8, score), (24, b.mere.held.toNat), (8, pack (b.penalties.map (fun x => (1, b2n (decide (x > 0)))))), (24, 0)],
     word64 [(32, cap (2 ^ 32 - 1) b.pod.testsOk), (32, cap (2 ^ 32 - 1) b.pod.testsFailed)],
     word64 [(32, (b.pod.diverged.filter b.lastSecond).length), (32, b.portsLately b.pod.leftData)]]

/-- Dwell and wait in ticks (R273, R275). -/
def Bolov.dwellTicks (b : Bolov) : Nat := max 1 (b.regFld Reg.POD_HEALTH_CFG 15 0) * ticksMs
def Bolov.fenceTicks (b : Bolov) : Nat := b.dwellTicks + b.regFld Reg.POD_FENCE_CFG 15 0 * ticksMs

/-- Some moment lies at least `n` ticks back. -/
def Bolov.sinceAtLeast (b : Bolov) (u : Option Nat) (n : Nat) : Bool :=
  match u with | some u => decide (u + n ≤ b.up) | none => false

/-- The partner may be yielded to (R273). Nothing on the link says that it is silent: a free value (log entry 184). -/
def Bolov.partnerFit (b : Bolov) : Bool :=
  b.pod.partnerState == .standby && !b.pod.partnerLost && !Config.podPartnerSilent b.up && decide (b.pod.partnerHealth ≥ b.healthThr)

/-- HEALTH_COMPUTE: every 1,024 ticks. -/
def Bolov.healthCompute (b0 : Bolov) : Bolov :=
  let b := b0.fenceSeen
  if b.tick.toNat % 1024 ≠ 0 ∨ b.pod.state = .off then b
  else
    let score := 255 - b.penalties.foldl (· + ·) 0
    let low := decide (score < b.healthThr)
    let fit := b.preferred && b.pod.state == .standby && !b.pod.silent && !low
    let due := decide (b.pod.reportAt + 2 ^ 20 ≤ b.up) || (b.pod.reportAt == 0)
    let b1 := b.modPod (fun p =>
      { p with
        health := score
        below := if low then (match p.below with | some u => some u | none => some b.up) else none
        fitSince := if fit then (match p.fitSince with | some u => some u | none => some b.up) else none
        report := b.healthReport score
        reportDue := if due then [0, 1, 2] else p.reportDue
        reportAt := if due then b.up else p.reportAt })
    let b2 := if b1.pod.state = .active ∧ b1.sinceAtLeast b1.pod.below b1.dwellTicks ∧ b1.partnerFit then b1.podYield 0 else b1
    if b2.pod.partnerState = .active ∧ !b2.pod.partnerLost ∧ b2.sinceAtLeast b2.pod.partnerBelow b2.fenceTicks ∧ !b2.pod.offered then
      b2.fenceAssert
    else b2

/-- REVERSION_REQUEST (R274). -/
def Bolov.reversion (b : Bolov) : Bolov :=
  let hold := max 1 (b.regFld Reg.POD_REVERT_HOLD 15 0) * ticksS
  let again := match b.pod.requestAt with | some u => decide (u + 2 ^ 28 ≤ b.up) | none => true
  if b.regBit Reg.POD_CTRL 3 && b.preferred && b.pod.state == .standby && !b.pod.silent && b.sinceAtLeast b.pod.fitSince hold
      && again then
    b.modPod (fun p => { p with handover := some (0, true, 1), requestAt := some b.up })
  else b

/-- The re-read of the next built entry (R276): its slice check, as the lines read. -/
def Bolov.retestEntry (b : Bolov) : Option (Bolov × Bool) :=
  (b.tarn.entries.find? (fun e => e.kind == 2 && e.written && decide (b.pod.retest ≤ e.pos))).map (fun e0 =>
    let (b1, e, bad) := b.readEntry e0 e0.lines
    (b1.modPod (fun p => { p with retest := e0.pos + 1 }), !bad && fld (e.words.getLastD 0) 31 0 == sliceCheck e.words))

/-- An interval unit is free: neither running nor held by a port. -/
def Bolov.isAnyFree (b : Bolov) : Bool := (List.finRange 4).any (fun u => !b.isActive u)

/-- A run of a test, and whether it passed (R276): test 0 re-reads a built entry; a crypto check (test 2) runs only while no quote is
produced, an interval-unit check (test 3) only on a free unit. -/
def Bolov.testRun (test : Fin 4) (ok : Bool) (b : Bolov) : Option (Bolov × Bool) :=
  match test with
  | 0 => b.retestEntry
  | 1 => some (b, ok)
  | 2 => if b.sec.quote.isSome then none else some (b, ok)
  | 3 => if b.isAnyFree then some (b, ok) else none

/-- A known-answer test has failed (R362). -/
def Bolov.katFailed (b : Bolov) : Bolov := ((b.count Reg.POD_SELFTEST_FAIL 1).setRegBit Reg.SEC_STATUS 25 true).raise 0x00F 2

/-- STANDBY_SELFTEST (R276): a failure of a crypto check also sets kat_fail (R362). -/
def Bolov.selfTest (test : Fin 4) (ok : Bool) (b : Bolov) : Bolov :=
  if b.pod.state ≠ .standby then b
  else match b.testRun test ok with
    | none => b
    | some (b0, true) => b0.modPod (fun p => { p with testsOk := p.testsOk + 1 })
    | some (b0, false) =>
      let b1 := b0.modPod (fun p => { p with testsFailed := p.testsFailed + 1 })
      (if test = 2 then b1.katFailed else b1.count Reg.POD_SELFTEST_FAIL 1).raise pgPod 7

/-- The watchdog (R272). -/
def Bolov.wdogKick (b : Bolov) : Bolov := b.modPod (fun p => { p with wdogAt := b.up, wdogExpired := false })
def Bolov.wdogExpire (b : Bolov) : Bolov :=
  if b.pod.wdogAt + max 1 (b.regFld Reg.POD_WDOG 15 0) * ticksMs ≤ b.up then b.modPod (fun p => { p with wdogExpired := true }) else b

/-- `POD_CTRL.count_clear` (R280). -/
def Bolov.podClear (b : Bolov) : Bolov :=
  forAll [Reg.POD_HB_MISSED, Reg.POD_XL_CRC, Reg.POD_TWIN_OK, Reg.POD_TWIN_EXPL, Reg.POD_TWIN_DIV, Reg.POD_TWIN_SKIP,
    Reg.POD_CLAIM_REFUSED, Reg.POD_FENCE_COUNT, Reg.POD_SELFTEST_FAIL, Reg.POD_TAKEOVERS] (fun a => Bolov.clearCtr a 0) b

/-! ### Meanings -/

/-- POD_ENABLE (R265). -/
def execPodEnable (s : State) : Out := onB s Bolov.podEnable

/-- POD_DISABLE (R266). -/
def execPodDisable (s : State) : Out := onB s Bolov.podDisable

/-- XLINK_FRAME_SEND (R262). -/
def execXlinkFrameSend (t : Tick) (s : State) : Out := atB t s Bolov.xlSend

/-- XLINK_FRAME_RECEIVED (R263). -/
def execXlinkFrameReceived (frame : BitVec 128) (arrival : BitVec 48) (t : Tick) (s : State) : Out :=
  atB t s (Bolov.xlReceive frame arrival)

/-- HEARTBEAT_MISS (R264). -/
def execHeartbeatMiss (t : Tick) (s : State) : Out := atB t s Bolov.heartbeatMiss

/-- TAKEOVER_ACTIVATE (R269). -/
def execTakeoverActivate (t : Tick) (s : State) : Out := atB t s Bolov.podActivate

/-- CLAIM_WINDOW_END (R268). -/
def execClaimWindowEnd (t : Tick) (s : State) : Out := atB t s Bolov.windowEnd

/-- POD_LEASE_RENEW_TIMER (R268). -/
def execPodLeaseRenewTimer (t : Tick) (s : State) : Out := atB t s Bolov.renewLeases

/-- POD_CLAIM_TIMER (R268). -/
def execPodClaimTimer (t : Tick) (s : State) : Out := atB t s Bolov.claimLeases

/-- POD_YIELD (R270). -/
def execPodYield (s : State) : Out := onB s (Bolov.podYield 2)

/-- YIELD_RELEASE (R270). -/
def execYieldRelease (t : Tick) (s : State) : Out := atB t s Bolov.yieldRelease

/-- HEALTH_COMPUTE (R272). -/
def execHealthCompute (t : Tick) (s : State) : Out := atB t s Bolov.healthCompute

/-- REVERSION_REQUEST (R274). -/
def execReversionRequest (t : Tick) (s : State) : Out := atB t s Bolov.reversion

/-- POD_FENCE (R275). -/
def execPodFence (s : State) : Out := onB s Bolov.fenceAssert

/-- POD_FENCE_RELEASE (R275). -/
def execPodFenceRelease (s : State) : Out := onB s Bolov.fenceRelease

/-- POD_FENCE_IN_ASSERT (R275). -/
def execPodFenceInAssert (t : Tick) (s : State) : Out := atB t s Bolov.fenceInSet

/-- POD_FENCE_IN_RELEASE (R266). -/
def execPodFenceInRelease (t : Tick) (s : State) : Out := atB t s (Bolov.modPod (fun p => { p with fenceIn := false }))

/-- POD_REJOIN (R266). -/
def execPodRejoin (s : State) : Out := onB s Bolov.podRejoin

/-- STANDBY_SELFTEST (R276): test 0 re-reads a built entry, 1 loops a lane back, 2 checks the crypto unit, 3 an interval
unit. -/
def execStandbySelftest (test : Fin 4) (ok : Bool) (reads : List LineRead) (t : Tick) (s : State) : Out :=
  atB t s (fun b => (b.withFlaws reads).selfTest test ok)

/-- WDOG_KICK (R272). -/
def execWdogKick (s : State) : Out := onB s Bolov.wdogKick

/-- WDOG_EXPIRY (R272). -/
def execWdogExpiry (t : Tick) (s : State) : Out := atB t s Bolov.wdogExpire

/-- POD_COUNT_CLEAR (R280). -/
def execPodCountClear (s : State) : Out := onB s Bolov.podClear

end Sys2Proof.Machine
end

