-- ==== Sys2Proof/Machine/Remote.lean ====
section
/-!
DEFINITION. The remote window: requests to Jilek registers and fast commands of the host (17 R329 to R334).
-/

namespace Sys2Proof.Machine

/-- The page of the remote window. -/
def pgRmt : Nat := 0x040

/-- Change the remote window. -/
def Bolov.modRmt (f : RmtState → RmtState) (b : Bolov) : Bolov := { b with rmt := f b.rmt }

/-! ### Requests (R330, R331) -/

/-- Result codes of R331. -/
def rrTimeout : Nat := 3
def rrNotOwner : Nat := 4
def rrLinkDown : Nat := 5
def rrBad : Nat := 6

/-- Requests not yet answered. -/
def Bolov.rmtQueued (b : Bolov) : Nat := (b.rmt.requests.filter (fun r => r.answer.isNone)).length

/-- A write of `RMT_REQ` (R330). -/
def Bolov.rmtRequest (v : Word) (b : Bolov) : Bolov :=
  if b.rmtQueued ≥ 256 then (b.setRegBit Reg.RMT_STATUS 31 true).raise pgRmt 2
  else b.modRmt (fun m =>
    { m with
      nextSeq := m.nextSeq + 1
      requests := m.requests ++ [{ seq := m.nextSeq, port := fld v 28 22, op := fld v 31 30, once := bit v.toNat 29,
                                   addr := BitVec.ofNat 16 v.toNat, data := b.reg Reg.RMT_REQ_DATA }] })

/-- A REMOTE_RSP record (R331). -/
def Request.record (r : Request) (result data : Nat) : List W64 :=
  [word64 [(16, r.seq.toNat), (3, result), (7, r.port), (2, r.op), (4, cap 15 r.attempts), (16, r.addr.toNat), (16, 0)],
   word64 [(32, if r.op = 2 then 0 else r.data.toNat), (32, data)]]

/-- Change the request of a sequence number. -/
def Bolov.modRequest (q : BitVec 16) (f : Request → Request) (b : Bolov) : Bolov :=
  b.modRmt (fun m => { m with requests := m.requests.map (fun r => if r.seq = q then f r else r) })

/-- Answered requests whose record may stand: every earlier request of their port is answered (rule 6). `waiting` are the
ports with an unanswered request so far. -/
def readyRecords : List Request → List Nat → List (List W64) × List Request
  | [], _ => ([], [])
  | r :: l, waiting =>
    match r.answer with
    | some w =>
      if waiting.contains r.port then
        let (a, k) := readyRecords l waiting
        (a, r :: k)
      else
        let (a, k) := readyRecords l waiting
        (w :: a, k)
    | none =>
      let (a, k) := readyRecords l (r.port :: waiting)
      (a, r :: k)

/-- Post the records that may stand. -/
def Bolov.rmtFlush (b : Bolov) : Bolov :=
  let (a, k) := readyRecords b.rmt.requests []
  forAll a (Bolov.qPost qRemoteRsp) (b.modRmt (fun m => { m with requests := k }))

/-- A request is answered. -/
def Bolov.rmtAnswer (r : Request) (result data : Nat) (b : Bolov) : Bolov :=
  ((b.modRequest r.seq (fun x => { x with answer := some (r.record result data) })).modPort r.port (fun x =>
    { x with commands := x.commands.filter (fun c => c.request != some r.seq) })).rmtFlush

/-- A request goes out as CONFIG (R330). -/
def Bolov.rmtSend (r : Request) (b : Bolov) : Bolov :=
  (b.modRequest r.seq (fun x => { x with issued := true, timedOut := false, sentAt := none, attempts := x.attempts + 1 })).send
    r.port { op := fConfig, arg := 0, request := some r.seq,
             payload := payloadConfig (r.seq.toNat % 256) r.op r.addr.toNat (if r.op = 2 then 0 else r.data.toNat) }

/-- The port can carry requests. -/
def Bolov.linkUp (b : Bolov) (p : Nat) : Bool := b.txOn p && ((b.port p).rx == .ready || (b.port p).rx == .data)

/-- REMOTE_REQUEST_ISSUE (R330): the timed-out requests of a port once no other is outstanding, else its next request. -/
def Bolov.rmtIssue (p : Nat) (b : Bolov) : Bolov :=
  let mine := b.rmt.requests.filter (fun r => r.port == p && r.answer.isNone)
  let out := mine.filter (fun r => r.issued)
  let late := out.filter (fun r => r.timedOut)
  if !late.isEmpty then
    if out.length = late.length then
      forAll late (fun r b => if b.linkUp p then b.rmtSend r else b.rmtAnswer r rrLinkDown 0) b
    else b
  else
    match mine.find? (fun r => !r.issued) with
    | none => b
    | some r =>
      if out.length ≥ 8 ∨ !b.qRoom qRemoteRsp then b
      else
        let b1 := (b.qReserve qRemoteRsp).modRequest r.seq (fun x => { x with issued := true })
        let b1 := if r.op = 1 ∧ r.addr.toNat = Reg.TP_FE_ID ∧ (!(b.port p).owner ∨ b.linkUp p) then b1.modCmt (fun c =>
            { c with staged := { c.staged with feIds := fset none c.staged.feIds p (some (r.data.setWidth 16)) } }) else b1
        if !(b.port p).owner then b1.rmtAnswer r rrNotOwner 0
        else if !b.linkUp p then b1.rmtAnswer r rrLinkDown 0
        else if r.op = 0 ∨ r.op = 3 ∨ r.addr.toNat % 4 ≠ 0 then b1.rmtAnswer r rrBad 0
        else b1.rmtSend r

/-- A register response answers the outstanding request with its tag (R330 rule 4); any other is ignored. -/
def Bolov.rmtResponse (p payload : Nat) (b : Bolov) : Bolov :=
  match b.rmt.requests.find? (fun r => r.port == p && r.issued && r.answer.isNone && r.seq.toNat % 256 == bits payload 47 40) with
  | some r => b.rmtAnswer r (bits payload 39 38) (bits payload 31 0)
  | none => b

/-- `RMT_TIMEOUT`. -/
def Bolov.rmtTimeoutTicks (b : Bolov) : Nat := max 256 (b.regFld Reg.RMT_TIMEOUT 15 0)

/-- REMOTE_REQUEST_TIMEOUT (R330 rule 5). -/
def Bolov.rmtTimeout (q : BitVec 16) (b : Bolov) : Bolov :=
  match b.rmt.requests.find? (fun r => r.seq == q && r.answer.isNone && !r.timedOut) with
  | some r =>
    match r.sentAt with
    | some u =>
      if u + b.rmtTimeoutTicks ≤ b.up then
        if r.once ∨ r.attempts > b.regFld Reg.RMT_CTRL 3 0 then
          ((b.count Reg.RMT_TIMEOUTS 1).raise pgRmt 0).rmtAnswer r rrTimeout 0
        else b.modRequest q (fun x => { x with timedOut := true, sentAt := none })
      else b
    | none => b
  | none => b

/-! ### Fast commands of the host (R332) -/

/-- The ports named in `RMT_FC_PORTSk`. -/
def Bolov.fcPorts (b : Bolov) : List Nat := (List.range 128).filter (fun p => b.regBit (Reg.RMT_FC_PORTS (p / 32)) (p % 32))

/-- The opcode may be sent with its argument: 3 CAL_START, 4 TEST_PULSE, 5 FLUSH, 8 RESET_TILE (R332). -/
def fcAllowed (op arg : Nat) : Bool :=
  if op = fCalStart then decide (arg ≤ 4) else (op == fTestPulse || op == fFlush || op == fResetTile) && arg == 0

/-- Results of a go. -/
def Bolov.fcResult (result skipped : Nat) (b : Bolov) : Bolov :=
  let b1 := b.modRmt (fun m => { m with fcResult := result, fcSkipped := skipped })
  if result = 0 then b1 else b1.raise pgRmt 1

/-- A TEST_PULSE tick is too soon. -/
def Bolov.fcTooSoon (b : Bolov) (t : Tick) (ports : List Nat) : Bool :=
  later (b.tick + BitVec.ofNat 48 (96 + (ports.map b.downTicks).foldl max 0)) t

/-- A write of `RMT_FC_CMD` (R332). -/
def Bolov.fcWrite (v : Word) (b : Bolov) : Bolov :=
  let b0 := b.setReg Reg.RMT_FC_CMD (v &&& 0x0FFF0000#32)
  if !bit v.toNat 31 ∨ b.rmt.fcBusy then b0
  else
    let op := fld v 27 24
    let arg := fld v 23 16
    let tick : Tick := BitVec.ofNat 48 (b.reg64 Reg.RMT_FC_TICK)
    let named := b.fcPorts
    let can := named.filter (fun p => (b.port p).owner && b.txOn p)
    if !fcAllowed op arg ∨ v &&& 0x7000FFFF#32 ≠ 0 then b0.fcResult 1 0
    else if op = fTestPulse ∧ b.fcTooSoon tick named then b0.fcResult 2 0
    else if op = fCalStart ∧ arg = 4 ∧ b.holdNeeded then b0.fcResult 3 0
    else if can.isEmpty then b0.fcResult 4 named.length
    else
      let payload := if op = fTestPulse then payloadTick tick.toNat else payloadTiles (b.reg Reg.RMT_FC_TILES).toNat
      let b1 := forAll can (fun p => Bolov.send p { op := op, arg := arg, payload := payload, fc := true })
        ((b0.modRmt (fun m => { m with fcBusy := true, fcBegun := false })).fcResult 0 (named.length - can.length))
      if op = fTestPulse then b1.testPulseGo tick else b1

/-! ### Meanings -/

/-- RMT_REQ_WRITE (R330). -/
def execRmtReqWrite (value : Word) (s : State) : Out := onB s (Bolov.rmtRequest value)

/-- REMOTE_REQUEST_ISSUE (R330). -/
def execRemoteRequestIssue (port : Fin 128) (t : Tick) (s : State) : Out := atB t s (Bolov.rmtIssue port)

/-- REMOTE_REQUEST_TIMEOUT (R330). -/
def execRemoteRequestTimeout (seq : BitVec 16) (t : Tick) (s : State) : Out := atB t s (Bolov.rmtTimeout seq)

/-- RMT_FC_GO (R332): a write of `RMT_FC_CMD` with go = 1. -/
def execRmtFcGo (value : Word) (s : State) : Out := onB s (Bolov.fcWrite (setBit value 31 true))

/-- RMT_COUNT_CLEAR (R333). -/
def execRmtCountClear (s : State) : Out := onB s (Bolov.clearCtr Reg.RMT_TIMEOUTS 0)

end Sys2Proof.Machine
end

