-- ==== Sys2Proof/Machine/Start.lean ====
section
/-!
DEFINITION. Slice starts (08 R156), the Jilek's status words and register responses (06 R106, 17 R330, 18 R339, 19 R349).
-/

namespace Sys2Proof.Machine

/-- SLICE_START: regions that a horizon has closed close first, staged values switch (R335), the rate stage is evaluated
(R198), the column opens or the slice is skipped (R156), the throttle pins follow (R204). -/
def Bolov.sliceStarts (b : Bolov) : Bolov :=
  if b.sliceDue then
    let b1 := b.closeByHorizon.commitAtSlice
    ((b1.stageStep b1.sort.nextSlice b1.tick).openSlice).throttle
  else b

/-! ### Publication of a Jilek's identity (R349) -/

/-- The reads of a publication: `JID_UNIT_LO`, `JID_UNIT_HI`, `JID_STATUS`, each with a tag of the Bolov's own. -/
def Bolov.publishStart (p : Nat) (b : Bolov) : Bolov :=
  let reads := [(Reg.JID_UNIT, Config.ownTag b.up), (Reg.JID_UNIT + 4, Config.ownTag (b.up + 1)),
                (Reg.JID_STATUS, Config.ownTag (b.up + 2))]
  forAll reads (fun r => Bolov.sendOwned p { op := fConfig, arg := 0, payload := payloadConfig r.2.toNat 2 r.1 0 })
    (b.modPort p (fun x => { x with publish := { x.publish with reads := reads } }))

/-- A response to one of the reads. -/
def Publish.answer (addr result : Nat) (data : Word) (x : Publish) : Publish :=
  let y := { x with reads := dropFirst (fun r => r.1 == addr) x.reads }
  if result ≠ 0 then y
  else if addr = Reg.JID_UNIT then { y with lo := some data }
  else if addr = Reg.JID_UNIT + 4 then { y with hi := some data }
  else { y with valid := x.valid || (bit data.toNat 31 && x.lo.isSome && x.hi.isSome) }

/-- REGISTER_RESPONSE_RECEIVED (R106, R330, R349): it answers a remote request, else a read of a publication. -/
def Bolov.response (p payload : Nat) (b : Bolov) : Bolov :=
  let tag := bits payload 47 40
  if (b.port p).rx = .acquiring then b
  else if b.rmt.requests.any (fun r => r.port == p && r.issued && r.answer.isNone && r.seq.toNat % 256 == tag) then
    b.rmtResponse p payload
  else match (b.port p).publish.reads.find? (fun r => r.2.toNat == tag) with
    | some r => b.modPort p (fun x =>
        { x with publish := x.publish.answer r.1 (bits payload 39 38) (BitVec.ofNat 32 (bits payload 31 0)) })
    | none => b

/-- STATUS_WORD_RECEIVED (R106): lease statuses and commit switches act on the Bolov; the other codes only inform. -/
def Bolov.statusWord (p code a arg : Nat) (b : Bolov) : Bolov :=
  if (b.port p).rx = .acquiring then b
  else if code = 0x07 then
    let b1 := b.leaseStatus p a arg
    if !(b.port p).owner && (b1.port p).owner then b1.publishStart p else b1
  else if code = 0x06 then b.commitReport p a arg
  else b

/-! ### Meanings -/

/-- SLICE_START (R156). -/
def execSliceStart (t : Tick) (s : State) : Out := atB t s Bolov.sliceStarts

/-- REGISTER_RESPONSE_RECEIVED (R330). -/
def execRegisterResponseReceived (port : Fin 128) (payload : BitVec 48) (t : Tick) (s : State) : Out :=
  atB t s (Bolov.response port payload.toNat)

/-- STATUS_WORD_RECEIVED (R106). -/
def execStatusWordReceived (port : Fin 128) (code a : Byte) (arg : Word) (t : Tick) (s : State) : Out :=
  atB t s (Bolov.statusWord port code.toNat a.toNat arg.toNat)

end Sys2Proof.Machine
end

