-- ==== Sys2Proof/Machine/Power.lean ====
section
/-!
DEFINITION. Resets, power domains, supply, junction temperature and bring-up of the Bolov (20 R365 to R377).
-/

namespace Sys2Proof.Machine

/-- The power page. -/
def pgPwr : Nat := 0x002

/-- Change the power state. -/
def Bolov.modPwr (f : PwrState → PwrState) (b : Bolov) : Bolov := { b with pwr := f b.pwr }

/-! ### Resets (R370, R371) -/

/-- What the Guard keeps in flash: password, failures, lockout time, session number, change log. The moments are counted
from the reset. -/
def Bolov.guardKept (b : Bolov) : GuardState :=
  { password := b.grd.password, salts := b.grd.salts, failures := b.grd.failures,
    lockEnd := b.grd.lockEnd.map (fun u => u - b.up), session := b.grd.session,
    log := b.grd.log, logSeq := b.grd.logSeq, head := b.grd.head, anchor := b.grd.anchor }

/-- OTP, flash and boot state. -/
def Bolov.secKept (b : Bolov) : SecState :=
  { unit := b.sec.unit, lifecycle := b.sec.lifecycle, counter := b.sec.counter, vendorRsa := b.sec.vendorRsa,
    vendorSlh := b.sec.vendorSlh, deviceRsa := b.sec.deviceRsa, deviceSlh := b.sec.deviceSlh, flash := b.sec.flash,
    active := b.sec.active, trial := b.sec.trial, tried := b.sec.tried, draws := b.sec.draws }

/-- `POD_CTRL.pref` and `POD_LEASE_ID` as straps and identity give them (R279). -/
def Bolov.podStraps (b : Bolov) : Bolov :=
  (b.setRegBit Reg.POD_CTRL 1 b.pwr.pref).setReg Reg.POD_LEASE_ID
    (word32 [(16, 0), (1, b2n b.pwr.pref), (15, fld b.sec.unit 33 19)])

/-- The conditions that fail stand as the Guard finds them at its start. -/
def Bolov.guardLook (b : Bolov) : Bolov :=
  forAll [0, 1, 2, 3] (fun (g : Fin 4) b => b.modGrd (fun x => { x with fails := x.fails.set g (b.failsNow g) })) b

/-- The state after a power-on, pin or brown-out reset: OTP, flash and straps stand, all else is as after reset. -/
def Bolov.afterReset (cause : BitVec 3) (bringup : BitVec 2) (addrSel : BitVec 3) (pref : Bool) (b : Bolov) : Bolov :=
  let fresh : Bolov :=
    { grd := b.guardKept
      sec := b.secKept
      regs := b.regs.filter (fun e => guardLocked e.1)
      i3c := { addrSel := addrSel }
      pwr := { bringup := bringup, pref := pref, cause := cause } }
  fresh.podStraps.guardLook

/-- The state after a warm reset (R371). -/
def Bolov.afterWarm (b : Bolov) : Bolov :=
  let b1 := b.afterReset 3 b.pwr.bringup b.i3c.addrSel b.pwr.pref
  { b1 with
    tick := b.tick
    time := { b1.time with refLock := b.time.refLock, pllOnce := b.time.pllOnce, slew := b.time.slew,
                           lockedAt := b.time.lockedAt.map (fun u => u - b.up) }
    i3c := { b1.i3c with dyn := b.i3c.dyn }
    owed := b.owed
    binIbi := b.binIbi
    mere := { remap := b.mere.remap, spares := b.mere.spares, badGroups := b.mere.badGroups }
    sec := { b1.sec with recoverNext := b.sec.recoverNext } }

/-! ### Domains (R368) -/

/-- Switching a domain off is refused. -/
def Bolov.domKept (b : Bolov) (d : Nat) : Bool :=
  if d < 32 then false
  else if d < 48 then b.regBit Reg.OUT_LANE_EN (d - 32)
  else if d < 64 then decide (d ≥ 62) || b.sort.running
  else if d < 72 then false
  else if d < 76 then b.sort.running
  else if d = 76 then b.regFld Reg.GRD_CONV 3 0 != 0
  else if d = 78 then b.regBit Reg.POD_CTRL 0
  else if d = 79 then b.sec.quote.isSome
  else false

/-- The contents of a Mere bank are lost; the bank is cleared when it comes on. -/
def Bolov.bankLost (bank : Nat) (b : Bolov) : Bolov :=
  let kept := fun (a : Nat) => isTarnLine a || a / 65536 != bank
  let b1 := b.modMere (fun m =>
    { m with poison := m.poison.filter (fun e => kept e.1), flaws := m.flaws.filter (fun r => kept r.line) })
  b1.modSort (fun x => { x with contexts := x.contexts.filter (fun e => e.1 / 65536 != bank) })

/-- An output lane falls silent: a frame still on it is cut, and its lines return (log entry 186). -/
def Bolov.laneSilent (n : Fin 16) (b : Bolov) : Bolov :=
  let b1 := match (b.lanes[n]).frame with
    | some f => b.linesBack n f f.words.length
    | none => b
  b1.modLane n (fun l => { l with frame := none, ranFrom := none, blocks := [], line := [] })

/-- A domain goes off. -/
def Bolov.domOff (d : Nat) (b : Bolov) : Bolov :=
  if d < 32 then forUpTo 4 (fun i => Bolov.portDown (4 * d + i)) b
  else if d < 48 then b.laneSilent (Fin.ofNat 16 (d - 32))
  else if d < 64 then b.bankLost (d - 48)
  else if d < 72 then if b.tarn.ready || b.tarn.training then b.replayTarnOff.tarnOff b.tarn.fail else b
  else if d = 76 then b.monStop
  else if d = 77 then if b.regFld Reg.TM_CTRL 1 0 = 1 then b.enterHoldover else b
  else if d = 78 then b.modPod (fun p => { p with lock := false, goodRun := 0, badRun := 0, sent := none })
  else b

/-- A domain comes on. -/
def Bolov.domUp (d : Nat) (b : Bolov) : Bolov :=
  if 32 ≤ d ∧ d < 48 then
    let n := Fin.ofNat 16 (d - 32)
    (b.modLane n (fun l => { l with enabledAt := l.enabledAt.map (fun _ => b.up), ranFrom := some b.up, started := false })).laneSend
      n [idleBlock]
  else if d = 76 then b.monFresh
  else b

/-- A write of `PWR_DOM_ONk`. -/
def Bolov.domWrite (k : Fin 3) (v : Word) (b : Bolov) : Bolov :=
  let addr := Reg.PWR_DOM_ON0 + 4 * k.val
  let n := if k = 2 then 16 else 32
  forUpTo n (fun i b =>
    let d := 32 * k.val + i
    let want := bit v.toNat i
    if want = b.domBit d then b
    else if want then
      let b1 := b.setRegBit addr i true
      if b.pwr.domState.getLsbD d then b1.domUp d else b1
    else if b.domKept d then (b.setRegBit Reg.PWR_STATUS 30 true).raise pgPwr 1
    else (b.setRegBit addr i false).domOff d) b

/-- PWR_DOMAIN_SWITCHED: the state follows the bit as written, and a domain that has come on starts, the crypto domain with its
known-answer tests, which pass or not. -/
def Bolov.domSwitched (d : Nat) (katOk : Bool) (b : Bolov) : Bolov :=
  if b.pwr.domState.getLsbD d = b.domBit d ∨ d ≥ 80 then b
  else
    let b1 := b.modPwr (fun p => { p with domState := setBit p.domState d (b.domBit d) })
    if !b.domBit d then b1
    else if d = 79 ∧ !katOk then b1.katFailed
    else b1.domUp d

/-- Whether the domains of a page's block are on (R321). -/
def Bolov.pageOn (b : Bolov) (page : Nat) : Bool :=
  if page = 0x004 then b.domOn 77
  else if page = 0x00C then b.domOn 78
  else if page = 0x00D then b.domOn 76
  else if 0x020 ≤ page ∧ page < 0x040 then b.domOn (page - 0x020)
  else true

/-! ### Supply, temperature, bring-up (R366, R372, R377) -/

/-- VDD_CORE in mV: below 720 sets vcore_low. -/
def Bolov.vcore (mv : BitVec 12) (b : Bolov) : Bolov :=
  let low := decide (mv.toNat < 720)
  let b1 := b.modPwr (fun p => { p with mv := mv, vcoreLow := low })
  if low = b.pwr.vcoreLow then b1 else b1.raise pgPwr 2

/-- The junction temperature in 1/16 °C: a rise above 105 °C raises the event. -/
def Bolov.junction (tj : BitVec 12) (b : Bolov) : Bolov :=
  let hot := fun (x : BitVec 12) => decide (signed 12 x.toNat > 1680)
  let b1 := b.modPwr (fun p => { p with tj := tj })
  if hot tj && !hot b.pwr.tj then b1.raise pgPwr 3 else b1

/-- The bring-up has done with a port: its quad is off, it has reached data, or 10 ms have passed since tx_en. -/
def Bolov.portBrought (b : Bolov) (p : Nat) : Bool :=
  !b.domOn (p / 4) || (b.port p).beenData || (b.regBit (Reg.QD_LINK_CTRL p) 0 && decide ((b.port p).txAt + 10 * ticksMs < b.up))

/-- Automatic bring-up is complete (R372), which recovery mode does not run (R356): every port has been waited for and Tarn does
not train; powered ports that have not reached data in time are absent. DEDUCED (log 119): the firmware's own writes of the
bring-up come as the commands that carry them. -/
def Bolov.bringupReady (b : Bolov) : Bolov :=
  if (b.pwr.bringup == 1 || b.pwr.bringup == 2) && !b.pwr.ready && !b.sec.recovery && !b.tarn.training &&
      (List.range 128).all b.portBrought then
    (b.modPwr (fun p => { p with ready := true, absent := BitVec.ofNat 128 (pack ((List.range 128).map (fun i =>
      (1, b2n (b.domOn ((127 - i) / 4) && !(b.port (127 - i)).beenData))))) })).raise pgPwr 0
  else b

/-! ### Meanings -/

/-- BOLOV_POWER_ON_RESET (R370): cause 0 power-on, 1 pin, 2 brown-out; the straps as they are read. -/
def execBolovPowerOnReset (cause : Fin 3) (bringup : BitVec 2) (addrSel : BitVec 3) (pref : Bool) (s : State) : Out :=
  onB s (Bolov.afterReset (BitVec.ofNat 3 cause) bringup addrSel pref)

/-- RSTACT_WARM_RESET (R371). -/
def execRstactWarmReset (s : State) : Out := onB s Bolov.afterWarm

/-- PWR_DOM_WRITE (R368). -/
def execPwrDomWrite (k : Fin 3) (value : Word) (s : State) : Out := onB s (Bolov.domWrite k value)

/-- PWR_DOMAIN_SWITCHED (R368). -/
def execPwrDomainSwitched (switch : DomainSwitch) (t : Tick) (s : State) : Out :=
  atB t s (Bolov.domSwitched switch.domain switch.katOk)

/-- VCORE_LOW_CHANGE (R366). -/
def execVcoreLowChange (mv : BitVec 12) (t : Tick) (s : State) : Out := atB t s (Bolov.vcore mv)

/-- BRINGUP_READY (R372). -/
def execBringupReady (t : Tick) (s : State) : Out := atB t s Bolov.bringupReady

/-- JUNCTION_ABOVE_105 (R377). -/
def execJunctionAbove105 (tj : BitVec 12) (t : Tick) (s : State) : Out := atB t s (Bolov.junction tj)

end Sys2Proof.Machine
end

