-- ==== Sys2Proof/Machine/Views.lean ====
section
/-!
DEFINITION. What the read-only fields of the Bolov's registers show (the register tables of 06 to 20).
-/

namespace Sys2Proof.Machine

/-- Bits 0 to n − 1 of a word, each from a condition on its number. -/
def bitWord (n : Nat) (f : Nat → Bool) : Nat := pack ((List.range n).map (fun i => (1, b2n (f (n - 1 - i)))))

/-- A signed value as a two's-complement pattern of `n` bits, cut. -/
def patt (n : Nat) (v : Int) : Nat := (v % (2 ^ n : Nat)).toNat

/-! ### Plain registers, page by page -/

/-- The header of a page (R321). -/
def Bolov.viewHeader (b : Bolov) (page off : Nat) : Nat :=
  if off = 0x000 then page
  else if off = 0x004 then 0x0100
  else if off = 0x00C then
    pack [(1, b2n (b.pendingSet page != 0)), (1, b2n (b.pageOn page)), (1, b2n (b.owed.contains page)), (29, 0)]
  else if off = 0x010 then (b.reg (evtRaw page)).toNat
  else 0

/-- Global page (R324). -/
def Bolov.viewGlb (b : Bolov) (off : Nat) : Nat :=
  if off = 0x024 then
    pack [(1, b2n b.i3c.dyn.isSome), (7, (b.i3c.dyn.getD 0).toNat), (1, 0), (7, 0x50 + b.i3c.addrSel.toNat), (16, 0)]
  else 0

/-- The port that `ID_PORT_SEL` names, and its publication (R349). -/
def Bolov.published (b : Bolov) : Publish := (b.port (b.regFld Reg.ID_PORT_SEL 6 0)).publish

/-- Identity page (R363). -/
def Bolov.viewId (b : Bolov) (off : Nat) : Nat :=
  if off = 0x02C then pack [(1, b2n b.published.valid), (31, 0)] else 0

/-- Power page (R377). -/
def Bolov.viewPwr (b : Bolov) (off : Nat) : Nat :=
  let p := b.pwr
  if off = 0x020 then
    pack [(1, b2n p.ready), (1, 0), (1, b2n p.vcoreLow), (2, p.bringup.toNat), (3, p.cause.toNat), (24, 0)]
  else if off = 0x030 then fld p.domState 31 0
  else if off = 0x034 then fld p.domState 63 32
  else if off = 0x038 then fld p.domState 79 64
  else if off = 0x03C then p.mv.toNat
  else if off = 0x040 then p.tj.toNat
  else if 0x048 ≤ off then fld p.absent (8 * (off - 0x048) + 31) (8 * (off - 0x048))
  else 0

/-- Clocks and time (R143). -/
def Bolov.viewTm (b : Bolov) (off : Nat) : Nat :=
  let t := b.time
  if off = 0x024 then
    pack [(1, b2n t.snapBusy.isSome), (1, b2n t.todValid), (1, b2n t.locked), (1, b2n t.holdover), (1, b2n t.refLock), (27, 0)]
  else if off = 0x050 then satSigned 32 t.integ
  else if off = 0x054 then (if t.holdover then b.holdSeconds else t.holdSecs)
  else if off = 0x098 then t.snapTod / 2 ^ 32 % 1000000000
  else if off = 0x09C then t.snapTod % 2 ^ 32
  else if off = 0x0A0 then t.utc.toNat
  else 0

/-- PTP (R144). -/
def Bolov.viewPtp (b : Bolov) (off : Nat) : Nat :=
  if off = 0x038 then patt 32 (b.pathDelay.getD 0 / (todFine : Int)) else 0

/-- Sort page (R168). -/
def Bolov.viewSort (b : Bolov) (off : Nat) : Nat :=
  if off = 0x024 then
    pack [(1, b2n b.sort.running), (1, b2n b.draining), (2, 0), (1, b2n b.sort.walk.isSome), (27, 0)]
  else if off = 0x048 then b.poolUsed
  else if off = 0x04C then b.sort.poolPeak
  else if off = 0x070 then b.sort.late.length
  else if off = 0x074 then b.sort.ovfBin.toNat
  else 0

/-- Output page (R190). -/
def Bolov.viewOut (b : Bolov) (off : Nat) : Nat :=
  if off = 0x024 then bitWord 16 (fun i => (b.lanes[Fin.ofNat 16 i]).breach)
  else if off = 0x02C then
    pack [(16, bitWord 16 (fun i => (b.lanes[Fin.ofNat 16 i]).heldFrom.isSome)),
          (16, bitWord 16 (fun i => (b.lanes[Fin.ofNat 16 i]).ranFrom.isSome))]
  else 0

/-- Trigger page (R209). -/
def Bolov.viewTrg (b : Bolov) (off : Nat) : Nat :=
  if off = 0x024 then pack [(1, b2n b.protectedOpen), (15, 0), (16, b.trg.seq.toNat)] else 0

/-- Rate page (R210). -/
def Bolov.viewRate (b : Bolov) (off : Nat) : Nat :=
  if off = 0x024 then pack [(2, b.rate.stage), (30, 0)]
  else if off = 0x034 then b.backlogLines
  else if off = 0x080 then b.rate.throttle.toNat
  else 0

/-- Interval units (R223). -/
def Bolov.viewIs (b : Bolov) (off : Nat) : Nat :=
  let n : Fin 4 := Fin.ofNat 4 ((off - 0x100) / 0x80)
  let o := (off - 0x100) % 0x80
  let u := b.unit n
  if off < 0x100 then 0
  else if o = 0x18 then
    pack [(1, b2n (b.isRun n)), (1, b2n (b.isArmed n)), (1, b2n u.link.isSome), (4, 0), (25, u.acc.count)]
  else if o = 0x1C then u.result.seq.toNat
  else if o = 0x20 then
    pack [(1, b2n u.result.acc.clipped), (1, b2n u.result.early), (1, b2n u.result.freq), (1, b2n u.result.acc.refLost),
      (3, 0), (25, u.result.acc.count)]
  else 0

/-- Tarn page (R244). -/
def Bolov.viewTarn (b : Bolov) (off : Nat) : Nat :=
  let t := b.tarn
  if off = 0x024 then pack [(1, b2n b.tarnOn), (1, b2n t.training), (8, t.fail.toNat), (22, 0)]
  else if off = 0x034 then (if t.hist = 0 then 0 else t.w % t.hist)
  else if off = 0x038 then t.seq
  else if off = 0x03C then t.hist
  else if off = 0x040 then (if t.hist = 0 then 0 else b.pinTotal b.marksUsed)
  else if off = 0x048 then pack [(1, b2n (decide (b.up < t.markUntil))), (3, t.markRes), (28, 0)]
  else if off = 0x058 then bitWord 16 (fun i => t.requests.any (fun r => r.active && r.lane.val == i))
  else 0

/-- Mere page (R259). -/
def Bolov.viewMere (b : Bolov) (off : Nat) : Nat :=
  let m := b.mere
  let u := b.mereUnit
  let e := fget none m.tracker (b.regFld Reg.MERE_TRK_INDEX 5 0)
  if off = 0x02C then m.held.toNat
  else if off = 0x034 then
    pack [(1, b2n (m.lastValid.getLsbD u)), (11, 0), (10, if u < 16 then fget 0 m.spares u else 0), (2, 0), (8, fget 0 m.levels u)]
  else if off = 0x038 then fget 0 m.last u
  else if off = 0x03C then m.badGroups.length
  else if off = 0x044 then (match e with | some x => x.addr | none => 0)
  else if off = 0x048 then (match e with
    | some x => pack [(1, 1), (1, b2n x.wb), (1, b2n x.hard), (1, b2n x.unplaced), (26, 0), (2, cap 3 x.count)]
    | none => 0)
  else 0

/-- Pod page (R279). -/
def Bolov.viewPod (b : Bolov) (off : Nat) : Nat :=
  let p := b.pod
  if off = 0x024 then
    pack [(3, p.state.code), (1, b2n p.partnerLost), (1, b2n p.silent), (1, b2n p.fenceOut), (1, b2n p.fenceIn), (1, 0),
      (8, p.partnerHealth), (8, p.health), (8, 0)]
  else 0

/-- Monitor page (R296). -/
def Bolov.viewMon (b : Bolov) (off : Nat) : Nat :=
  let busy := fun (c : MonConv) => c.running || c.guardOn
  if off = 0x024 then
    pack [(24, 0), (4, bitWord 4 (fun i => (b.conv (Fin.ofNat 4 i)).powered)), (4, bitWord 4 (fun i => busy (b.conv (Fin.ofNat 4 i))))]
  else if off = 0x028 then pack [(1, 0), (1, b2n b.mon.level), (30, 0)]
  else if off = 0x02C then b.mon.broken.toNat
  else if 0x100 ≤ off ∧ off < 0x180 ∧ off % 0x20 = 0x08 then
    let c := b.conv (Fin.ofNat 4 ((off - 0x100) / 0x20))
    pack [(1, b2n (busy c)), (1, b2n (c.running || (c.guardOn && !c.guardSettled))), (4, if busy c then c.slot else 0),
      (10, 0), (16, c.seq.toNat)]
  else 0

/-- Guard page (R312). -/
def Bolov.viewGrd (b : Bolov) (off : Nat) : Nat :=
  let g := b.grd
  let left := match g.lockEnd with | some u => ceilDiv (u - b.up) ticksS | none => 0
  let oldest := g.logSeq - g.log.length
  let sel := (b.reg Reg.GRD_LOG_SEL).toNat
  if off = 0x024 then
    pack [(1, b2n g.opened), (1, b2n g.lockEnd.isSome), (1, b2n g.password.isSome), (2, 0), (3, g.failures), (1, b2n g.ilk),
      (1, b2n g.pAlive), (2, 0), (4, g.hOk.toNat), (4, b.pOk.toNat), (4, g.readback.toNat), (4, 0), (4, g.on.toNat)]
  else if off = 0x038 then pack [(16, left), (13, 0), (3, g.result)]
  else if off = 0x03C then g.session.toNat
  else if 0x040 ≤ off ∧ off < 0x050 then b.outState (Fin.ofNat 4 ((off - 0x040) / 4))
  else if off = 0x080 then g.logSeq
  else if off = 0x084 then oldest
  else if 0x0A0 ≤ off ∧ off < 0x0C0 then g.head.toNat / 2 ^ (32 * (7 - (off - 0x0A0) / 4)) % 2 ^ 32
  else if 0x0C0 ≤ off ∧ off < 0x100 then
    if oldest ≤ sel ∧ sel < g.logSeq then
      let i := (off - 0x0C0) / 4
      let w := ((g.log.getD (sel - oldest) []).getD (i / 2) 0)
      if i % 2 = 0 then fld w 63 32 else fld w 31 0
    else 0
  else 0

/-- Security page (R363). -/
def Bolov.viewSec (b : Bolov) (off : Nat) : Nat :=
  if off = 0x024 then b.secStatus
  else if off = 0x028 then pack [(8, b.sec.secVer), (24, b.sec.version)]
  else 0

/-- Interrupt page (R324). -/
def Bolov.viewInt (b : Bolov) (off : Nat) : Nat :=
  if off = 0x024 then
    bitWord 32 (fun i => (decide (i ≤ 0x011) && b.pendingSet i != 0) || (i == 29 && b.pendingSet 0x040 != 0))
  else if off = 0x028 then bitWord 32 (fun i => b.pendingSet (0x020 + i) != 0)
  else 0

/-- Commit page (R346). -/
def Bolov.viewCmt (b : Bolov) (off : Nat) : Nat :=
  let c := b.cmt
  if off = 0x024 then
    pack [(1, b2n c.busy), (3, c.result), (4, b.sort.cfg.epoch.toNat), (4, if c.busy then c.pending.toNat else 0), (6, 0),
      (14, c.staged.contexts.length)]
  else if off = 0x034 then pack [(16, 0), (8, c.lastMissing), (8, c.lastLate)]
  else 0

/-- Privileged queues (R326): the level, and the head record of a host-bound queue. -/
def Bolov.viewPq (b : Bolov) (off : Nat) : Nat :=
  let q : Fin 8 := Fin.ofNat 8 ((off - 0x100) / 0x100)
  let o := (off - 0x100) % 0x100
  let recs := (b.queues[q]).records
  if off < 0x100 then 0
  else if o = 0x00 then pack [(16, qCap q), (16, recs.length)]
  else if 0x40 ≤ o ∧ !qFromHost q then
    let i := (o - 0x40) / 4
    let w := (recs.headD []).getD (i / 2) 0
    if i % 2 = 0 then fld w 63 32 else fld w 31 0
  else 0

/-- d in 2^-10 ns, rounded half up (R116). -/
def delayFine (d : Int) : Nat := patt 21 (roundDivI (1024 * d) delayNs)

/-- The code of a receiver state (R112). -/
def RxState.code : RxState → Nat
  | .acquiring => 0
  | .blockLock => 1
  | .ready => 2
  | .data => 3

/-- Quad pages (R121, R170, R251). -/
def Bolov.viewQd (b : Bolov) (page off : Nat) : Nat :=
  let p := (page - 0x020) * 4 + (off - 0x100) / 0x40
  let o := (off - 0x100) % 0x40
  let x := b.port p
  if off < 0x100 then 0
  else if o = 0x04 then
    pack [(3, x.rx.code), (1, b2n x.delayValid), (1, b2n x.delayFault), (1, b2n x.measure.isSome), (1, b2n x.owner), (5, 0), (20, x.lag)]
  else if o = 0x08 then delayFine x.dDown
  else if o = 0x0C then delayFine x.dUp
  else if o = 0x14 then (b.reg (Reg.QD_EYE p) &&& 0x40000FFF#32).toNat
  else if o = 0x2C then cap 4095 (b.closeMargin p)
  else if o = 0x38 then cap 15 x.depth
  else 0

/-- Remote window (R333). -/
def Bolov.viewRmt (b : Bolov) (off : Nat) : Nat :=
  if off = 0x024 then pack [(7, 0), (9, b.rmtQueued), (16, b.rmt.nextSeq.toNat)]
  else if off = 0x060 then pack [(1, b2n b.rmt.fcBusy), (3, b.rmt.fcResult), (4, 0), (8, b.rmt.fcSkipped), (16, 0)]
  else 0

/-- The window of a page, 0 to 5. -/
def windowOf (page : Nat) : Fin 6 := Fin.ofNat 6 (page - 0x041)

/-- Entries of a window's table that are staged. -/
def Bolov.stagedCount (b : Bolov) (w : Fin 6) : Nat :=
  if w = 0 then b.cmt.staged.regionMap.length
  else if w = 1 then b.cmt.staged.steering.length
  else if w = 2 then b.cmt.staged.contexts.length
  else 0

/-- Table windows (R328). -/
def Bolov.viewTw (b : Bolov) (page off : Nat) : Nat :=
  let w := windowOf page
  let x := b.windows[w]
  if off = 0x020 then x.index
  else if off = 0x024 then pack [(1, 0), (1, b2n x.staged), (1, b2n x.poisoned), (15, 0), (14, b.stagedCount w)]
  else if off = 0x028 then (x.data[(3 : Fin 4)]).toNat
  else if off = 0x02C then (x.data[(2 : Fin 4)]).toNat
  else if off = 0x030 then (x.data[(1 : Fin 4)]).toNat
  else if off = 0x034 then (x.data[(0 : Fin 4)]).toNat
  else 0

/-- The read-only fields of a register. -/
def Bolov.view (b : Bolov) (addr : Nat) : Nat :=
  let page := addr / 0x1000
  let off := addr % 0x1000
  if off < 0x020 then b.viewHeader page off
  else if 0x020 ≤ page ∧ page < 0x040 then b.viewQd page off
  else if 0x041 ≤ page then b.viewTw page off
  else match page with
    | 0x000 => b.viewGlb off
    | 0x001 => b.viewId off
    | 0x002 => b.viewPwr off
    | 0x003 => b.viewTm off
    | 0x004 => b.viewPtp off
    | 0x005 => b.viewSort off
    | 0x006 => b.viewOut off
    | 0x007 => b.viewTrg off
    | 0x008 => b.viewRate off
    | 0x009 => b.viewIs off
    | 0x00A => b.viewTarn off
    | 0x00B => b.viewMere off
    | 0x00C => b.viewPod off
    | 0x00D => b.viewMon off
    | 0x00E => b.viewGrd off
    | 0x00F => b.viewSec off
    | 0x010 => b.viewInt off
    | 0x011 => b.viewCmt off
    | 0x012 => b.viewPq off
    | 0x040 => b.viewRmt off
    | _ => 0

/-! ### Wide values -/

/-- The slices in flight, and those still open. -/
def Bolov.flightNums (b : Bolov) : List Nat := (b.sort.slices.filter (fun s => !s.skipped)).map Slice.num
def Bolov.openNums (b : Bolov) : List Nat :=
  (b.sort.slices.filter (fun s => !s.skipped && s.phase == .collecting)).map Slice.num

/-- A register of a slice number: zero until the engine has run. -/
def Bolov.sliceReg (b : Bolov) (l : List Nat) (pick : Nat → Nat → Nat) : Nat :=
  match l with
  | x :: r => r.foldl pick x
  | [] => if b.sort.nextSlice = 0 then 0 else (Config.noSlice b.up).toNat

/-- A result register of an interval unit (R223). -/
def Bolov.isWide (b : Bolov) (off : Nat) : Nat :=
  let r := (b.unit (Fin.ofNat 4 ((off - 0x100) / 0x80))).result
  let o := (off - 0x100) % 0x80
  if o = 0x28 then patt 56 r.mean
  else if o = 0x30 then r.sd
  else if o = 0x38 then patt 48 r.acc.min
  else if o = 0x40 then patt 48 r.acc.max
  else if o = 0x48 then patt 48 r.acc.pivot
  else if o = 0x50 then patt 64 r.acc.sum
  else if o = 0x58 then r.acc.sumsq
  else if o = 0x64 then r.acc.edges
  else 0

/-- The MAC address of the timing port (R350). -/
def Bolov.macAddress (b : Bolov) : Nat := 0x0A * 2 ^ 40 + (sha256 (bytesOf 8 b.sec.unit.toNat)).toNat % 2 ^ 40

/-- The wide value whose _LO stands at an address, where it is read only. -/
def Bolov.wideView (b : Bolov) (addr : Nat) : Nat :=
  let page := addr / 0x1000
  let off := addr % 0x1000
  if addr = Reg.ID_UNIT then b.sec.unit.toNat
  else if addr = Reg.ID_PORT_UNIT then
    (if b.published.valid then (b.published.lo.getD 0).toNat + 2 ^ 32 * (b.published.hi.getD 0).toNat else 0)
  else if addr = Reg.TM_INCR then b.time.incr
  else if addr = Reg.TM_OFFSET then satSymmetric 48 b.time.offset
  else if addr = Reg.TM_TICK then b.tick.toNat
  else if addr = Reg.TM_SNAP_TICK then b.time.snapTick.toNat
  else if addr = Reg.TM_SNAP_SEC then b.time.snapTod / 2 ^ 32 / 1000000000
  else if addr = Reg.PTP_MAC then b.macAddress
  else if addr = Reg.SORT_OLDEST then b.sliceReg b.flightNums min
  else if addr = Reg.SORT_NEWEST then b.sliceReg b.openNums max
  else if page = 0x009 then b.isWide off
  else if addr = Reg.POD_PROGRESS then b.pod.through.getD 0
  else if 0xC050 ≤ addr ∧ addr < 0xC068 then (b.pod.report[Fin.ofNat 3 ((addr - 0xC050) / 8)]).toNat
  else if 0xC068 ≤ addr ∧ addr < 0xC080 then (b.pod.partnerReport[Fin.ofNat 3 ((addr - 0xC068) / 8)]).toNat
  else if page = 0x00D then (fget 0 b.mon.last ((off - 0x208) / 0x10)).toNat
  else if addr = Reg.CMT_FIRST_SLICE then b.cmt.firstSlice
  else if addr = Reg.CMT_MERGE_END then b.cmt.lastMergeEnd.toNat
  else if 0x020 ≤ page ∧ page < 0x040 then (b.port ((page - 0x020) * 4 + (off - 0x100) / 0x40)).hEff.toNat
  else if addr = Reg.RMT_FC_SENT then b.rmt.fcSent.toNat
  else b.reg64 addr

end Sys2Proof.Machine
end

