-- ==== Sys2Proof/Machine/Tables.lean ====
section
/-!
DEFINITION. The table windows: fetch, staged and immediate writes (17 R328), and their lines in Mere (13 R250, R252).
-/

namespace Sys2Proof.Machine

/-! ### The tables -/

/-- Entries of a window's table. -/
def tableSize (w : Fin 6) : Nat := [4096, 256, 262144, 2048, 64, 64].getD w 1

/-- Change a window. -/
def Bolov.modWindow (w : Fin 6) (f : Window → Window) (b : Bolov) : Bolov := { b with windows := b.windows.set w (f b.windows[w]) }

/-- The entry a window stands at: an index at or above the table size acts as 0. -/
def Bolov.windowIndex (b : Bolov) (w : Fin 6) : Nat :=
  let i := (b.windows[w]).index
  if i < tableSize w then i else 0

/-- A mark as the table holds it (R232). -/
def TMark.entry (hist : Nat) (m : TMark) : Nat :=
  let st := match m.state with | .free => 0 | .pending => 1 | .live => 2 | .overtaken => 3
  let addr := if st < 2 ∨ hist = 0 then 0 else m.pos % hist
  pack [(2, st), (1, b2n m.pinned), (1, b2n m.auto), (3, m.source), (1, 0), (16, m.seq.toNat), (20, m.pinLen), (4, 0),
    (32, addr), (48, m.slice)]

/-- The newest staged value (R9, R336): staged for the next go, or by the commit in progress until it has switched. -/
def stagedNewest {α : Type} (staged copy : FMap (Option α)) (waiting : Bool) (k : Nat) : Option α :=
  match fget none staged k with
  | some v => some v
  | none => if waiting then fget none copy k else none

/-- The commit in progress has not yet made its slice-aligned switch. -/
def CommitState.waits (c : CommitState) : Bool := c.busy && !c.switched

/-- The staged context entry of an index, with its place. -/
def CommitState.stagedCtx (c : CommitState) (i : Nat) : Option (Nat × BitVec 128) :=
  stagedNewest c.staged.contexts c.copy.contexts (c.busy && (!c.reached || c.toMerge.any (fun e => e.1 == i))) i

/-- What a fetch shows: the entry, whether it is staged, whether it was read poisoned. -/
structure Fetched where
  value : Nat
  staged : Bool := false
  poisoned : Bool := false
deriving DecidableEq, Repr

/-- The writable bits of a context (R162): [127:52], cal_inhibit, status. -/
def ctxWritable : BitVec 128 := BitVec.ofNat 128 (pack [(76, 2 ^ 76 - 1), (3, 0), (1, 1), (4, 0), (4, 15), (40, 0)])

/-- A table kept in two copies: what stands in it, or what a lost line acts as (R250). -/
def Bolov.copiesFetch (b : Bolov) (a0 a1 : Nat) (value lost : Nat) : Bolov × Fetched :=
  let (b1, gone) := b.tableRead a0 a1
  (b1, { value := if gone then lost else value, poisoned := gone })

/-- An entry of a table. -/
def Bolov.fetchEntry (b : Bolov) (w : Fin 6) (i : Nat) : Bolov × Fetched :=
  let c := b.cmt
  match w with
  | 0 => match stagedNewest c.staged.regionMap c.copy.regionMap c.waits i with
    | some v => (b, { value := v.toNat, staged := true })
    | none => b.copiesFetch (mapLine 0 i) (mapLine 1 i) (fget (0x0100#16) b.sort.cfg.regionMap i).toNat 0x0100
  | 1 => match stagedNewest c.staged.steering c.copy.steering c.waits i with
    | some v => (b, { value := v.toNat, staged := true })
    | none => b.copiesFetch (steeringLine 0 i) (steeringLine 1 i) (b.sort.cfg.lane i) (i % 16)
  | 2 =>
    let b1 := b.syncMerge.syncWalk
    match b1.cmt.stagedCtx i with
    | some (slot, v) =>
      let b1 := b1.readOnce (stagedCtxLine slot)
      (b1, { value := ((v &&& ctxWritable) ||| (b1.ctx i &&& ~~~ctxWritable)).toNat, staged := true,
                               poisoned := b1.poisoned (stagedCtxLine slot) })
    | none =>
      let (b2, flip) := b1.readLine false false (ctxLine i)
      (b2, { value := (b2.ctx i ^^^ ctxFlip i flip).toNat, poisoned := b2.poisoned (ctxLine i) })
  | 3 => b.copiesFetch (overflowLine 0 (32 * i)) (overflowLine 1 (32 * i)) (fget 0 b.sort.overflowEn i).toNat 0
  | 4 =>
    let m := match fget none b.tarn.masks (i / 4) with | some m => m | none => BitVec.allOnes 256
    b.copiesFetch (maskLine 0 (i / 4)) (maskLine 1 (i / 4)) (fld m (64 * (i % 4) + 63) (64 * (i % 4))) (2 ^ 64 - 1)
  | 5 =>
    let b1 := b.readOnce (markLine i)
    (b1, { value := (b1.mark i).entry b1.tarn.hist, poisoned := b1.poisoned (markLine i) })

/-- The data registers of a value. -/
def dataWords (v : Nat) : Vector Word 4 := Vector.ofFn (fun k => BitVec.ofNat 32 (v / 2 ^ (32 * k.val)))

/-- The value that the data registers hold. -/
def Window.value (x : Window) : BitVec 128 := x.data[(3 : Fin 4)] ++ x.data[(2 : Fin 4)] ++ x.data[(1 : Fin 4)] ++ x.data[(0 : Fin 4)]

/-- Fetch the entry at the index into the data registers (R328). -/
def Bolov.windowFetch (w : Fin 6) (b : Bolov) : Bolov :=
  let r := b.fetchEntry w (b.windowIndex w)
  r.1.modWindow w (fun x => { x with data := dataWords r.2.value, staged := r.2.staged, poisoned := r.2.poisoned })

/-- The index advances, wrapping at the table size. -/
def Bolov.windowAdvance (w : Fin 6) (b : Bolov) : Bolov :=
  let i := (b.windowIndex w + 1) % tableSize w
  b.modWindow w (fun x => { x with index := i })

/-- A write of `TW_INDEX`. -/
def Bolov.windowIndexWrite (w : Fin 6) (v : Word) (b : Bolov) : Bolov :=
  (b.modWindow w (fun x => { x with index := fld v 17 0 })).windowFetch w

/-- A read of `TW_DATA0`, after its value is taken. -/
def Bolov.windowNext (w : Fin 6) (b : Bolov) : Bolov := (b.windowAdvance w).windowFetch w

/-! ### Writes -/

/-- Change the staged set. -/
def Bolov.modStaged (f : StagedSet → StagedSet) (b : Bolov) : Bolov := b.modCmt (fun c => { c with staged := f c.staged })

/-- A narrow write to both copies of a table line (R252). -/
def Bolov.writeCopies (a0 a1 : Nat) (b : Bolov) : Bolov := (b.narrowWrite a0).narrowWrite a1

/-- Stage a context: an entry already staged is replaced; more than 8,192 entries are refused (R328). -/
def Bolov.stageCtx (i : Nat) (v : BitVec 128) (b : Bolov) : Bolov :=
  match fget none b.cmt.staged.contexts i with
  | some (slot, _) =>
    (b.narrowWrite (stagedCtxLine slot)).modStaged (fun x => { x with contexts := fset none x.contexts i (some (slot, v)) })
  | none =>
    if b.cmt.staged.contexts.length ≥ 8192 then b.setRegBit (Reg.TW_STATUS 2) 28 true
    else
      let slot := b.cmt.slot
      let b1 := (b.narrowWrite (stagedCtxLine slot)).modCmt (fun c => { c with slot := (slot + 1) % 8192 })
      b1.modStaged (fun x => { x with contexts := fset none x.contexts i (some (slot, v)) })

/-- Store an entry: staged for a commit, or written at once. -/
def Bolov.storeEntry (w : Fin 6) (i : Nat) (v : BitVec 128) (b : Bolov) : Bolov :=
  match w with
  | 0 => b.modStaged (fun x => { x with regionMap := fset none x.regionMap i (some (v.setWidth 16 &&& 0x1FF#16)) })
  | 1 => b.modStaged (fun x => { x with steering := fset none x.steering i (some (v.setWidth 8 &&& 0x0F#8)) })
  | 2 => b.stageCtx i (v &&& ctxWritable)
  | 3 => (b.writeCopies (overflowLine 0 (32 * i)) (overflowLine 1 (32 * i))).modSort
      (fun x => { x with overflowEn := fset 0 x.overflowEn i (v.setWidth 32) })
  | 4 =>
    let old := match fget none b.tarn.masks (i / 4) with | some m => m | none => BitVec.allOnes 256
    let new := setFld old (64 * (i % 4) + 63) (64 * (i % 4)) (v.toNat % 2 ^ 64)
    (b.writeCopies (maskLine 0 (i / 4)) (maskLine 1 (i / 4))).modTarn
      (fun t => { t with masks := fset none t.masks (i / 4) (if new = BitVec.allOnes 256 then none else some new) })
  | 5 => b

/-- A write of `TW_DATA0`: the mark table is read only. -/
def Bolov.windowWrite (w : Fin 6) (v : Word) (b : Bolov) : Bolov :=
  if w = 5 then b.setRegBit (Reg.TW_STATUS 5) 27 true
  else
    let b1 := b.modWindow w (fun x => { x with data := x.data.set 0 v, staged := false, poisoned := false })
    (b1.storeEntry w (b1.windowIndex w) (b1.windows[w]).value).windowAdvance w

/-- A write of one of `TW_DATA3` to `TW_DATA1`. -/
def Bolov.windowHold (w : Fin 6) (k : Fin 4) (v : Word) (b : Bolov) : Bolov :=
  b.modWindow w (fun x => { x with data := x.data.set k v })

/-! ### Meanings -/

/-- TW_INDEX_WRITE (R328): `reads` are the line reads of the fetch that are not clean. -/
def execTwIndexWrite (window : Fin 6) (value : Word) (reads : List LineRead) (s : State) : Out :=
  onB s (fun b => (b.withFlaws reads).windowIndexWrite window value)

/-- TW_DATA0_READ (R328). -/
def execTwData0Read (window : Fin 6) (reads : List LineRead) (s : State) : Out :=
  onB s (fun b => (b.withFlaws reads).windowNext window)

/-- TW_DATA0_WRITE (R328). -/
def execTwData0Write (window : Fin 6) (value : Word) (s : State) : Out := onB s (Bolov.windowWrite window value)

end Sys2Proof.Machine
end

