-- ==== Sys2Proof/Machine/Registers.lean ====
section
/-!
DEFINITION. Reading and writing the Bolov's registers over its host interface: access codes, wide values and their latches,
counters, events, privileged queues, and the writes that act (00 R6 to R9; 17 R316, R318, R321, R322, R324, R326).
-/

namespace Sys2Proof.Machine

/-! ### Events (R322) -/

/-- A write to EVT_CLR or EVT_EN has left the pending set as it is: a page whose set is not empty owes an IBI. -/
def Bolov.oweIfPending (page : Nat) (b : Bolov) : Bolov := if b.pendingSet page = 0 then b else b.owe page

/-- A write of `_EVT_CLR`. -/
def Bolov.evtClrWrite (page : Nat) (v : Word) (b : Bolov) : Bolov :=
  (b.setReg (evtRaw page) (b.reg (evtRaw page) &&& ~~~ v)).oweIfPending page

/-- A write of `_EVT_EN`. -/
def Bolov.evtEnWrite (page : Nat) (v : Word) (b : Bolov) : Bolov := (b.setReg (evtEn page) v).oweIfPending page

/-! ### Privileged queues (R326) -/

/-- The record that a queue's buffer holds. -/
def Bolov.queueBuffer (b : Bolov) (q : Fin 8) : List W64 :=
  (List.range (qWords q)).map (fun k => b.reg (Reg.PQ_REC q (2 * k)) ++ b.reg (Reg.PQ_REC q (2 * k + 1)))

/-- A write of pop. -/
def Bolov.queuePop (q : Fin 8) (b : Bolov) : Bolov :=
  if qFromHost q then b.setRegBit (Reg.PQ_STATUS q) 29 true
  else if (b.queues[q]).records.isEmpty then b.setRegBit (Reg.PQ_STATUS q) 31 true
  else b.modQueue q (fun x => { x with records := x.records.tail })

/-- A write of push. -/
def Bolov.queuePush (q : Fin 8) (b : Bolov) : Bolov :=
  if !qFromHost q then b.setRegBit (Reg.PQ_STATUS q) 29 true
  else if (b.queues[q]).records.length ≥ qCap q then b.setRegBit (Reg.PQ_STATUS q) 30 true
  else b.modQueue q (fun x => { x with records := x.records ++ [b.queueBuffer q] })

/-- A write of clear: reserved records stay reserved. -/
def Bolov.queueClear (q : Fin 8) (b : Bolov) : Bolov := b.modQueue q (fun x => { x with records := [] })

/-- A write of `PQ_q_CMD`. -/
def Bolov.queueCmd (q : Fin 8) (v : Word) (b : Bolov) : Bolov :=
  whenDo (bit v.toNat 29) (Bolov.queueClear q) (whenDo (bit v.toNat 30) (Bolov.queuePush q) (whenDo (bit v.toNat 31) (Bolov.queuePop q) b))

/-! ### Rows -/

/-- The row of a Bolov address (R320, R321); none where no register stands there. -/
def bolovRow (addr : Nat) : Option RegRow :=
  if addr % 4 = 0 then (findRow (bolovRows (addr / 0x1000)) (addr % 0x1000)).map Prod.fst else none

/-- An access to an unmapped address (R316). -/
def Bolov.unmapped (b : Bolov) : Bolov := b.count Reg.GLB_UNMAPPED 1

/-- A block-specific register of a block whose domain is off (R321). -/
def Bolov.blockOff (b : Bolov) (addr : Nat) : Bool := decide (addr % 0x1000 ≥ 0x020) && !b.pageOn (addr / 0x1000)

/-- The copy that the selection register of a row names. -/
def Bolov.selected (b : Bolov) (s : RegSel) : Nat :=
  match s with
  | .none => 0
  | .port => b.regFld Reg.SORT_PORT_SEL 6 0
  | .lane => b.regFld Reg.OUT_LANE_SEL 3 0
  | .cause => b.regFld Reg.RATE_DT_SEL 2 0
  | .unit => b.mereUnit

/-- The counter that a _LO shows: the lost records of MON_RESULT stand in `MON_RESULT_LOST` (R326). -/
def Bolov.shownCtr (b : Bolov) (addr : Nat) (s : RegSel) : Ctr :=
  if addr = Reg.PQ_LOST 5 then b.ctr Reg.MON_RESULT_LOST 0 else b.ctr addr (b.selected s)

/-- The stored fields of a register as they read: commit fields show the newest staged value (R9, R336). -/
def Bolov.storedReg (b : Bolov) (addr : Nat) (r : RegRow) : Word :=
  let keep := b.reg addr &&& BitVec.ofNat 32 (r.rw ||| r.w1c)
  let cm := BitVec.ofNat 32 r.commit
  match stagedNewest b.cmt.staged.regs b.cmt.copy.regs b.cmt.waits addr with
  | some v => (keep &&& ~~~ cm) ||| (v &&& cm)
  | none => keep

/-! ### Reads (R316, R318) -/

/-- The value latched for a _MID or _HI on an access path; zero before the first read of its _LO (R334). -/
def Bolov.latched (b : Bolov) (p : Path) (addr : Nat) : Word :=
  match p with
  | .host => fget 0 b.hostLatch addr
  | .core => fget 0 b.coreLatch addr

/-- Latch a part. -/
def Bolov.setLatch (p : Path) (addr : Nat) (v : Nat) (b : Bolov) : Bolov :=
  match p with
  | .host => { b with hostLatch := fset 0 b.hostLatch addr (BitVec.ofNat 32 v) }
  | .core => { b with coreLatch := fset 0 b.coreLatch addr (BitVec.ofNat 32 v) }

/-- The parts of a wide value above its _LO. -/
def Bolov.latchWide (p : Path) (addr v : Nat) (b : Bolov) : Bolov :=
  let b1 := b.setLatch p (addr + 4) (v / 2 ^ 32)
  match bolovRow (addr + 4) with
  | some r => if r.kind = .mid then b1.setLatch p (addr + 8) (v / 2 ^ 64) else b1
  | none => b1

/-- What a counter shows (R101, R318): its _HI carries sat in bit 31. -/
def Ctr.shown (c : Ctr) : Nat := c.val + b2n c.sat * 2 ^ 63

/-- The value of a register. -/
def Bolov.readValue (b : Bolov) (p : Path) (addr : Nat) (r : RegRow) : Word :=
  match r.kind with
  | .plain => b.storedReg addr r ||| BitVec.ofNat 32 (b.view addr)
  | .lo => BitVec.ofNat 32 (b.wideView addr)
  | .mid => b.latched p addr
  | .hi => b.latched p addr
  | .ctrLo => BitVec.ofNat 32 (b.shownCtr addr r.sel).shown
  | .ctrHi => b.latched p addr

/-- The effects of a read: the latch, the RC field (`SORT_POOL_PEAK`), `TW_DATA0`. -/
def Bolov.readEffect (p : Path) (addr : Nat) (r : RegRow) (reads : List LineRead) (b : Bolov) : Bolov :=
  match r.kind with
  | .lo => b.latchWide p addr (b.wideView addr)
  | .ctrLo => b.latchWide p addr (b.shownCtr addr r.sel).shown
  | .plain =>
    if addr = Reg.SORT_POOL_PEAK then b.modSort (fun x => { x with poolPeak := 0 })
    else if 0x041000 ≤ addr ∧ addr < 0x047000 ∧ addr % 0x1000 = 0x034 then
      (b.withFlaws reads).windowNext (windowOf (addr / 0x1000))
    else b
  | .mid => b
  | .hi => b
  | .ctrHi => b

/-- A read of a register over an access path: its value, and the Bolov after it. -/
def Bolov.readReg (p : Path) (addr : Nat) (reads : List LineRead) (b : Bolov) : Word × Bolov :=
  match bolovRow addr with
  | none => (0, b.unmapped)
  | some r => if b.blockOff addr then (0, b) else (b.readValue p addr r, b.readEffect p addr r reads)

/-! ### Plain writes (R6, R8, R9) -/

/-- A write of a register without action: RW fields take the value, W1C bits clear, commit fields are staged. -/
def Bolov.plainWrite (addr : Nat) (r : RegRow) (v : Word) (b : Bolov) : Bolov :=
  let cm := BitVec.ofNat 32 r.commit
  let now := BitVec.ofNat 32 r.rw &&& ~~~ cm
  let old := b.reg addr
  let new := (((old &&& ~~~ now) ||| (v &&& now)) &&& ~~~ (v &&& BitVec.ofNat 32 r.w1c))
  let b1 := b.setReg addr new
  if r.commit = 0 then b1
  else b1.modStaged (fun x => { x with regs := fset none x.regs addr (some (v &&& cm)) })

/-- A write of the RW fields alone. -/
def Bolov.fieldsWrite (addr : Nat) (v : Word) (b : Bolov) : Bolov :=
  match bolovRow addr with
  | some r => b.plainWrite addr r v
  | none => b

/-! ### Wide writes (R318) -/

/-- Registers that the engine ignores while it runs or drains (R146). -/
def Bolov.sortCfgIgnored (b : Bolov) : Bolov := b.setRegBit Reg.SORT_STATUS 28 true

/-- A write of the _LO of a writable wide value is held. -/
def Bolov.loWrite (addr : Nat) (v : Word) (b : Bolov) : Bolov :=
  if addr = Reg.SORT_S0 ∧ b.sort.running then b.sortCfgIgnored
  else { b with heldLo := fset none b.heldLo addr (some v) }

/-- The held _LO, or its reset value. -/
def Bolov.heldOf (b : Bolov) (addr : Nat) : Word :=
  match fget none b.heldLo addr with
  | some v => v
  | none => bolovReset addr

/-- A writable wide value takes effect. -/
def Bolov.wideApply (lo v : Nat) (b : Bolov) : Bolov :=
  if lo = Reg.TM_INCR_BASE then b.incrBaseWrite v
  else if lo = Reg.TM_PPS_SEC then b.ppsSecWrite v
  else if lo = Reg.PTP_MASTER_ID then b.masterWrite v (b.regFld Reg.PTP_MASTER_PORT 15 0)
  else if lo = Reg.SORT_S0 ∧ b.sort.running then b.sortCfgIgnored
  else b.setReg64 lo v

/-- A write of the _HI of a writable wide value applies it with the held _LO. -/
def Bolov.hiWrite (addr : Nat) (r : RegRow) (v : Word) (b : Bolov) : Bolov :=
  let lo := addr - 4
  b.wideApply lo ((b.heldOf lo).toNat + 2 ^ 32 * (v &&& BitVec.ofNat 32 r.rw).toNat)

/-! ### Writes that act, page by page -/

/-- A write of a page header (R321). -/
def Bolov.headerWrite (page off : Nat) (r : RegRow) (v : Word) (b : Bolov) : Bolov :=
  if off = 0x014 then b.evtEnWrite page v
  else if off = 0x018 then b.evtClrWrite page v
  else b.plainWrite (page * 0x1000 + off) r v

/-- `GLB_CTRL.count_clear` (R324). -/
def Bolov.glbClear (b : Bolov) : Bolov := (b.clearCtr Reg.GLB_UNMAPPED 0).clearCtr Reg.GLB_PROTO_ERR 0

/-- A write of `PTP_CTRL` (R144). -/
def Bolov.ptpCtrlWrite (v : Word) (b : Bolov) : Bolov :=
  whenDo (bit v.toNat 31) (Bolov.clearCtr Reg.PTP_DISCARD 0) (b.fieldsWrite Reg.PTP_CTRL v)

/-- A write of `SORT_CTRL` (R146, R147, R166, R168). -/
def Bolov.sortCtrlWrite (v : Word) (b : Bolov) : Bolov :=
  let en := b.regBit Reg.SORT_CTRL 0
  let b1 := (b.fieldsWrite Reg.SORT_CTRL v).setRegBit Reg.SORT_CTRL 0 en
  let b2 := if bit v.toNat 0 then b1.sortStart else b1.sortStop
  whenDo (bit v.toNat 30) Bolov.walkStart (whenDo (bit v.toNat 31) Bolov.sortClear b2)

/-- A write of `OUT_CTRL` (R188, R190). -/
def Bolov.outCtrlWrite (r : RegRow) (v : Word) (b : Bolov) : Bolov :=
  let was := b.ek4
  let b1 := (b.plainWrite Reg.OUT_CTRL r v).setRegBit Reg.OUT_CTRL 1 was
  let b2 := if bit v.toNat 1 = was then b1 else b1.ek4Write (bit v.toNat 1)
  whenDo (bit v.toNat 31) Bolov.outClear b2

/-- A write of `TRG_CTRL` (R209). -/
def Bolov.trgCtrlWrite (v : Word) (b : Bolov) : Bolov :=
  whenDo (bit v.toNat 30) Bolov.softTrigger (whenDo (bit v.toNat 31) Bolov.trgClear (b.fieldsWrite Reg.TRG_CTRL v))

/-- A write of `RATE_CTRL` (R210). -/
def Bolov.rateCtrlWrite (v : Word) (b : Bolov) : Bolov :=
  whenDo (bit v.toNat 31) Bolov.rateClear (b.fieldsWrite Reg.RATE_CTRL v)

/-- A write on the interval page (R223). -/
def Bolov.isWrite (off : Nat) (r : RegRow) (v : Word) (b : Bolov) : Bolov :=
  let n : Fin 4 := Fin.ofNat 4 ((off - 0x100) / 0x80)
  let o := (off - 0x100) % 0x80
  if off < 0x100 then whenDo (bit v.toNat 31) Bolov.isClear b
  else if o = 0x00 then b.isCtrlWrite n v
  else if o < 0x18 then b.isCfgWrite n (0x9000 + off) (v &&& BitVec.ofNat 32 r.rw)
  else b.plainWrite (0x9000 + off) r v

/-- A write of `TARN_CTRL` (R226, R244). -/
def Bolov.tarnCtrlWrite (v : Word) (b : Bolov) : Bolov :=
  whenDo (bit v.toNat 30) (fun b => b.replayTarnOff.train)
    (whenDo (bit v.toNat 31) Bolov.tarnClear (b.fieldsWrite Reg.TARN_CTRL v))

/-- A write of `MERE_CTRL` (R259). -/
def Bolov.mereCtrlWrite (v : Word) (b : Bolov) : Bolov :=
  whenDo (bit v.toNat 30) Bolov.bktClear (whenDo (bit v.toNat 31) Bolov.mereClear
    ((b.fieldsWrite Reg.MERE_CTRL v).scrubEnable (b.reg Reg.MERE_CTRL) v))

/-- A write of `MERE_U_LEVEL`: last_valid of the selected unit (R259). -/
def Bolov.mereLevelWrite (v : Word) (b : Bolov) : Bolov :=
  if bit v.toNat 31 then
    let u := b.mereUnit
    b.modMere (fun m => { m with lastValid := setBit m.lastValid u false })
  else b

/-- A write of `POD_CTRL` (R265, R266, R270, R274, R275, R279). -/
def Bolov.podCtrlWrite (v : Word) (b : Bolov) : Bolov :=
  let en := b.regBit Reg.POD_CTRL 0
  let b1 := (b.fieldsWrite Reg.POD_CTRL v).setRegBit Reg.POD_CTRL 0 en
  let b2 := if bit v.toNat 0 then b1.podEnable else b1.podDisable
  whenDo (bit v.toNat 27) (Bolov.podYield 2) (whenDo (bit v.toNat 28) Bolov.podRejoin
    (whenDo (bit v.toNat 29) Bolov.fenceRelease (whenDo (bit v.toNat 30) Bolov.fenceAssert
      (whenDo (bit v.toNat 31) Bolov.podClear b2))))

/-- A write on the Pod page. -/
def Bolov.podWrite (addr : Nat) (r : RegRow) (v : Word) (b : Bolov) : Bolov :=
  if addr = Reg.POD_CTRL then b.podCtrlWrite v
  else if addr = Reg.POD_LEASE_ID then (if fld v 15 0 = 0 then b else b.plainWrite addr r v)
  else if addr = Reg.POD_WDOG then whenDo (bit v.toNat 31) Bolov.wdogKick (b.plainWrite addr r v)
  else b.plainWrite addr r v

/-- A write on the monitor page (R296). -/
def Bolov.monWrite (addr : Nat) (r : RegRow) (v : Word) (b : Bolov) : Bolov :=
  let off := addr % 0x1000
  if addr = Reg.MON_CTRL then b.monCtrlWrite v
  else if addr = Reg.MON_PWM then b.monPwmWrite v
  else if 0x100 ≤ off ∧ off < 0x180 ∧ off % 0x20 = 0x00 then b.convStartWrite (Fin.ofNat 4 ((off - 0x100) / 0x20)) v
  else if 0x200 ≤ off ∧ off % 0x10 < 0x08 then b.slotWrite ((off - 0x200) / 0x10) (off % 0x10 == 0x04) v
  else b.plainWrite addr r v

/-- A write on the Guard page (R307, R312). -/
def Bolov.grdWrite (addr : Nat) (r : RegRow) (v : Word) (flash : Bool) (b : Bolov) : Bolov :=
  if addr = Reg.GRD_CTRL then b.grdCtrlWrite v flash
  else if addr = Reg.GRD_PW_DATA then b.pwData v
  else if guardLocked addr then b.lockedWrite addr v flash
  else b.plainWrite addr r v

/-- A write of `CMT_CTRL` (R336, R346). -/
def Bolov.cmtCtrlWrite (v : Word) (b : Bolov) : Bolov :=
  whenDo (bit v.toNat 31) Bolov.commitGo (whenDo (bit v.toNat 30) Bolov.commitDiscard
    (whenDo (bit v.toNat 29) Bolov.commitClear (b.fieldsWrite Reg.CMT_CTRL v)))

/-- A write on a quad page (R121, R170, R251). -/
def Bolov.qdWrite (addr : Nat) (r : RegRow) (v : Word) (b : Bolov) : Bolov :=
  let off := addr % 0x1000
  let p := (addr / 0x1000 - 0x020) * 4 + (off - 0x100) / 0x40
  let o := (off - 0x100) % 0x40
  let b1 := b.plainWrite addr r v
  if o = 0x00 then
    let b2 := if !b.regBit addr 0 && bit v.toNat 0 then b1.modPort p (fun x => { x with beenData := false, txAt := b.up }) else b1
    whenDo (bit v.toNat 4) (Bolov.measureStart p) (whenDo (bit v.toNat 5) (Bolov.portClear p) b2)
  else if o = 0x14 then whenDo (bit v.toNat 31) (Bolov.eyeStart p) b1
  else if o = 0x38 then whenDo (bit v.toNat 31) (Bolov.queueFlush p) b
  else b1

/-- A write on the remote page (R330, R332, R333). -/
def Bolov.rmtWrite (addr : Nat) (r : RegRow) (v : Word) (b : Bolov) : Bolov :=
  if addr = Reg.RMT_CTRL then whenDo (bit v.toNat 31) (Bolov.clearCtr Reg.RMT_TIMEOUTS 0) (b.plainWrite addr r v)
  else if addr = Reg.RMT_REQ then b.rmtRequest v
  else if addr = Reg.RMT_FC_CMD then b.fcWrite v
  else b.plainWrite addr r v

/-- A write on a table-window page (R328). -/
def Bolov.twWrite (addr : Nat) (r : RegRow) (v : Word) (reads : List LineRead) (b : Bolov) : Bolov :=
  let w := windowOf (addr / 0x1000)
  let off := addr % 0x1000
  if off = 0x020 then (b.withFlaws reads).windowIndexWrite w v
  else if off = 0x028 then b.windowHold w 3 v
  else if off = 0x02C then b.windowHold w 2 v
  else if off = 0x030 then b.windowHold w 1 v
  else if off = 0x034 then b.windowWrite w v
  else b.plainWrite addr r v

/-- A write of a plain register of a function page. -/
def Bolov.pageWrite (addr : Nat) (r : RegRow) (v : Word) (flash : Bool) (b : Bolov) : Bolov :=
  match addr / 0x1000 with
  | 0x000 => if addr = Reg.GLB_CTRL then whenDo (bit v.toNat 31) Bolov.glbClear b else b.plainWrite addr r v
  | 0x002 => if Reg.PWR_DOM_ON0 ≤ addr ∧ addr ≤ Reg.PWR_DOM_ON2 then b.domWrite (Fin.ofNat 3 ((addr - Reg.PWR_DOM_ON0) / 4)) v
    else b.plainWrite addr r v
  | 0x003 => if addr = Reg.TM_CTRL then b.tmCtrlWrite v else if addr = Reg.TM_PPS_OUT then b.ppsOutWrite v
    else b.plainWrite addr r v
  | 0x004 => if addr = Reg.PTP_CTRL then b.ptpCtrlWrite v
    else if addr = Reg.PTP_MASTER_PORT then b.masterWrite (b.reg64 Reg.PTP_MASTER_ID) (fld v 15 0)
    else b.plainWrite addr r v
  | 0x005 => if addr = Reg.SORT_CTRL then b.sortCtrlWrite v
    else if addr = Reg.SORT_SLICE_LEN ∧ b.sort.running then b.sortCfgIgnored
    else b.plainWrite addr r v
  | 0x006 => if addr = Reg.OUT_CTRL then b.outCtrlWrite r v else b.plainWrite addr r v
  | 0x007 => if addr = Reg.TRG_CTRL then b.trgCtrlWrite v else b.plainWrite addr r v
  | 0x008 => if addr = Reg.RATE_CTRL then b.rateCtrlWrite v else b.plainWrite addr r v
  | 0x009 => b.isWrite (addr % 0x1000) r v
  | 0x00A => if addr = Reg.TARN_CTRL then b.tarnCtrlWrite v else if addr = Reg.TARN_MARK_CMD then b.markCommand v
    else b.plainWrite addr r v
  | 0x00B => if addr = Reg.MERE_CTRL then b.mereCtrlWrite v else if addr = Reg.MERE_U_LEVEL then b.mereLevelWrite v
    else b.plainWrite addr r v
  | 0x00C => b.podWrite addr r v
  | 0x00D => b.monWrite addr r v
  | 0x00E => b.grdWrite addr r v flash
  | 0x00F => if addr = Reg.SEC_CTRL then whenDo (bit v.toNat 31) (Bolov.modSec (fun x => { x with recoverNext := true })) b
    else b.plainWrite addr r v
  | 0x011 => if addr = Reg.CMT_CTRL then b.cmtCtrlWrite v else b.plainWrite addr r v
  | 0x012 => if addr % 0x100 = 0x04 then b.queueCmd (Fin.ofNat 8 ((addr % 0x1000 - 0x100) / 0x100)) v
    else b.plainWrite addr r v
  | _ => b.plainWrite addr r v

/-- A write of a plain register. -/
def Bolov.actWrite (addr : Nat) (r : RegRow) (v : Word) (flash : Bool) (reads : List LineRead) (b : Bolov) : Bolov :=
  let page := addr / 0x1000
  if addr % 0x1000 < 0x020 then b.headerWrite page (addr % 0x1000) r v
  else if 0x020 ≤ page ∧ page < 0x040 then b.qdWrite addr r v
  else if page = 0x040 then b.rmtWrite addr r v
  else if 0x041 ≤ page then b.twWrite addr r v reads
  else b.pageWrite addr r v flash

/-- A write of a register (R6, R8, R316, R318, R321): `flash` says whether the flash takes an entry of the Guard log,
`reads` are the line reads of a table fetch that are not clean. -/
def Bolov.writeReg (addr : Nat) (v : Word) (flash : Bool) (reads : List LineRead) (b : Bolov) : Bolov :=
  match bolovRow addr with
  | none => b.unmapped
  | some r =>
    if b.blockOff addr then b
    else match r.kind with
      | .plain => b.actWrite addr r v flash reads
      | .lo => if r.rw = 0 then b else b.loWrite addr v
      | .hi => if r.rw = 0 then b else b.hiWrite addr r v
      | .mid => b
      | .ctrLo => b
      | .ctrHi => b

/-! ### Meanings -/

/-- REGISTER_WRITE (R6). -/
def execRegisterWrite (addr : BitVec 24) (value : Word) (flash : Bool) (s : State) : Out :=
  onB s (Bolov.writeReg addr.toNat value flash [])

/-- WIDE_LO_READ (R318). -/
def execWideLoRead (path : Path) (addr : BitVec 24) (s : State) : Out :=
  onB s (fun b => (b.readReg path addr.toNat []).2)

/-- WIDE_HI_WRITE (R318). -/
def execWideHiWrite (addr : BitVec 24) (value : Word) (flash : Bool) (s : State) : Out :=
  onB s (Bolov.writeReg addr.toNat value flash [])

/-- EVT_CLR_WRITE (R322). -/
def execEvtClrWrite (page : BitVec 12) (value : Word) (s : State) : Out :=
  onB s (Bolov.writeReg (evtClr page.toNat) value true [])

/-- EVT_EN_WRITE (R322). -/
def execEvtEnWrite (page : BitVec 12) (value : Word) (s : State) : Out :=
  onB s (Bolov.writeReg (evtEn page.toNat) value true [])

/-- PQ_POP (R326). -/
def execPqPop (queue : Fin 8) (s : State) : Out := onB s (Bolov.queuePop queue)

/-- PQ_PUSH (R326). -/
def execPqPush (queue : Fin 8) (s : State) : Out := onB s (Bolov.queuePush queue)

/-- PQ_CLEAR (R326). -/
def execPqClear (queue : Fin 8) (s : State) : Out := onB s (Bolov.queueClear queue)

/-- GLB_COUNT_CLEAR (R324). -/
def execGlbCountClear (s : State) : Out := onB s Bolov.glbClear

end Sys2Proof.Machine
end

