-- ==== Sys2Proof/Machine/Flags.lean ====
section
/-!
DEFINITION. The flags the control host sees beside the registers: owed IBIs in priority order, the answer of GETSTATUS, and
ALERT_N (17 R315, R322, R323).
-/

namespace Sys2Proof.Machine

/-- A source of IBIs (R323). -/
inductive IbiSource where
  | page (p : Nat)
  | bins
deriving DecidableEq, Repr

/-- The pages that can owe, in priority order: Guard first, then rising MDB, quads by rising number. -/
def ibiOrder : List Nat :=
  0x00E :: ((List.range 18).filter (fun p => p != 0x00E)) ++ [0x040] ++ (List.range 32).map (fun q => 0x020 + q)

/-- The next owed source. -/
def Bolov.nextIbi (b : Bolov) : Option IbiSource :=
  match ibiOrder.find? (fun p => b.owed.contains p) with
  | some p => some (.page p)
  | none => b.binIbi.map (fun _ => .bins)

/-- IBI sources owed. -/
def Bolov.owedCount (b : Bolov) : Nat := b.owed.length + b2n b.binIbi.isSome

/-- The mandatory data byte of a page. -/
def mdbOf (p : Nat) : Nat := if p = 0x040 then 0x1D else if 0x020 ≤ p ∧ p < 0x040 then 0x1E else p

/-- The bytes of a number as bytes. -/
def byteList (n v : Nat) : List Byte := (bytesOf n v).map (BitVec.ofNat 8)

/-- The IBI of a page: its mandatory byte and payload (R323). -/
def Bolov.pageIbi (b : Bolov) (p : Nat) : List Byte × List Byte :=
  let body := byteList 4 (b.pendingSet p).toNat
  (byteList 1 (mdbOf p), if 0x020 ≤ p ∧ p < 0x040 then byteList 1 (p - 0x020) ++ body else body)

/-- The IBI of bin overflows: first bin, further overflows, saturating (R323). -/
def binIbiOf (x : Nat × Nat) : List Byte × List Byte := (byteList 1 0x1F, byteList 2 x.1 ++ byteList 2 (cap 0xFFFF x.2))

/-- The status word of GETSTATUS (R315). -/
def Bolov.i3cStatus (b : Bolov) : Nat := pack [(10, 0), (1, b2n b.i3c.protoErr), (1, 0), (4, cap 15 b.owedCount)]

/-- The pages with events (R320, R323). -/
def eventPages : List Nat := List.range 19 ++ (List.range 32).map (fun q => 0x020 + q) ++ [0x040]

/-- ALERT_N[a] is asserted: a page that maps to it has a pending event (R322). -/
def Bolov.alert (b : Bolov) (a : Fin 4) : Bool :=
  eventPages.any (fun p => b.regBit (evtPins p) a && b.pendingSet p != 0)

end Sys2Proof.Machine
end

