-- ==== Sys2Proof/Machine/Control.lean ====
section
/-!
DEFINITION. The I3C target of the Bolov: common command codes, register transfers in SDR, I2C and HDR-DDR, and in-band
interrupts (17 R314 to R317, R323, R334).
-/

namespace Sys2Proof.Machine

/-- Change the I3C target. -/
def Bolov.modI3c (f : I3cState → I3cState) (b : Bolov) : Bolov := { b with i3c := f b.i3c }

/-- A command outside HDR-DDR: an HDR-DDR exit has come before it (R317). -/
def Bolov.sdr (b : Bolov) : Bolov := b.modI3c (fun x => { x with hdr := false })

/-- A direct CCC reaches the Bolov by its dynamic address. -/
def Bolov.addressed (b : Bolov) : Bool := b.i3c.dyn.isSome

/-- The static address (R314). -/
def Bolov.staticAddr (b : Bolov) : BitVec 7 := 0x50#7 + b.i3c.addrSel.setWidth 7

/-- The provisional ID (R314). -/
def Bolov.pid (b : Bolov) : Nat := pack [(15, 0x2E6B), (1, 1), (32, crc32c (bytesOf 8 b.sec.unit.toNat))]

/-- BCR and DCR (R314). -/
def i3cBcr : Nat := 0x06
def i3cDcr : Nat := 0x00

/-- Answer bytes on the bus. -/
def Bolov.replyWith (l : List Byte) (b : Bolov) : Bolov := b.modI3c (fun x => { x with reply := l })

/-- The answer to a direct GET CCC. -/
def Bolov.getCcc (l : List Byte) (b : Bolov) : Bolov := if b.addressed then b.sdr.replyWith l else b

/-- A CCC reaches the Bolov: in its broadcast form always, in its direct form at its dynamic address. -/
def Bolov.setCcc (direct : Bool) (f : I3cState → I3cState) (b : Bolov) : Bolov :=
  if !direct || b.addressed then b.sdr.modI3c f else b

/-- The limits of SETMWL and SETMRL (R315). -/
def i3cLength (v : Nat) : Nat := max 16 (min 4096 v)

/-! ### Addresses (R315) -/

/-- ENTDAA: a target without a dynamic address that wins the arbitration takes the address. -/
def Bolov.entdaa (addr : BitVec 7) (won : Bool) (b : Bolov) : Bolov :=
  if b.i3c.dyn.isSome then b.sdr
  else
    let b1 := b.sdr.replyWith (byteList 6 b.pid ++ byteList 1 i3cBcr ++ byteList 1 i3cDcr)
    if won then b1.modI3c (fun x => { x with dyn := some addr }) else b1

/-- SETDASA to a static address. -/
def Bolov.setdasa (stat addr : BitVec 7) (b : Bolov) : Bolov :=
  if b.i3c.dyn.isNone && stat == b.staticAddr then b.sdr.modI3c (fun x => { x with dyn := some addr }) else b.sdr

/-! ### Register transfers (R316) -/

/-- A protocol error is counted and reported (R315, R316, R324). -/
def Bolov.protoError (b : Bolov) : Bolov := ((b.modI3c (fun x => { x with protoErr := true })).count Reg.GLB_PROTO_ERR 1).raise 0x000 0

/-- The register after one (R316). -/
def nextPointer (a : Nat) : Nat := (a + 4) % 2 ^ 24

/-- The registers of a write, four bytes each; the answer is what is left of a register. -/
def Bolov.writeBytes (flash : Bool) (reads : List LineRead) : List Byte → Bolov → Bolov × List Byte
  | d3 :: d2 :: d1 :: d0 :: l, b =>
    let b1 := b.writeReg b.i3c.pointer (d3 ++ d2 ++ d1 ++ d0) flash reads
    Bolov.writeBytes flash reads l (b1.modI3c (fun x => { x with pointer := nextPointer b.i3c.pointer }))
  | l, b => (b, l)

/-- A write transfer: address bytes, then registers; with the address alone it sets the pointer. -/
def Bolov.writeTransfer (bytes : List Byte) (flash : Bool) (reads : List LineRead) (b : Bolov) : Bolov :=
  match bytes with
  | a2 :: a1 :: a0 :: _ =>
    let a : BitVec 24 := a2 ++ a1 ++ a0
    if a.toNat % 4 ≠ 0 then b.protoError
    else
      let taken := (bytes.take b.i3c.mwl).drop 3
      let r := (b.modI3c (fun x => { x with pointer := a.toNat })).writeBytes flash reads taken
      let b1 := if r.2.isEmpty then r.1 else r.1.protoError
      if b.i3c.mwl < bytes.length then b1.protoError else b1
  | _ => b

/-- The registers of a read of `n` bytes: `k` whole registers, each with its effects. -/
def Bolov.readWhole (reads : List LineRead) : Nat → Bolov → Bolov × List Byte
  | 0, b => (b, [])
  | k + 1, b =>
    let r := b.readReg .host b.i3c.pointer reads
    let b1 := r.2.modI3c (fun x => { x with pointer := nextPointer b.i3c.pointer })
    let rest := b1.readWhole reads k
    (rest.1, byteList 4 r.1.toNat ++ rest.2)

/-- A read transfer of `n` bytes: the target ends it after MRL bytes; a register that is not read to its end has none of its
effects and keeps the pointer. -/
def Bolov.readTransfer (n : Nat) (reads : List LineRead) (b : Bolov) : Bolov :=
  let m := min n b.i3c.mrl
  let r := b.readWhole reads (m / 4)
  let part := (byteList 4 (r.1.readReg .host r.1.i3c.pointer reads).1.toNat).take (m % 4)
  r.1.replyWith (r.2 ++ part)

/-- The bytes of HDR-DDR data words (R317): two address words, of which the first carries A[23:16], then the registers. -/
def hdrBytes (words : List (BitVec 16)) : List Byte :=
  (words.flatMap (fun w => [BitVec.extractLsb' 8 8 w, BitVec.extractLsb' 0 8 w])).drop 1

/-! ### In-band interrupts (R323) -/

/-- An IBI is delivered: the payload is cut to the size that SETMRL has set. -/
def Bolov.deliverIbi (x : List Byte × List Byte) (b : Bolov) : Bolov :=
  b.modI3c (fun i => { i with ibi := x.1 ++ x.2.take i.ibiPayload })

/-- The Bolov requests the next owed IBI; a page whose pending set has emptied withdraws it, and a NACK leaves it owed. -/
def Bolov.ibiRequest (nack : Bool) (b : Bolov) : Bolov :=
  if b.i3c.enInt && b.addressed then
    match b.nextIbi with
    | some (.page p) =>
      let gone := { b with owed := b.owed.filter (fun q => q != p) }
      if b.pendingSet p = 0 then gone
      else if nack then b
      else gone.deliverIbi (b.pageIbi p)
    | some .bins =>
      if nack then b
      else match b.binIbi with
        | some x => ({ b with binIbi := none }).deliverIbi (binIbiOf x)
        | none => b
    | none => b
  else b

/-! ### Meanings -/

/-- ENTDAA (R315). -/
def execEntdaa (addr : BitVec 7) (won : Bool) (s : State) : Out := onB s (Bolov.entdaa addr won)

/-- SETDASA (R315). -/
def execSetdasa (stat addr : BitVec 7) (s : State) : Out := onB s (Bolov.setdasa stat addr)

/-- SETNEWDA (R315). -/
def execSetnewda (addr : BitVec 7) (s : State) : Out := onB s (Bolov.setCcc true (fun x => { x with dyn := some addr }))

/-- RSTDAA (R315): broadcast form only. -/
def execRstdaa (s : State) : Out := onB s (Bolov.setCcc false (fun x => { x with dyn := none }))

/-- ENEC (R315): only ENINT acts. -/
def execEnec (direct : Bool) (events : Byte) (s : State) : Out :=
  onB s (Bolov.setCcc direct (fun x => { x with enInt := x.enInt || bit events.toNat 0 }))

/-- DISEC (R315). -/
def execDisec (direct : Bool) (events : Byte) (s : State) : Out :=
  onB s (Bolov.setCcc direct (fun x => { x with enInt := x.enInt && !bit events.toNat 0 }))

/-- GETPID (R314). -/
def execGetpid (s : State) : Out := onB s (fun b => b.getCcc (byteList 6 b.pid))

/-- GETBCR (R314). -/
def execGetbcr (s : State) : Out := onB s (Bolov.getCcc (byteList 1 i3cBcr))

/-- GETDCR (R314). -/
def execGetdcr (s : State) : Out := onB s (Bolov.getCcc (byteList 1 i3cDcr))

/-- GETSTATUS (R315). -/
def execGetstatus (s : State) : Out :=
  onB s (fun b => if b.addressed then (b.getCcc (byteList 2 b.i3cStatus)).modI3c (fun x => { x with protoErr := false }) else b)

/-- GETMXDS (R315). -/
def execGetmxds (s : State) : Out := onB s (Bolov.getCcc (byteList 2 0))

/-- SETMWL (R315). -/
def execSetmwl (direct : Bool) (length : BitVec 16) (s : State) : Out :=
  onB s (Bolov.setCcc direct (fun x => { x with mwl := i3cLength length.toNat }))

/-- SETMRL (R315): the third byte, where sent, is the largest IBI payload. -/
def execSetmrl (direct : Bool) (length : BitVec 16) (payload : Option Byte) (s : State) : Out :=
  onB s (Bolov.setCcc direct (fun x =>
    { x with mrl := i3cLength length.toNat
             ibiPayload := match payload with | some p => p.toNat | none => x.ibiPayload }))

/-- GETMWL (R315). -/
def execGetmwl (s : State) : Out := onB s (fun b => b.getCcc (byteList 2 b.i3c.mwl))

/-- GETMRL (R315). -/
def execGetmrl (s : State) : Out := onB s (fun b => b.getCcc (byteList 2 b.i3c.mrl ++ byteList 1 b.i3c.ibiPayload))

/-- RSTACT_NONE (R315). -/
def execRstactNone (direct : Bool) (s : State) : Out := onB s (Bolov.setCcc direct id)

/-- RSTACT_TARGET_RESET (R315): the dynamic address and the owed IBIs are kept. -/
def execRstactTargetReset (direct : Bool) (s : State) : Out :=
  onB s (Bolov.setCcc direct (fun x => { addrSel := x.addrSel, dyn := x.dyn }))

/-- ENTHDR0 (R315, R317). -/
def execEnthdr0 (s : State) : Out := onB s (fun b => b.modI3c (fun x => { x with hdr := x.dyn.isSome }))

/-- CCC_UNSUPPORTED (R315): NACKed where direct, ignored where broadcast. -/
def execCccUnsupported (direct : Bool) (s : State) : Out :=
  onB s (fun b => if direct && b.addressed then b.sdr.replyWith [] else b.sdr)

/-- I3C_REGISTER_WRITE (R316): the bytes after the target address. -/
def execI3cRegisterWrite (bytes : List Byte) (flash : Bool) (reads : List LineRead) (s : State) : Out :=
  onB s (fun b => b.sdr.writeTransfer bytes flash reads)

/-- I3C_SET_POINTER (R316). -/
def execI3cSetPointer (addr : BitVec 24) (s : State) : Out :=
  onB s (fun b => b.sdr.writeTransfer (byteList 3 addr.toNat) true [])

/-- I3C_REGISTER_READ (R316): the controller takes `n` bytes. -/
def execI3cRegisterRead (n : Nat) (reads : List LineRead) (s : State) : Out := onB s (fun b => b.sdr.readTransfer n reads)

/-- HDR_DDR_WRITE (R317). -/
def execHdrDdrWrite (words : List (BitVec 16)) (flash : Bool) (reads : List LineRead) (s : State) : Out :=
  onB s (fun b => if b.i3c.hdr then b.writeTransfer (hdrBytes words) flash reads else b)

/-- HDR_DDR_READ (R317): the controller takes `n` words. -/
def execHdrDdrRead (n : Nat) (reads : List LineRead) (s : State) : Out :=
  onB s (fun b => if b.i3c.hdr then b.readTransfer (2 * n) reads else b)

/-- IBI_REQUEST (R323): the controller may NACK it. -/
def execIbiRequest (nack : Bool) (s : State) : Out := onB s (Bolov.ibiRequest nack)

end Sys2Proof.Machine
end

