-- ==== Sys2Proof/Machine/JilekCommands.lean ====
section
/-!
DEFINITION. The meanings of the commands that act on the Jilek (02 to 06, 18, 20): each acts at the tick it names, once the
commands due before then have acted.
-/

namespace Sys2Proof.Machine

/-! ### Cells (02, 03) -/

/-- DISCRIMINATOR_CROSSING (R49). -/
def execDiscriminatorCrossing (cell : Fin 2048) (t : Tick) (fs ta : Nat) (s : State) : Out :=
  atJ t s (Jilek.crossing cell fs ta)

/-- OSC_B_START (R49). -/
def execOscBStart (cell : Fin 2048) (t : Tick) (tb : Nat) (extra : Bool) (s : State) : Out :=
  atJ t s (Jilek.oscB cell tb extra)

/-- NV_LATCH (R51). -/
def execNvLatch (cell : Fin 2048) (t : Tick) (fs : Nat) (next : Bool) (s : State) : Out :=
  atJ t s (Jilek.latchNV cell next fs)

/-- VERNIER_OVERRUN (R52). -/
def execVernierOverrun (cell : Fin 2048) (t : Tick) (fs : Nat) (s : State) : Out := atJ t s (Jilek.overrun cell fs)

/-- TRAILING_EDGE (R55). -/
def execTrailingEdge (cell : Fin 2048) (t : Tick) (fs : Nat) (skip : Bool) (s : State) : Out :=
  atJ t s (Jilek.trailing cell fs skip)

/-- TOT_SATURATION (R36). -/
def execTotSaturation (cell : Fin 2048) (t : Tick) (fs : Nat) (s : State) : Out := atJ t s (Jilek.totSat cell fs)

/-- DEAD_TIME_END (R57). -/
def execDeadTimeEnd (cell : Fin 2048) (t : Tick) (fs : Nat) (s : State) : Out := atJ t s (Jilek.deadTimeEnd cell fs)

/-- STUCK_MASK (R37). -/
def execStuckMask (cell : Fin 2048) (t : Tick) (s : State) : Out := atJ t s (Jilek.stuckMask cell)

/-- STUCK_RELEASE (R37). -/
def execStuckRelease (cell : Fin 2048) (t : Tick) (s : State) : Out := atJ t s (Jilek.stuckRelease cell)

/-- FE_OFF_SETTLE_END (R31). -/
def execFeOffSettleEnd (cell : Fin 2048) (t : Tick) (s : State) : Out := atJ t s (Jilek.settleEnd cell)

/-- TEST_PULSE_INJECTION (R33). -/
def execTestPulseInjection (t : Tick) (s : State) : Out := atJ t s Jilek.inject

/-- FE_PILEUP_CLEAR (R44). -/
def execFePileupClear (s : State) : Out := onJ s Jilek.pileupClear

/-- FE_STUCK_CLEAR (R37). -/
def execFeStuckClear (s : State) : Out := onJ s Jilek.stuckClear

/-- VN_OVERRUN_CLEAR (R64). -/
def execVnOverrunClear (s : State) : Out := onJ s Jilek.overrunClear

/-! ### Tile path (05) -/

/-- RECORD_ENTRY (R89). -/
def execRecordEntry (cell : Fin 2048) (t : Tick) (s : State) : Out := atJ t s (Jilek.recordEntry cell)

/-- REFUSAL_SPAN_CLOSE (R92). -/
def execRefusalSpanClose (tile : Fin 32) (t : Tick) (s : State) : Out := atJ t s (Jilek.spanClose tile)

/-- GOVERNOR_RECOMPUTE (R88). -/
def execGovernorRecompute (t : Tick) (tileCounts mergeCounts : List Nat) (s : State) : Out :=
  atJ t s (Jilek.governor tileCounts mergeCounts)

/-- MERGE_SERVICE (R86). -/
def execMergeService (merge : Fin 2) (t : Tick) (flip0 flip1 : BitVec 65) (half : Bool) (s : State) : Out :=
  atJ t s (Jilek.mergeService merge flip0 flip1 half)

/-- UPLINK_WORD_SLOT (R97): the slot starts `fs` after the tick edge. -/
def execUplinkWordSlot (framer : Fin 2) (t : Tick) (fs : Nat) (s : State) : Out := atJ t s (Jilek.wordSlot framer fs)

/-- HORIZON_DUE (R98). -/
def execHorizonDue (t : Tick) (s : State) : Out := atJ t s Jilek.horizonDue

/-- FRAME_HEADER_DUE (R99). -/
def execFrameHeaderDue (t : Tick) (s : State) : Out := atJ t s Jilek.headerDue

/-- TP_FLUSH_WRITE (R95). -/
def execTpFlushWrite (tiles : BitVec 32) (s : State) : Out := onJ s (Jilek.flushTiles tiles)

/-- TP_COUNT_CLEAR (R102). -/
def execTpCountClear (s : State) : Out := onJ s Jilek.tpClear

/-! ### Calibration (04) -/

/-- TILE_TEMP_SAMPLE (R67). -/
def execTileTempSample (tile : Fin 32) (t : Tick) (reading : BitVec 12) (s : State) : Out :=
  atJ t s (Jilek.tempSample tile reading)

/-- CAL_INTERVAL_DUE (R66). -/
def execCalIntervalDue (tile : Fin 32) (t : Tick) (s : State) : Out := atJ t s (Jilek.intervalDue tile)

/-- CAL_HOLD_EXPIRY (R68). -/
def execCalHoldExpiry (t : Tick) (s : State) : Out := atJ t s Jilek.holdExpiry

/-- CAL_RUN_START (R70). -/
def execCalRunStart (tile : Fin 32) (t : Tick) (s : State) : Out := atJ t s (Jilek.runStart tile)

/-- CAL_TAKE_RINGS (R71). -/
def execCalTakeRings (tile : Fin 32) (t : Tick) (s : State) : Out := atJ t s (Jilek.takeRings tile)

/-- CAL_ELEMENT_SELECTION (R72). -/
def execCalElementSelection (tile : Fin 32) (t : Tick) (s : State) : Out := atJ t s (Jilek.elementSelection tile)

/-- CAL_REFERENCE_SAMPLE (R71). -/
def execCalReferenceSample (tile : Fin 32) (t : Tick) (reading : BitVec 12) (s : State) : Out :=
  atJ t s (Jilek.referenceSample tile reading)

/-- CAL_RUN_COMPLETE (R74). -/
def execCalRunComplete (tile : Fin 32) (t : Tick) (counts : List (Nat × Nat)) (s : State) : Out :=
  atJ t s (Jilek.runComplete tile counts)

/-- CAL_RUN_RESUME (R75). -/
def execCalRunResume (tile : Fin 32) (t : Tick) (s : State) : Out := atJ t s (Jilek.runResume tile)

/-! ### Link, fast commands, registers, commit, power (06, 18, 19, 20) -/

/-- FE_CELL_DATA_ACCESS (R24, R44, R81): the owner's read, or a write that stages, then the index advances. -/
def execFeCellDataAccess (downlink : Fin 2) (calTable : Bool) (write : Option Word) (t : Tick) (s : State) : Out :=
  atJ t s (Jilek.fromOwner downlink (fun j =>
    (j.access downlink write (if calTable then Reg.CAL_CELL_DATA else Reg.FE_CELL_DATA)).1))

/-- JILEK_COUNTER_LO_READ (R24, R110): the owner's read of the _LO of a counter. -/
def execJilekCounterLoRead (downlink : Fin 2) (addr : BitVec 16) (s : State) : Out :=
  onJ s (Jilek.fromOwner downlink (fun j => (j.access downlink none addr.toNat).1))

/-- CAL_START_RUN (R68). -/
def execCalStartRun (downlink : Fin 2) (t : Tick) (tiles : BitVec 32) (s : State) : Out :=
  atJ t s (Jilek.fromOwner downlink (Jilek.calRun tiles))

/-- CAL_START_FORCE (R68). -/
def execCalStartForce (downlink : Fin 2) (t : Tick) (tiles : BitVec 32) (s : State) : Out :=
  atJ t s (Jilek.fromOwner downlink (Jilek.calForce tiles))

/-- CAL_START_CANCEL (R68, R80). -/
def execCalStartCancel (downlink : Fin 2) (t : Tick) (tiles : BitVec 32) (s : State) : Out :=
  atJ t s (Jilek.fromOwner downlink (Jilek.calCancel tiles))

/-- CAL_START_HOLD (R68). -/
def execCalStartHold (downlink : Fin 2) (t : Tick) (s : State) : Out :=
  atJ t s (Jilek.fromOwner downlink Jilek.calHold)

/-- CAL_START_RELEASE (R68). -/
def execCalStartRelease (downlink : Fin 2) (t : Tick) (s : State) : Out :=
  atJ t s (Jilek.fromOwner downlink Jilek.calRelease)

/-- FLUSH (R95). -/
def execFlush (downlink : Fin 2) (t : Tick) (tiles : BitVec 32) (s : State) : Out :=
  atJ t s (Jilek.fromOwner downlink (Jilek.flushTiles tiles))

/-- RESET_TILE (R96). -/
def execResetTile (downlink : Fin 2) (t : Tick) (tiles : BitVec 32) (s : State) : Out :=
  atJ t s (Jilek.fromOwner downlink (Jilek.resetTiles tiles))

/-- TP_MODE_WRITE (R85): of `TP_CTRL` or of `TP_LINK_MAP`. -/
def execTpModeWrite (linkMap : Bool) (value : Word) (t : Tick) (s : State) : Out :=
  atJ t s (fun j => (j.writeReg (if linkMap then Reg.TP_LINK_MAP else Reg.TP_CTRL) value).1)

/-- DOWNLINK_FRAME_RECEIVED (R108): of a frame as it stands on the line. -/
def execDownlinkFrameReceived (downlink : Fin 2) (t : Tick) (frame : BitVec 128) (s : State) : Out :=
  atJ t s (Jilek.frameReceived downlink frame)

/-- NOP (R109): no effect. -/
def execNop (t : Tick) (s : State) : Out := atJ t s (fun j => j)

/-- TICK_SYNC (R115). -/
def execTickSync (downlink : Fin 2) (t t0 : Tick) (s : State) : Out :=
  atJ t s (Jilek.fromOwner downlink (Jilek.tickSync downlink t0))

/-- TEST_PULSE (R109). -/
def execTestPulse (downlink : Fin 2) (t named : Tick) (s : State) : Out :=
  atJ t s (Jilek.fromOwner downlink (Jilek.testPulse named))

/-- LEASE_CLAIM (R118). -/
def execLeaseClaim (downlink : Fin 2) (t : Tick) (id : BitVec 16) (s : State) : Out :=
  atJ t s (Jilek.leaseClaim downlink id)

/-- LEASE_RENEW (R118). -/
def execLeaseRenew (downlink : Fin 2) (t : Tick) (s : State) : Out := atJ t s (Jilek.leaseRenew downlink)

/-- LEASE_RELEASE (R118). -/
def execLeaseRelease (downlink : Fin 2) (t : Tick) (s : State) : Out := atJ t s (Jilek.leaseRelease downlink)

/-- LEASE_EXPIRY (R118). -/
def execLeaseExpiry (t : Tick) (s : State) : Out := atJ t s Jilek.expireLease

/-- ECHO (R116). -/
def execEcho (downlink : Fin 2) (t : Tick) (tag : BitVec 8) (s : State) : Out := atJ t s (Jilek.echo downlink tag)

/-- CONFIG_WRITE (R110). -/
def execConfigWrite (downlink : Fin 2) (t : Tick) (tag : BitVec 8) (addr : BitVec 16) (data : Word) (s : State) : Out :=
  atJ t s (Jilek.config downlink tag (some data) addr)

/-- CONFIG_READ (R110). -/
def execConfigRead (downlink : Fin 2) (t : Tick) (tag : BitVec 8) (addr : BitVec 16) (s : State) : Out :=
  atJ t s (Jilek.config downlink tag none addr)

/-- LK_PHASE_WRITE (R115). -/
def execLkPhaseWrite (downlink : Fin 2) (value : Word) (t : Tick) (s : State) : Out :=
  atJ t s (fun j => (j.writePhase downlink value).1)

/-- LK_COUNT_CLEAR (R120). -/
def execLkCountClear (s : State) : Out := onJ s Jilek.lkClear

/-- COMMIT (R338). -/
def execCommit (downlink : Fin 2) (t : Tick) (epoch : BitVec 4) (target : Tick) (s : State) : Out :=
  atJ t s (Jilek.fromOwner downlink (Jilek.commitCmd epoch target))

/-- JILEK_SWITCH (R338). -/
def execJilekSwitch (t : Tick) (s : State) : Out := atJ t s Jilek.switch

/-- JILEK_POWER_ON_RESET (R370): power-on, brown-out or pin; it does not wait for the Jilek to be out of reset. -/
def execJilekPowerOnReset (cause : JCause) (s : State) : Out := .next { s with j := s.j.resetAll cause true }

/-- JILEK_LINK_LOSS_RESET (R370). -/
def execJilekLinkLossReset (t : Tick) (s : State) : Out := atJ t s Jilek.linkLoss

/-- JPW_TILE_ON_WRITE (R369). -/
def execJpwTileOnWrite (tiles : Word) (t : Tick) (s : State) : Out := atJ t s (Jilek.writeTileOn tiles)

/-- JPW_LINK_ON_WRITE (R369). -/
def execJpwLinkOnWrite (value : Word) (t : Tick) (s : State) : Out := atJ t s (fun j => (j.writeLinkOn value).1)

/-- JILEK_RESET_RELEASE (R367): `n` tick edges after the reset. -/
def execJilekResetRelease (t : Tick) (s : State) : Out :=
  let s' := reachJ t s
  .next { s' with j := s'.j.release }

end Sys2Proof.Machine
end

