-- ==== Sys2Proof/Machine/Dispatch.lean ====
section
/-!
DEFINITION. The dispatch of the commands: one arm per row of the table, each a direct call of its meaning.
-/

namespace Sys2Proof.Machine

/-- What a command does, the queue apart. -/
def exec (i : Instr) (s : State) : Host.Outcome State Fault Refusal :=
  match i with
  | .discriminatorCrossing cell t fs ta => Sys2Proof.Machine.execDiscriminatorCrossing cell t fs ta s
  | .oscBStart cell t tb extra => Sys2Proof.Machine.execOscBStart cell t tb extra s
  | .nvLatch cell t fs next => Sys2Proof.Machine.execNvLatch cell t fs next s
  | .vernierOverrun cell t fs => Sys2Proof.Machine.execVernierOverrun cell t fs s
  | .trailingEdge cell t fs skip => Sys2Proof.Machine.execTrailingEdge cell t fs skip s
  | .totSaturation cell t fs => Sys2Proof.Machine.execTotSaturation cell t fs s
  | .deadTimeEnd cell t fs => Sys2Proof.Machine.execDeadTimeEnd cell t fs s
  | .stuckMask cell t => Sys2Proof.Machine.execStuckMask cell t s
  | .stuckRelease cell t => Sys2Proof.Machine.execStuckRelease cell t s
  | .feOffSettleEnd cell t => Sys2Proof.Machine.execFeOffSettleEnd cell t s
  | .testPulseInjection t => Sys2Proof.Machine.execTestPulseInjection t s
  | .fePileupClear => Sys2Proof.Machine.execFePileupClear s
  | .feStuckClear => Sys2Proof.Machine.execFeStuckClear s
  | .feCellDataAccess downlink calTable write t => Sys2Proof.Machine.execFeCellDataAccess downlink calTable write t s
  | .vnOverrunClear => Sys2Proof.Machine.execVnOverrunClear s
  | .jilekCounterLoRead downlink addr => Sys2Proof.Machine.execJilekCounterLoRead downlink addr s
  | .tileTempSample tile t reading => Sys2Proof.Machine.execTileTempSample tile t reading s
  | .calIntervalDue tile t => Sys2Proof.Machine.execCalIntervalDue tile t s
  | .calStartRun downlink t tiles => Sys2Proof.Machine.execCalStartRun downlink t tiles s
  | .calStartForce downlink t tiles => Sys2Proof.Machine.execCalStartForce downlink t tiles s
  | .calStartCancel downlink t tiles => Sys2Proof.Machine.execCalStartCancel downlink t tiles s
  | .calStartHold downlink t => Sys2Proof.Machine.execCalStartHold downlink t s
  | .calStartRelease downlink t => Sys2Proof.Machine.execCalStartRelease downlink t s
  | .calHoldExpiry t => Sys2Proof.Machine.execCalHoldExpiry t s
  | .calRunStart tile t => Sys2Proof.Machine.execCalRunStart tile t s
  | .calTakeRings tile t => Sys2Proof.Machine.execCalTakeRings tile t s
  | .calElementSelection tile t => Sys2Proof.Machine.execCalElementSelection tile t s
  | .calReferenceSample tile t reading => Sys2Proof.Machine.execCalReferenceSample tile t reading s
  | .calRunComplete tile t counts => Sys2Proof.Machine.execCalRunComplete tile t counts s
  | .calRunResume tile t => Sys2Proof.Machine.execCalRunResume tile t s
  | .calRunStartWordReceived port payload t => Sys2Proof.Machine.execCalRunStartWordReceived port payload t s
  | .calRunReportReceived port payload t => Sys2Proof.Machine.execCalRunReportReceived port payload t s
  | .calCellResultReceived port payload t => Sys2Proof.Machine.execCalCellResultReceived port payload t s
  | .calStagedMerge port tile reads t => Sys2Proof.Machine.execCalStagedMerge port tile reads t s
  | .recordEntry cell t => Sys2Proof.Machine.execRecordEntry cell t s
  | .refusalSpanClose tile t => Sys2Proof.Machine.execRefusalSpanClose tile t s
  | .governorRecompute t tileCounts mergeCounts => Sys2Proof.Machine.execGovernorRecompute t tileCounts mergeCounts s
  | .mergeService merge t flip0 flip1 half => Sys2Proof.Machine.execMergeService merge t flip0 flip1 half s
  | .uplinkWordSlot framer t fs => Sys2Proof.Machine.execUplinkWordSlot framer t fs s
  | .horizonDue t => Sys2Proof.Machine.execHorizonDue t s
  | .frameHeaderDue t => Sys2Proof.Machine.execFrameHeaderDue t s
  | .flush downlink t tiles => Sys2Proof.Machine.execFlush downlink t tiles s
  | .tpFlushWrite tiles => Sys2Proof.Machine.execTpFlushWrite tiles s
  | .resetTile downlink t tiles => Sys2Proof.Machine.execResetTile downlink t tiles s
  | .tpModeWrite linkMap value t => Sys2Proof.Machine.execTpModeWrite linkMap value t s
  | .tpCountClear => Sys2Proof.Machine.execTpCountClear s
  | .downlinkFrameSend port t => Sys2Proof.Machine.execDownlinkFrameSend port t s
  | .downlinkFrameReceived downlink t frame => Sys2Proof.Machine.execDownlinkFrameReceived downlink t frame s
  | .nop t => Sys2Proof.Machine.execNop t s
  | .tickSync downlink t t0 => Sys2Proof.Machine.execTickSync downlink t t0 s
  | .testPulse downlink t named => Sys2Proof.Machine.execTestPulse downlink t named s
  | .leaseClaim downlink t id => Sys2Proof.Machine.execLeaseClaim downlink t id s
  | .leaseRenew downlink t => Sys2Proof.Machine.execLeaseRenew downlink t s
  | .leaseRelease downlink t => Sys2Proof.Machine.execLeaseRelease downlink t s
  | .leaseExpiry t => Sys2Proof.Machine.execLeaseExpiry t s
  | .echo downlink t tag => Sys2Proof.Machine.execEcho downlink t tag s
  | .configWrite downlink t tag addr data => Sys2Proof.Machine.execConfigWrite downlink t tag addr data s
  | .configRead downlink t tag addr => Sys2Proof.Machine.execConfigRead downlink t tag addr s
  | .lkPhaseWrite downlink value t => Sys2Proof.Machine.execLkPhaseWrite downlink value t s
  | .lkCountClear => Sys2Proof.Machine.execLkCountClear s
  | .eyeScanStart jilek index => Sys2Proof.Machine.execEyeScanStart jilek index s
  | .eyeScanDone jilek index errors t => Sys2Proof.Machine.execEyeScanDone jilek index errors t s
  | .uplinkBlockReceived port header word t => Sys2Proof.Machine.execUplinkBlockReceived port header word t s
  | .frameHeaderReceived port base t => Sys2Proof.Machine.execFrameHeaderReceived port base t s
  | .horizonReceived port h t => Sys2Proof.Machine.execHorizonReceived port h t s
  | .echoReplyReceived port payload f t => Sys2Proof.Machine.execEchoReplyReceived port payload f t s
  | .registerResponseReceived port payload t => Sys2Proof.Machine.execRegisterResponseReceived port payload t s
  | .statusWordReceived port code a arg t => Sys2Proof.Machine.execStatusWordReceived port code a arg t s
  | .deadTimeReportReceived port payload t => Sys2Proof.Machine.execDeadTimeReportReceived port payload t s
  | .delayMeasureStart port => Sys2Proof.Machine.execDelayMeasureStart port s
  | .delayMeasureEnd port t => Sys2Proof.Machine.execDelayMeasureEnd port t s
  | .qdCountClear port => Sys2Proof.Machine.execQdCountClear port s
  | .tickPllLock t slew => Sys2Proof.Machine.execTickPllLock t slew s
  | .refclkLoss t => Sys2Proof.Machine.execRefclkLoss t s
  | .refclkReturn t slew => Sys2Proof.Machine.execRefclkReturn t slew s
  | .tickLoad => Sys2Proof.Machine.execTickLoad s
  | .tickPresetApply t => Sys2Proof.Machine.execTickPresetApply t s
  | .todUpdateTick t => Sys2Proof.Machine.execTodUpdateTick t s
  | .todSet => Sys2Proof.Machine.execTodSet s
  | .snap => Sys2Proof.Machine.execSnap s
  | .snapshotLatch => Sys2Proof.Machine.execSnapshotLatch s
  | .ppsInEdge t code => Sys2Proof.Machine.execPpsInEdge t code s
  | .holdoverTimeout t => Sys2Proof.Machine.execHoldoverTimeout t s
  | .tmSrcWrite src => Sys2Proof.Machine.execTmSrcWrite src s
  | .tmIncrBaseWrite base => Sys2Proof.Machine.execTmIncrBaseWrite base s
  | .ppsOutRise t => Sys2Proof.Machine.execPpsOutRise t s
  | .ppsOutFall t => Sys2Proof.Machine.execPpsOutFall t s
  | .ptpSyncReceived m t code => Sys2Proof.Machine.execPtpSyncReceived m t code s
  | .ptpFollowUpReceived m t => Sys2Proof.Machine.execPtpFollowUpReceived m t s
  | .ptpDelayReqSend t code => Sys2Proof.Machine.execPtpDelayReqSend t code s
  | .ptpDelayRespReceived m toUs t => Sys2Proof.Machine.execPtpDelayRespReceived m toUs t s
  | .ptpAnnounceReceived m utcValid leap61 leap59 offset t => Sys2Proof.Machine.execPtpAnnounceReceived m utcValid leap61 leap59 offset t s
  | .masterChange clock portNo => Sys2Proof.Machine.execMasterChange clock portNo s
  | .ptpCountClear => Sys2Proof.Machine.execPtpCountClear s
  | .sortStart => Sys2Proof.Machine.execSortStart s
  | .sortStop => Sys2Proof.Machine.execSortStop s
  | .sliceStart t => Sys2Proof.Machine.execSliceStart t s
  | .inputQueueItem port flip reads t => Sys2Proof.Machine.execInputQueueItem port flip reads t s
  | .regionCloseByMargin t => Sys2Proof.Machine.execRegionCloseByMargin t s
  | .portRefusalSpanClose port t => Sys2Proof.Machine.execPortRefusalSpanClose port t s
  | .lateDropSpanClose port t => Sys2Proof.Machine.execLateDropSpanClose port t s
  | .ctxCountClear => Sys2Proof.Machine.execCtxCountClear s
  | .ctxCountWalkEnd t => Sys2Proof.Machine.execCtxCountWalkEnd t s
  | .sortCountClear => Sys2Proof.Machine.execSortCountClear s
  | .qdQueueFlush port => Sys2Proof.Machine.execQdQueueFlush port s
  | .frameBegin left reads t => Sys2Proof.Machine.execFrameBegin left reads t s
  | .frameComplete lane t => Sys2Proof.Machine.execFrameComplete lane t s
  | .expressUnitSend lane t => Sys2Proof.Machine.execExpressUnitSend lane t s
  | .xoffAssert lane t => Sys2Proof.Machine.execXoffAssert lane t s
  | .xoffRelease lane t => Sys2Proof.Machine.execXoffRelease lane t s
  | .breachBegin lane t => Sys2Proof.Machine.execBreachBegin lane t s
  | .breachEnd lane t => Sys2Proof.Machine.execBreachEnd lane t s
  | .laneStartupDone lane t => Sys2Proof.Machine.execLaneStartupDone lane t s
  | .outEk4Write ek4 => Sys2Proof.Machine.execOutEk4Write ek4 s
  | .outCountClear => Sys2Proof.Machine.execOutCountClear s
  | .trigInCrossing source t edge => Sys2Proof.Machine.execTrigInCrossing source t edge s
  | .softTrigger => Sys2Proof.Machine.execSoftTrigger s
  | .protectedWindowClose t => Sys2Proof.Machine.execProtectedWindowClose t s
  | .annotationIssue seq t => Sys2Proof.Machine.execAnnotationIssue seq t s
  | .calHoldRepeat t => Sys2Proof.Machine.execCalHoldRepeat t s
  | .trgCountClear => Sys2Proof.Machine.execTrgCountClear s
  | .rateCountClear => Sys2Proof.Machine.execRateCountClear s
  | .isRunSet unit value => Sys2Proof.Machine.execIsRunSet unit value s
  | .isRunClear unit value => Sys2Proof.Machine.execIsRunClear unit value s
  | .isPost unit value => Sys2Proof.Machine.execIsPost unit value s
  | .isEdge kind index falling t f take => Sys2Proof.Machine.execIsEdge kind index falling t f take s
  | .isSampleTimeout unit t => Sys2Proof.Machine.execIsSampleTimeout unit t s
  | .isGateClose unit t f => Sys2Proof.Machine.execIsGateClose unit t f s
  | .gateInEdge level t f => Sys2Proof.Machine.execGateInEdge level t f s
  | .isCountClear => Sys2Proof.Machine.execIsCountClear s
  | .tarnTrain => Sys2Proof.Machine.execTarnTrain s
  | .tarnTrainingComplete fail t => Sys2Proof.Machine.execTarnTrainingComplete fail t s
  | .tarnPeriodicRetrain channel ok t => Sys2Proof.Machine.execTarnPeriodicRetrain channel ok t s
  | .tarnLineWrite pos bad checkBad t => Sys2Proof.Machine.execTarnLineWrite pos bad checkBad t s
  | .tarnWriteTimeout pos t => Sys2Proof.Machine.execTarnWriteTimeout pos t s
  | .tarnMarkPlaceSlice index slice => Sys2Proof.Machine.execTarnMarkPlaceSlice index slice s
  | .tarnMarkPlaceTod index sec ns => Sys2Proof.Machine.execTarnMarkPlaceTod index sec ns s
  | .tarnMarkPin index len => Sys2Proof.Machine.execTarnMarkPin index len s
  | .tarnMarkUnpin index => Sys2Proof.Machine.execTarnMarkUnpin index s
  | .tarnMarkFree index => Sys2Proof.Machine.execTarnMarkFree index s
  | .tarnCountClear => Sys2Proof.Machine.execTarnCountClear s
  | .replayAccept t => Sys2Proof.Machine.execReplayAccept t s
  | .replayAbort t => Sys2Proof.Machine.execReplayAbort t s
  | .replayStart lane t => Sys2Proof.Machine.execReplayStart lane t s
  | .replayEntryRead lane t passed reads => Sys2Proof.Machine.execReplayEntryRead lane t passed reads s
  | .mereScrubPass t reads => Sys2Proof.Machine.execMereScrubPass t reads s
  | .tarnScrubPass t reads => Sys2Proof.Machine.execTarnScrubPass t reads s
  | .bucketLeak t => Sys2Proof.Machine.execBucketLeak t s
  | .mereBktClear => Sys2Proof.Machine.execMereBktClear s
  | .mereCountClear => Sys2Proof.Machine.execMereCountClear s
  | .podEnable => Sys2Proof.Machine.execPodEnable s
  | .podDisable => Sys2Proof.Machine.execPodDisable s
  | .xlinkFrameSend t => Sys2Proof.Machine.execXlinkFrameSend t s
  | .xlinkFrameReceived frame arrival t => Sys2Proof.Machine.execXlinkFrameReceived frame arrival t s
  | .heartbeatMiss t => Sys2Proof.Machine.execHeartbeatMiss t s
  | .takeoverActivate t => Sys2Proof.Machine.execTakeoverActivate t s
  | .claimWindowEnd t => Sys2Proof.Machine.execClaimWindowEnd t s
  | .podLeaseRenewTimer t => Sys2Proof.Machine.execPodLeaseRenewTimer t s
  | .podClaimTimer t => Sys2Proof.Machine.execPodClaimTimer t s
  | .podYield => Sys2Proof.Machine.execPodYield s
  | .yieldRelease t => Sys2Proof.Machine.execYieldRelease t s
  | .healthCompute t => Sys2Proof.Machine.execHealthCompute t s
  | .reversionRequest t => Sys2Proof.Machine.execReversionRequest t s
  | .podFence => Sys2Proof.Machine.execPodFence s
  | .podFenceRelease => Sys2Proof.Machine.execPodFenceRelease s
  | .podFenceInAssert t => Sys2Proof.Machine.execPodFenceInAssert t s
  | .podFenceInRelease t => Sys2Proof.Machine.execPodFenceInRelease t s
  | .podRejoin => Sys2Proof.Machine.execPodRejoin s
  | .standbySelftest test ok reads t => Sys2Proof.Machine.execStandbySelftest test ok reads t s
  | .wdogKick => Sys2Proof.Machine.execWdogKick s
  | .wdogExpiry t => Sys2Proof.Machine.execWdogExpiry t s
  | .podCountClear => Sys2Proof.Machine.execPodCountClear s
  | .monConverterGo converter => Sys2Proof.Machine.execMonConverterGo converter s
  | .monCommonGo => Sys2Proof.Machine.execMonCommonGo s
  | .monTimerStart converter t => Sys2Proof.Machine.execMonTimerStart converter t s
  | .monPwmEdge t => Sys2Proof.Machine.execMonPwmEdge t s
  | .monPwmDelayStart converter t => Sys2Proof.Machine.execMonPwmDelayStart converter t s
  | .monStartupDelayEnd converter t => Sys2Proof.Machine.execMonStartupDelayEnd converter t s
  | .monConversionSettled converter pins err t => Sys2Proof.Machine.execMonConversionSettled converter pins err t s
  | .monSettleTimeout converter pins err t => Sys2Proof.Machine.execMonSettleTimeout converter pins err t s
  | .monForce converter pins err => Sys2Proof.Machine.execMonForce converter pins err s
  | .monSlotWrite slot conv value => Sys2Proof.Machine.execMonSlotWrite slot conv value s
  | .monExcitationFault converter sense t => Sys2Proof.Machine.execMonExcitationFault converter sense t s
  | .monDisableAbort slot => Sys2Proof.Machine.execMonDisableAbort slot s
  | .monCountClear => Sys2Proof.Machine.execMonCountClear s
  | .guardConvOutput converter pins err t => Sys2Proof.Machine.execGuardConvOutput converter pins err t s
  | .guardConvRestart converter t => Sys2Proof.Machine.execGuardConvRestart converter t s
  | .guardRuleEval flash t => Sys2Proof.Machine.execGuardRuleEval flash t s
  | .guardPOkWrite flash t => Sys2Proof.Machine.execGuardPOkWrite flash t s
  | .guardPStale flash t => Sys2Proof.Machine.execGuardPStale flash t s
  | .guardInSample uv flash t => Sys2Proof.Machine.execGuardInSample uv flash t s
  | .ilkInOpen flash t => Sys2Proof.Machine.execIlkInOpen flash t s
  | .ilkInClose t => Sys2Proof.Machine.execIlkInClose t s
  | .guardReadbackSample levels flash t => Sys2Proof.Machine.execGuardReadbackSample levels flash t s
  | .guardArm mask flash => Sys2Proof.Machine.execGuardArm mask flash s
  | .guardOff mask flash => Sys2Proof.Machine.execGuardOff mask flash s
  | .guardPwDataWrite value => Sys2Proof.Machine.execGuardPwDataWrite value s
  | .guardUnlock flash => Sys2Proof.Machine.execGuardUnlock flash s
  | .guardLock flash => Sys2Proof.Machine.execGuardLock flash s
  | .guardSetPw flash => Sys2Proof.Machine.execGuardSetPw flash s
  | .guardSessionTimeout flash t => Sys2Proof.Machine.execGuardSessionTimeout flash t s
  | .guardLockoutEnd t => Sys2Proof.Machine.execGuardLockoutEnd t s
  | .guardLockedWrite addr value flash => Sys2Proof.Machine.execGuardLockedWrite addr value flash s
  | .entdaa addr won => Sys2Proof.Machine.execEntdaa addr won s
  | .setdasa stat addr => Sys2Proof.Machine.execSetdasa stat addr s
  | .setnewda addr => Sys2Proof.Machine.execSetnewda addr s
  | .rstdaa => Sys2Proof.Machine.execRstdaa s
  | .enec direct events => Sys2Proof.Machine.execEnec direct events s
  | .disec direct events => Sys2Proof.Machine.execDisec direct events s
  | .getpid => Sys2Proof.Machine.execGetpid s
  | .getbcr => Sys2Proof.Machine.execGetbcr s
  | .getdcr => Sys2Proof.Machine.execGetdcr s
  | .getstatus => Sys2Proof.Machine.execGetstatus s
  | .getmxds => Sys2Proof.Machine.execGetmxds s
  | .setmwl direct length => Sys2Proof.Machine.execSetmwl direct length s
  | .setmrl direct length payload => Sys2Proof.Machine.execSetmrl direct length payload s
  | .getmwl => Sys2Proof.Machine.execGetmwl s
  | .getmrl => Sys2Proof.Machine.execGetmrl s
  | .rstactNone direct => Sys2Proof.Machine.execRstactNone direct s
  | .rstactTargetReset direct => Sys2Proof.Machine.execRstactTargetReset direct s
  | .rstactWarmReset => Sys2Proof.Machine.execRstactWarmReset s
  | .enthdr0 => Sys2Proof.Machine.execEnthdr0 s
  | .cccUnsupported direct => Sys2Proof.Machine.execCccUnsupported direct s
  | .i3cRegisterWrite bytes flash reads => Sys2Proof.Machine.execI3cRegisterWrite bytes flash reads s
  | .i3cSetPointer addr => Sys2Proof.Machine.execI3cSetPointer addr s
  | .i3cRegisterRead n reads => Sys2Proof.Machine.execI3cRegisterRead n reads s
  | .hdrDdrWrite words flash reads => Sys2Proof.Machine.execHdrDdrWrite words flash reads s
  | .hdrDdrRead n reads => Sys2Proof.Machine.execHdrDdrRead n reads s
  | .registerWrite addr value flash => Sys2Proof.Machine.execRegisterWrite addr value flash s
  | .wideLoRead path addr => Sys2Proof.Machine.execWideLoRead path addr s
  | .wideHiWrite addr value flash => Sys2Proof.Machine.execWideHiWrite addr value flash s
  | .evtClrWrite page value => Sys2Proof.Machine.execEvtClrWrite page value s
  | .evtEnWrite page value => Sys2Proof.Machine.execEvtEnWrite page value s
  | .ibiRequest nack => Sys2Proof.Machine.execIbiRequest nack s
  | .pqPop queue => Sys2Proof.Machine.execPqPop queue s
  | .pqPush queue => Sys2Proof.Machine.execPqPush queue s
  | .pqClear queue => Sys2Proof.Machine.execPqClear queue s
  | .twIndexWrite window value reads => Sys2Proof.Machine.execTwIndexWrite window value reads s
  | .twData0Read window reads => Sys2Proof.Machine.execTwData0Read window reads s
  | .twData0Write window value => Sys2Proof.Machine.execTwData0Write window value s
  | .rmtReqWrite value => Sys2Proof.Machine.execRmtReqWrite value s
  | .remoteRequestIssue port t => Sys2Proof.Machine.execRemoteRequestIssue port t s
  | .remoteRequestTimeout seq t => Sys2Proof.Machine.execRemoteRequestTimeout seq t s
  | .rmtFcGo value => Sys2Proof.Machine.execRmtFcGo value s
  | .rmtCountClear => Sys2Proof.Machine.execRmtCountClear s
  | .glbCountClear => Sys2Proof.Machine.execGlbCountClear s
  | .cmtGo => Sys2Proof.Machine.execCmtGo s
  | .cmtDiscard => Sys2Proof.Machine.execCmtDiscard s
  | .cmtCountClear => Sys2Proof.Machine.execCmtCountClear s
  | .commit downlink t epoch target => Sys2Proof.Machine.execCommit downlink t epoch target s
  | .jilekSwitch t => Sys2Proof.Machine.execJilekSwitch t s
  | .commitTargetReached t => Sys2Proof.Machine.execCommitTargetReached t s
  | .commitResend t => Sys2Proof.Machine.execCommitResend t s
  | .contextMergeEnd reads t => Sys2Proof.Machine.execContextMergeEnd reads t s
  | .commitComplete t => Sys2Proof.Machine.execCommitComplete t s
  | .getStatus t => Sys2Proof.Machine.execGetStatus t s
  | .quoteStart t => Sys2Proof.Machine.execQuoteStart t s
  | .quoteReady restarted t => Sys2Proof.Machine.execQuoteReady restarted t s
  | .quoteRead t => Sys2Proof.Machine.execQuoteRead t s
  | .certRead t => Sys2Proof.Machine.execCertRead t s
  | .updateBegin t => Sys2Proof.Machine.execUpdateBegin t s
  | .updateData t => Sys2Proof.Machine.execUpdateData t s
  | .updateEnd t => Sys2Proof.Machine.execUpdateEnd t s
  | .setTrial t => Sys2Proof.Machine.execSetTrial t s
  | .confirm t => Sys2Proof.Machine.execConfirm t s
  | .advance t => Sys2Proof.Machine.execAdvance t s
  | .tokenData t => Sys2Proof.Machine.execTokenData t s
  | .guardReset flash t => Sys2Proof.Machine.execGuardReset flash t s
  | .decommission t => Sys2Proof.Machine.execDecommission t s
  | .secRecover => Sys2Proof.Machine.execSecRecover s
  | .bootSequence katOk ms flash t => Sys2Proof.Machine.execBootSequence katOk ms flash t s
  | .bolovPowerOnReset cause bringup addrSel pref => Sys2Proof.Machine.execBolovPowerOnReset cause bringup addrSel pref s
  | .jilekPowerOnReset cause => Sys2Proof.Machine.execJilekPowerOnReset cause s
  | .jilekLinkLossReset t => Sys2Proof.Machine.execJilekLinkLossReset t s
  | .pwrDomWrite k value => Sys2Proof.Machine.execPwrDomWrite k value s
  | .pwrDomainSwitched switch t => Sys2Proof.Machine.execPwrDomainSwitched switch t s
  | .jpwTileOnWrite tiles t => Sys2Proof.Machine.execJpwTileOnWrite tiles t s
  | .jpwLinkOnWrite value t => Sys2Proof.Machine.execJpwLinkOnWrite value t s
  | .vcoreLowChange mv t => Sys2Proof.Machine.execVcoreLowChange mv t s
  | .bringupReady t => Sys2Proof.Machine.execBringupReady t s
  | .jilekResetRelease t => Sys2Proof.Machine.execJilekResetRelease t s
  | .junctionAbove105 tj t => Sys2Proof.Machine.execJunctionAbove105 tj t s
  | .unknownHostCmd t => Sys2Proof.Machine.execUnknownHostCmd t s

end Sys2Proof.Machine
end

