-- ==== Sys2Proof/Machine/Step.lean ====
section
/-!
DEFINITION. The step of the set: the command at the front of the queue, or one tick on an empty queue.
-/

namespace Sys2Proof.Machine

/-- Take the command at the front of the queue and carry it out on the rest; with nothing waiting, one tick passes for both
chips (log entry 1). -/
def step (s : State) : Host.Outcome State Fault Refusal :=
  match s.pending with
  | c :: rest => exec c { s with pending := rest }
  | [] => .next (advance 1 s)

/-- The state with the command that a word spells at the front of its queue; unchanged where the word spells none. -/
def State.withFetchWord (s : State) (nbits w : Nat) : State :=
  match decodeTableWord nbits w with
  | some c => { s with pending := c :: s.pending }
  | none => s

end Sys2Proof.Machine
end

