-- ==== Sys2Proof/Safety.lean ====
section
/-!
DEFINITION. What the claims are stated in: a command that completes, what a command leaves alone, a counter that has not
wrapped.
-/

namespace Sys2Proof.Machine

/-- A command completes, and the next state is one of which `P` holds. -/
def Completes (c : Instr) (s : State) (P : State → Prop) : Prop := ∃ t, exec c s = .next t ∧ P t

/-- A command completes on the Jilek alone: what it leaves of the state is `s1` with another Jilek, of which `P` holds. -/
def CompletesJ (c : Instr) (s s1 : State) (P : Jilek → Prop) : Prop := ∃ j, exec c s = .next { s1 with j := j } ∧ P j

/-- A command completes on the Bolov alone. -/
def CompletesB (c : Instr) (s s1 : State) (P : Bolov → Prop) : Prop := ∃ b, exec c s = .next { s1 with b := b } ∧ P b

/-- The lease stands, has not expired, and belongs to downlink `d` (R118). -/
def OwnedBy (d : Fin 2) (j : Jilek) : Prop := ∃ l, j.lease = some l ∧ l.owner = d ∧ notBefore j.tick l.expiry = false

/-- From `a` to `b` nothing changes but cell `c`. -/
def OnlyCell (c : Nat) (a b : Jilek) : Prop := (∀ k, k ≠ c → b.cell k = a.cell k) ∧ b = { a with cells := b.cells }

/-- From `a` to `b` nothing changes but tile `t`. -/
def OnlyTile (t : Nat) (a b : Jilek) : Prop := (∀ k, k ≠ t → b.tile k = a.tile k) ∧ b = { a with tiles := b.tiles }

/-- From `a` to `b` no register changes but those at `l`. -/
def JRegsBut (l : List Nat) (a b : Jilek) : Prop := ∀ k, k ∉ l → b.reg k = a.reg k

/-- From `a` to `b` no counter changes but those at `l`. -/
def JCtrsBut (l : List Nat) (a b : Jilek) : Prop := ∀ k, k ∉ l → b.ctr k = a.ctr k

/-- Nothing waits to be found in a line, and it neither stores poison nor stands in the tracker (R245 to R257). -/
def CleanLine (a : Nat) (b : Bolov) : Prop :=
  b.mere.flaws.find? (fun r => b.lineAt r.line == a) = none ∧ b.poisoned a = false ∧ b.trkFind (b.heldAt a) = none

/-- From `a` to `b` nothing changes but port `p`, which becomes `x`. -/
def OnlyPort (p : Nat) (x : PortState) (a b : Bolov) : Prop :=
  b.port p = x ∧ (∀ k, k ≠ p → b.port k = a.port k) ∧ b = { a with ports := b.ports }

/-- From `a` to `b` no register changes but those at `l`. -/
def BRegsBut (l : List Nat) (a b : Bolov) : Prop := ∀ k, k ∉ l → b.reg k = a.reg k

/-- From `a` to `b` no counter changes but those with a key in `l`. -/
def BCtrsBut (l : List Nat) (a b : Bolov) : Prop := ∀ k, k ∉ l → fget {} b.counters k = fget {} a.counters k

/-- From `a` to `b` the counters of `l`, each named by its _LO and its number of copies, are cleared and nothing else
changes. -/
def Cleared (l : List (Nat × Nat)) (a b : Bolov) : Prop :=
  b = { a with counters := b.counters } ∧ (∀ e ∈ l, ∀ i < e.2, b.ctr e.1 i = {}) ∧
    ∀ k, (∀ e ∈ l, ∀ i < e.2, k ≠ ctrKey e.1 i) → fget {} b.counters k = fget {} a.counters k

/-- The value that a staged set gives a key: the last one listed. -/
def newestOf {α : Type} (m : FMap (Option α)) (k : Nat) : Option α := (m.filterMap (fun e => if e.1 = k then e.2 else none)).getLast?

/-- A counter stands within 48 bits, and one at its end has its sat bit set (R101, R318). -/
def CtrOk (c : Ctr) : Prop := c.val ≤ maxCount ∧ (c.val = maxCount → c.sat = true)

/-- Every counter of both chips does. -/
def CountersOk (s : State) : Prop := (∀ e ∈ s.j.counters, CtrOk e.2) ∧ ∀ e ∈ s.b.counters, CtrOk e.2

/-- What every step keeps: counters within their width, and the flash in the canonical form of memories. -/
def StateInv (s : State) : Prop := CountersOk s ∧ FMapWf 0xFF s.b.sec.flash

end Sys2Proof.Machine
end

