-- ==== Sys2Proof/Certificates/Slice0/Obligations.lean ====
section
/-!
DEFINITION. The statements for the provers. Each names the rules of the spec it rests on; `s1` is always the state a command
meets once time has brought its chip to the command's tick (`reachJ`, `reachB`).
-/

open Sys2Proof Sys2Proof.Machine

/-- A step is exec of the command at the front of the queue on the queue's rest; with an empty queue one tick passes. For
every command c and state s, the step of s with c at the front of its queue is exec c on s with the queue's rest. With
nothing waiting one tick edge passes for both chips (R14, R103): the Bolov's tick counter advances by one, the Jilek's too
where no frame and no change of its tick source waits for that edge, and the queue stays empty (the idle tick is the model's
choice, log entry 1). [spec/00_scope.md, spec/05_tile_path_governor.md] -/
def Obligations.StepRunsTheFront : Prop :=
  (∀ (c : Instr) (rest : List Instr) (s : State), Sys2Proof.Machine.step { s with pending := c :: rest } = exec c { s with pending := rest }) ∧
    ∀ s : State, s.pending = [] → Sys2Proof.Machine.step s = .next (advance 1 s) ∧ (advance 1 s).pending = [] ∧ (advance 1 s).b.tick = s.b.tick + 1 ∧
      (s.j.due = [] → s.j.srcNext = none → (advance 1 s).j = s.j.tickOn 1 ∧ (advance 1 s).j.tick = s.j.tick + 1)

/-- Every command completes in every state, leaves the queue as it is, and acts on one chip alone: for the other only time
passes. exec of any command on any state answers a next state whose queue is that of s; and either the Jilek or the Bolov of
it is that of s after some number of tick edges, with nothing else changed. So no command to the Bolov writes the Jilek and
none to the Jilek writes the Bolov: what passes between them passes as commands (log entry 4, the model's choice).
[spec/00_scope.md, spec/21_pins_electrical.md] -/
def Obligations.CommandsActOnOneChip : Prop :=
  ∀ (c : Instr) (s : State), ∃ t : State, exec c s = .next t ∧ t.pending = s.pending ∧ (t.j = s.j ∨ t.b = s.b ∨ (∃ n, t.j = s.j.advance n) ∨ ∃ n, t.b = s.b.advance n)

/-- Every step keeps every counter of both chips within 48 bits with its sat bit true to it, and the flash in canonical
form. From every state that meets StateInv, a step that answers a next state gives one that meets StateInv. StateInv says of
every counter of the Jilek and the Bolov that its value is at most 2^48 - 1 and that one standing at 2^48 - 1 has its sticky
sat bit set (R101, R318), and of the QSPI flash that its list of bytes is canonical: addresses strictly rising, and no byte
equal to 0xFF, which an unlisted address reads as (the form and the erased value are the model's, log entry 111).
[spec/05_tile_path_governor.md, spec/17_control_interface.md, spec/19_security_identity.md] -/
def Obligations.StepsKeepTheInvariant : Prop := ∀ s t : State, StateInv s → Sys2Proof.Machine.step s = .next t → StateInv t

/-- The machine right after reset meets the invariant, with nothing in any queue and every counter at zero. State.reset
meets StateInv; its queue of commands is empty; every counter reads zero with sat clear; the tick counters of both chips
read 0 (R122 gives the Bolov's; the Jilek's is the model's choice, log entry 8); no output of the Guard permits, each with
cause and first cause reset (R305). [spec/00_scope.md, spec/17_control_interface.md] -/
def Obligations.ResetMeetsTheInvariant : Prop :=
  StateInv State.reset ∧ State.reset.pending = [] ∧ (∀ a, State.reset.j.ctr a = {}) ∧ (∀ a n, State.reset.b.ctr a n = {}) ∧ State.reset.b.tick = 0 ∧ State.reset.j.tick = 0 ∧
    State.reset.b.grd.on = 0 ∧ ∀ g : Fin 4, State.reset.b.grd.causes[g] = 1 ∧ State.reset.b.grd.first[g] = 6

/-- NA counts the edges of oscillator A before the tick edge; a ring pair in window gives codes in range and catches up in
time. For a period ta of at least 1 ps and an interval d > 0 from the crossing to the tick edge, NA is the number of A edges
(at 0, ta, 2 ta, ...) that fall before the tick edge, stopped at 31; where the start gate also takes an edge at the tick
edge or less than 1 ps after it, NA is the number of edges that fall less than 1 ps after the tick edge, stopped at 31
(rules R50 and R54). For a ring pair in window (R47) whose B edge starts at most one tick and 10 ps after the crossing, NA
lies in 1 to 21, and with NA latched the comparison ends at a B period of 1 to 63 no later than 14.5 ns after the crossing,
so no overrun arises (R51, R52, R54); whichever way the start gate resolves an edge at the tick edge.
[spec/03_vernier_timing.md] -/
def Obligations.NACountsEdgesAndPairsCatchUp : Prop :=
  (∀ ta d : Nat, 1000 ≤ ta → 0 < d →
    countNA ta d false = min 31 (((List.range (d + 1000)).filter (fun k => decide (k * ta < d))).length) ∧
    countNA ta d true = min 31 (((List.range (d + 1000)).filter (fun k => decide (k * ta < d + 1000))).length)) ∧
  ∀ (v : Conv) (extra : Bool), 150000 ≤ v.ta → v.ta ≤ 160000 → v.tb < v.ta → 2450 ≤ v.ta - v.tb → v.ta - v.tb ≤ 3000 →
    v.ta ≤ 63 * (v.ta - v.tb) → 0 < v.span → v.span ≤ 3135000 → v.na = BitVec.ofNat 5 (countNA v.ta v.span extra) →
    1 ≤ v.na.toNat ∧ v.na.toNat ≤ 21 ∧ ∃ n, bPeriods v false = some n ∧ 1 ≤ n ∧ n ≤ 63 ∧ catches v n = true

/-- NV is the first B period at which B has caught up with A, and 1 to 63 for a pair in window. For a conversion whose B
period is shorter than its A period, with dT = T_A - T_B and r the time from the last A edge counted to the tick edge: the
comparison ends at a number n of at least 1 with r <= n dT, while m dT < r for every earlier m of at least 1; and where r <
T_A <= 63 dT, n is at most 63. Where B is not the faster ring, it ends in the first period if B is level by then, else never.
[R51] -/
def Obligations.NVIsTheFirstCatchingPeriod : Prop :=
  ∀ (v : Conv) (r : Int), r = (v.span : Int) - ((v.na.toNat : Int) - 1) * v.ta →
    (v.ta ≤ v.tb → bPeriods v false = if r ≤ (v.ta : Int) - v.tb then some 1 else none) ∧
    (v.tb < v.ta → ∃ n, bPeriods v false = some n ∧ 1 ≤ n ∧ r ≤ n * ((v.ta : Int) - v.tb) ∧
      (∀ m : Nat, 1 ≤ m → m < n → m * ((v.ta : Int) - v.tb) < r) ∧
      (r < v.ta → v.ta ≤ 63 * (v.ta - v.tb) → n ≤ 63))

/-- The steps of a conversion: crossing, start of B, NV, trailing edge, saturation, end of dead time. DISCRIMINATOR_CROSSING
in an unmasked, armed cell opens a conversion with the given A period, the dead time and case C of R38 (R49, R57).
OSC_B_START at the first edge after it latches NA, the hit tick, the entry, stale flag and TP_FE_ID in force there (R46,
R50, R75, R83); in a cell masked or closed at that tick it starts no conversion and no dead time (R31, R71). NV_LATCH latches the catching B period (R51). TRAILING_EDGE latches min(511, width div T_A) and gives the
dead time its end, max(crossing + 15 ns, edge + 4 ns) (R55, R57). TOT_SATURATION latches 511 (R36). DEAD_TIME_END re-arms
the cell, with 1 ns of tolerance (R57). Each changes only its cell, and only the fields named. [spec/02_cell_front_end.md,
spec/03_vernier_timing.md] -/
def Obligations.CellConversionEvents : Prop :=
  ∀ (s : State) (cl : Fin 2048) (t : Tick),
    let s1 := reachJ t s
    s1.j.inReset = false →
    let x := s1.j.cell cl
    (∀ fs ta : Nat, let h := s1.j.tick + BitVec.ofNat 48 (s1.j.edgesTo fs)
      x.high = false → s1.j.tileOn (cl / 64) = true → s1.j.maskedAt cl h = false →
      x.inDead (s1.j.now fs) = false → s1.j.closedAt (cl / 64) h = false →
      CompletesJ (.discriminatorCrossing cl t fs ta) s s1 (fun j => OnlyCell cl s1.j j ∧
        j.cell cl = { x with
          high := true, edgeAt := s1.j.now fs, lastCross := some (s1.j.now fs), dead := true, deadFrom := s1.j.now fs, deadTrail := none
          conv := some {
            crossAt := s1.j.now fs, ta := ta, entry := s1.j.entryAt cl h
            caseC := (match x.lastCross with | some p => decide (s1.j.now fs < p + 25000000) | none => false) } })) ∧
    (∀ (tb : Nat) (extra : Bool) (v : Conv), x.conv = some v → v.hit = none → v.crossAt < s1.j.now 0 →
      s1.j.now 0 - v.crossAt < ((tickFs : Int) + s1.j.edgeMove * codeFs).toNat + 10000 →
      ((s1.j.maskedAt cl s1.j.tick || s1.j.closedAt (cl / 64) s1.j.tick) = true →
        CompletesJ (.oscBStart cl t tb extra) s s1 (fun j => OnlyCell cl s1.j j ∧
          j.cell cl = { x with conv := none, dead := false })) ∧
      (s1.j.maskedAt cl s1.j.tick = false → s1.j.closedAt (cl / 64) s1.j.tick = false →
      CompletesJ (.oscBStart cl t tb extra) s s1 (fun j => OnlyCell cl s1.j j ∧
        j.cell cl = { x with conv := some { v with
          tb := tb, hit := some s1.j.tick, span := s1.j.now 0 - v.crossAt, entry := s1.j.entryAt cl s1.j.tick
          na := BitVec.ofNat 5 (countNA v.ta (s1.j.now 0 - v.crossAt) extra), stale := s1.j.staleAt (cl / 64) s1.j.tick
          feId := (s1.j.regAt Reg.TP_FE_ID s1.j.tick).setWidth 16 } }))) ∧
    (∀ (fs n : Nat) (next : Bool) (v : Conv) (h : Tick), x.conv = some v → v.hit = some h → v.nv = none → v.tot = none →
      bPeriods v next = some n → catches v n = true → v.crossAt + v.span + n * v.tb ≤ s1.j.now fs →
      CompletesJ (.nvLatch cl t fs next) s s1 (fun j => OnlyCell cl s1.j j ∧
        j.cell cl = { x with conv := some { v with nv := some (BitVec.ofNat 6 n) } })) ∧
    (∀ (fs : Nat) (v : Conv), x.high = true → x.dead = true → x.deadTrail = none → x.conv = some v → v.tot = none → v.nv = none →
      CompletesJ (.trailingEdge cl t fs false) s s1 (fun j => OnlyCell cl s1.j j ∧
        j.cell cl = { x with
          high := false, edgeAt := s1.j.now fs, deadTrail := some (s1.j.now fs)
          conv := some { v with tot := some (BitVec.ofNat 9 (min 511 ((s1.j.now fs - v.crossAt) / v.ta))) } } ∧
        (j.cell cl).deadEnd = some (max (x.deadFrom + 15000000) (s1.j.now fs + 4000000)))) ∧
    (∀ (fs : Nat) (v : Conv), x.high = true → x.conv = some v → v.tot = none → v.nv = none → v.crossAt + 511 * v.ta ≤ s1.j.now fs →
      CompletesJ (.totSaturation cl t fs) s s1 (fun j => OnlyCell cl s1.j j ∧
        j.cell cl = { x with conv := some { v with tot := some 511 } })) ∧
    (∀ fs e : Nat, x.dead = true → x.deadEnd = some e → e ≤ s1.j.now fs + 1000000 →
      CompletesJ (.deadTimeEnd cl t fs) s s1 (fun j => OnlyCell cl s1.j j ∧ j.cell cl = { x with dead := false }))

/-- Overrun, stuck masking and release, settling, injection, and the clears of the front-end and vernier pages.
VERNIER_OVERRUN latches NV = 0, counts in VN_OVERRUN, sets VN_LAST_OVERRUN with its valid bit and, at the first one, queues
status 0x03 (R52, R64). STUCK_MASK masks a cell high for 2^(13 + stuck_limit) ticks and queues status 0x01 (R37).
STUCK_RELEASE frees it after 65,536 ticks low (R37). FE_OFF_SETTLE_END ends the 50 us of R31. TEST_PULSE_INJECTION takes a
pending tick and injects into every cell with tp_en, each of which then has the crossing that the charge makes, and into no
other cell (R33, R35). FE_PILEUP_CLEAR, FE_STUCK_CLEAR and VN_OVERRUN_CLEAR clear what
they name and nothing else (R37, R44, R63). [spec/02_cell_front_end.md, spec/03_vernier_timing.md] -/
def Obligations.CellUpkeepEvents : Prop :=
  ∀ (s : State) (cl : Fin 2048) (t : Tick),
    let s1 := reachJ t s
    s1.j.inReset = false →
    let x := s1.j.cell cl
    (∀ (fs : Nat) (v : Conv) (h : Tick), x.conv = some v → v.hit = some h → v.nv = none → v.tot = none →
      (∀ n, bPeriods v false = some n → catches v n = false) → v.crossAt + 14500000 ≤ s1.j.now fs →
      (s1.j.ctr Reg.VN_OVERRUN).val + 1 < 2 ^ 48 - 1 →
      CompletesJ (.vernierOverrun cl t fs) s s1 (fun j =>
        j.cell cl = { x with conv := some { v with nv := some 0 } } ∧ (∀ k, k ≠ (cl : Nat) → j.cell k = s1.j.cell k) ∧
        j.ctr Reg.VN_OVERRUN = { s1.j.ctr Reg.VN_OVERRUN with val := (s1.j.ctr Reg.VN_OVERRUN).val + 1 } ∧
        JCtrsBut [Reg.VN_OVERRUN] s1.j j ∧ JRegsBut [Reg.VN_LAST_OVERRUN] s1.j j ∧
        bit (j.reg Reg.VN_LAST_OVERRUN).toNat 31 = true ∧
        j = { s1.j with
          cells := j.cells, counters := j.counters, regs := j.regs, lastOverrun := BitVec.ofNat 11 cl, overrunSeen := true
          statuses := if s1.j.overrunSeen then s1.j.statuses else (s1.j.status 0x03 0 cl).statuses })) ∧
    (x.high = true → x.stuck = false → x.edgeAt + 2 ^ (13 + fld (s1.j.reg Reg.FE_CTRL) 2 1) * 3125000 ≤ s1.j.now 0 →
      CompletesJ (.stuckMask cl t) s s1 (fun j =>
        j.cell cl = { x with stuck := true } ∧ (∀ k, k ≠ (cl : Nat) → j.cell k = s1.j.cell k) ∧
        j = { s1.j with cells := j.cells, statuses := (s1.j.status 0x01 0 cl).statuses })) ∧
    (x.high = false → x.stuck = true → bit (s1.j.reg Reg.FE_CTRL).toNat 4 = true → x.edgeAt + 65536 * 3125000 ≤ s1.j.now 0 →
      CompletesJ (.stuckRelease cl t) s s1 (fun j => OnlyCell cl s1.j j ∧ j.cell cl = { x with stuck := false })) ∧
    (∀ u, x.settle = some u → u + 16000 ≤ s1.j.up →
      CompletesJ (.feOffSettleEnd cl t) s s1 (fun j => OnlyCell cl s1.j j ∧ j.cell cl = { x with settle := none })) ∧
    (s1.j.tick ∈ s1.j.injections →
      CompletesJ (.testPulseInjection t) s s1 (fun j => ∃ inj, j = { s1.j with
          injections := dropFirst (fun k => k == s1.j.tick) s1.j.injections, lastInjection := some inj
          cells := j.cells, counters := j.counters, statuses := j.statuses } ∧
        (∀ a, (∀ k < 32, a ≠ Reg.FE_PILEUP k) → j.ctr a = s1.j.ctr a) ∧
        (∀ k, k ∉ inj.cells → j.cell k = s1.j.cell k) ∧
        (∀ k ∈ inj.cells, j.cell k = (s1.j.injectCell inj.charge inj.phase k).cell k) ∧
        inj.tick = s1.j.tick ∧ (∀ k, k ∈ inj.cells ↔ k < 2048 ∧ (s1.j.entryAt k s1.j.tick).getLsbD 8 = true) ∧
        inj.charge = (s1.j.regAt Reg.FE_TP_CHARGE s1.j.tick).setWidth 10 ∧ inj.phase ≤ 39)) ∧
    (s.j.inReset = false →
    CompletesJ .fePileupClear s s (fun j => (∀ k < 32, j.ctr (Reg.FE_PILEUP k) = {}) ∧
      (∀ a, (∀ k < 32, a ≠ Reg.FE_PILEUP k) → j.ctr a = s.j.ctr a) ∧ j = { s.j with counters := j.counters }) ∧
    CompletesJ .feStuckClear s s (fun j => (∀ k, j.cell k = { s.j.cell k with stuck := false }) ∧ j = { s.j with cells := j.cells }) ∧
    CompletesJ .vnOverrunClear s s (fun j => j.ctr Reg.VN_OVERRUN = {} ∧ JCtrsBut [Reg.VN_OVERRUN] s.j j ∧
      j = { s.j with counters := j.counters, overrunSeen := false }))

/-- Causes of a run, and the five actions of CAL_START. TILE_TEMP_SAMPLE with a sound reading further from the reference
than the threshold makes a run due with cause 1 (R66, R67). CAL_INTERVAL_DUE makes one due with cause 2 once the interval
has passed (R66). From the lease owner, CAL_START_RUN makes a run due with cause 3 in every named tile that has none due or
running; CAL_START_FORCE also forces a due one; CAL_START_CANCEL removes a due run; CAL_START_HOLD holds the chip for 2^20
ticks, CAL_START_RELEASE ends hold (R68); CAL_HOLD_EXPIRY ends it at its time. A due run sets stale (R75). Nothing else
changes. [spec/04_calibration.md] -/
def Obligations.CalibrationRequests : Prop :=
  ∀ (s : State) (t : Tick),
    let s1 := reachJ t s
    s1.j.inReset = false →
    (∀ (tl : Fin 32) (r : BitVec 12), let x := s1.j.tile tl
      s1.j.tileOn tl = true → (∀ u, x.sampledAt = some u → u + 4096 ≤ s1.j.up) → bit (s1.j.reg Reg.CAL_CTRL).toNat 2 = true →
      x.sensorFault = false → -960 ≤ signed 12 r.toNat → signed 12 r.toNat ≤ 2000 → x.sameRun < 63 →
      (max 1 (fld (s1.j.reg Reg.CAL_CTRL) 19 12) : Nat) < (signed 12 r.toNat - signed 12 x.sensorRef.toNat).natAbs →
      x.due = none → x.run = none →
      CompletesJ (.tileTempSample tl t r) s s1 (fun j => OnlyTile tl s1.j j ∧
        j.tile tl = { x with
          sampledAt := some s1.j.up, sensorNow := r, sameRun := (j.tile tl).sameRun, okRun := (j.tile tl).okRun
          due := some ⟨1, false, s1.j.up⟩, stale := true, cause := 1 })) ∧
    (∀ (tl : Fin 32) (u : Nat), let x := s1.j.tile tl
      s1.j.tileOn tl = true → x.resumeAt = some u → bit (s1.j.reg Reg.CAL_CTRL).toNat 1 = true →
      u + 2 ^ (24 + fld (s1.j.reg Reg.CAL_CTRL) 22 20) ≤ s1.j.up → x.due = none → x.run = none →
      CompletesJ (.calIntervalDue tl t) s s1 (fun j => OnlyTile tl s1.j j ∧
        j.tile tl = { x with due := some ⟨2, false, s1.j.up⟩, stale := true, cause := 2 })) ∧
    (∀ u, s1.j.holdUntil = some u → u ≤ s1.j.up → exec (.calHoldExpiry t) s = .next { s1 with j := { s1.j with holdUntil := none } }) ∧
    (∀ d : Fin 2, OwnedBy d s1.j →
      (∀ m : BitVec 32, CompletesJ (.calStartRun d t m) s s1 (fun j => j = { s1.j with tiles := j.tiles } ∧
        ∀ k, let x := s1.j.tile k
          j.tile k = if k < 32 ∧ m.getLsbD k = true ∧ x.due = none ∧ x.run = none then
            { x with due := some ⟨3, false, s1.j.up⟩, stale := true, cause := 3 } else x)) ∧
      (∀ m : BitVec 32, CompletesJ (.calStartForce d t m) s s1 (fun j => j = { s1.j with tiles := j.tiles } ∧
        ∀ k, let x := s1.j.tile k
          j.tile k = if k < 32 ∧ m.getLsbD k = true then
            match x.due with
            | some y => { x with due := some { y with forced := true } }
            | none => if x.run = none then { x with due := some ⟨3, true, s1.j.up⟩, stale := true, cause := 3 } else x
            else x)) ∧
      (∀ m : BitVec 32, (∀ k, k < 32 → m.getLsbD k = true → (s1.j.tile k).run = none) →
        CompletesJ (.calStartCancel d t m) s s1 (fun j => j = { s1.j with tiles := j.tiles } ∧
          ∀ k, let x := s1.j.tile k
            j.tile k = if k < 32 ∧ m.getLsbD k = true ∧ x.due ≠ none then { x with due := none, cause := 0 } else x)) ∧
      exec (.calStartHold d t) s = .next { s1 with j := { s1.j with holdUntil := some (s1.j.up + 2 ^ 20) } } ∧
      exec (.calStartRelease d t) s = .next { s1 with j := { s1.j with holdUntil := none } })

/-- The phases of a run: start, rings, selection, reference, completion, resume. CAL_RUN_START starts the only due run at a
multiple of 64, steps the run sequence, queues the run-start word and drops conversions whose hit tick is not before S, with
their dead time (R59, R70, R71, R76). CAL_TAKE_RINGS needs every conversion acknowledged (R71). CAL_ELEMENT_SELECTION puts the selected masks of the 64
cells aside (R72). CAL_REFERENCE_SAMPLE sets the reference temperature (R71). CAL_RUN_COMPLETE puts the masks and statuses
in force and queues the report, then 64 results in cell order (R71, R74, R76). CAL_RUN_RESUME ends the run at S + 81,920 and
clears stale only after a complete run (R75, R80). Nothing else changes. [spec/04_calibration.md] -/
def Obligations.CalibrationRunPhases : Prop :=
  ∀ (s : State) (t : Tick) (tl : Fin 32),
    let s1 := reachJ t s
    s1.j.inReset = false →
    let x := s1.j.tile tl
    (∀ d : DueRun, x.due = some d → x.run = none → s1.j.tileOn tl = true → (d.forced || !s1.j.held) = true →
      (∀ o < 32, o ≠ (tl : Nat) → (s1.j.tile o).due = none) → s1.j.runningTiles ≤ fld (s1.j.reg Reg.CAL_CTRL) 9 8 →
      s1.j.tick.toNat % 64 = 0 →
      CompletesJ (.calRunStart tl t) s s1 (fun j =>
        j = { s1.j with cells := j.cells, tiles := j.tiles, framers := (s1.j.modFramer (s1.j.linkOf tl) (fun f => { f with
          cal := f.cal ++ [⟨controlWord 0x05 (runStartPayload tl d.cause.toNat (x.seq + 1).toNat (s1.j.tick.toNat % 2 ^ 20)), tl, true⟩] })).framers } ∧
        j.tile tl = { x with due := none, run := some { s := s1.j.tick, cause := d.cause }, seq := x.seq + 1, cause := d.cause } ∧
        (∀ k, k ≠ (tl : Nat) → j.tile k = s1.j.tile k) ∧
        (∀ c : Nat, c / 64 ≠ (tl : Nat) ∨ (s1.j.cell c).conv = none → j.cell c = s1.j.cell c) ∧
        ∀ (c : Nat) (v : Conv), c / 64 = (tl : Nat) → (s1.j.cell c).conv = some v →
          j.cell c = if (∃ h, v.hit = some h ∧ later s1.j.tick h = true) then s1.j.cell c else { s1.j.cell c with conv := none, dead := false })) ∧
    (∀ r : Run, x.run = some r → r.phase = .started → notBefore s1.j.tick r.s = true →
      (∀ k < 64, (s1.j.cell (64 * tl + k)).conv = none) →
      CompletesJ (.calTakeRings tl t) s s1 (fun j => OnlyTile tl s1.j j ∧ j.tile tl = { x with run := some { r with phase := .rings } })) ∧
    (∀ r : Run, x.run = some r → r.phase = .rings → notBefore s1.j.tick (r.s + 1088) = true →
      CompletesJ (.calElementSelection tl t) s s1 (fun j =>
        j = { s1.j with cells := j.cells, tiles := j.tiles, draws := s1.j.draws + 1 } ∧
        j.tile tl = { x with run := some { r with phase := .selected } } ∧ (∀ k, k ≠ (tl : Nat) → j.tile k = s1.j.tile k) ∧
        ∀ c : Nat, j.cell c = if c / 64 = (tl : Nat) then { s1.j.cell c with newA := (j.cell c).newA, newB := (j.cell c).newB } else s1.j.cell c)) ∧
    (∀ (r : Run) (reading : BitVec 12), x.run = some r → r.phase = .selected → notBefore s1.j.tick (r.s + 57344) = true →
      CompletesJ (.calReferenceSample tl t reading) s s1 (fun j => OnlyTile tl s1.j j ∧
        (j.tile tl).sensorRef = reading ∧ (j.tile tl).sensorNow = reading ∧ (j.tile tl).run = some { r with phase := .final } ∧
        (j.tile tl).due = x.due ∧ (j.tile tl).stale = x.stale ∧ (j.tile tl).queue = x.queue)) ∧
    (∀ (r : Run) (counts : List (Nat × Nat)), x.run = some r → r.phase = .final → notBefore s1.j.tick (r.s + 73728) = true →
      let ca := fun k => cap 524287 (counts.getD k (0, 0)).1
      let cb := fun k => cap 524287 (counts.getD k (0, 0)).2
      let good := (List.range 64).all (fun k => calStatusOf (ca k) (cb k) == 0)
      let outcome := (if good then 0 else 1) + (if r.refused then 2 else 0)
      CompletesJ (.calRunComplete tl t counts) s s1 (fun j =>
        j = { s1.j with cells := j.cells, tiles := j.tiles, framers := (s1.j.modFramer (s1.j.linkOf tl) (fun f => { f with
          cal := f.cal ++ ⟨controlWord 0x05 (runReportPayload tl outcome x.seq.toNat (r.s.toNat % 2 ^ 20)), tl, false⟩ ::
            (List.range 64).map (fun k => ⟨controlWord 0x05 (cellResultPayload tl k (calStatusOf (ca k) (cb k)) (ca k) (cb k)), tl, false⟩) })).framers } ∧
        j.tile tl = { x with run := some { r with phase := .complete }, outcome := BitVec.ofNat 3 outcome, reported := true } ∧
        (∀ k, k ≠ (tl : Nat) → j.tile k = s1.j.tile k) ∧
        ∀ c : Nat, j.cell c = if c / 64 = (tl : Nat) then
          { s1.j.cell c with
            selA := (s1.j.cell c).newA, selB := (s1.j.cell c).newB
            calStatus := BitVec.ofNat 2 (calStatusOf (ca (c % 64)) (cb (c % 64))) }
          else s1.j.cell c)) ∧
    (∀ r : Run, x.run = some r → notBefore s1.j.tick (r.s + 81920) = true →
      CompletesJ (.calRunResume tl t) s s1 (fun j => OnlyTile tl s1.j j ∧
        j.tile tl = if r.phase = .complete then { x with run := none, cause := 0, stale := false, resumeAt := some s1.j.up }
          else { x with run := none, cause := 0 }))

/-- Entry of a record: admission below the limit, refusal spans, and the count of a tile that is not in data. RECORD_ENTRY
frees the cell's latch. The tile admits the record when its queue is shorter than the admission limit in force, and the
record joins the end of the queue as two words with even parity, word 1 holding the hit tick (R84, R89). Otherwise the
record is refused: it opens a refusal span, or joins the open one (R92), and in a tile with no uplink in data it counts in
TP_REFUSED alone (R96). REFUSAL_SPAN_CLOSE, 64 ticks after the last refusal or 1,024 after the span opened, reports the span
and counts its records in the tile's TP_REFUSED (R92). Nothing else changes. [spec/05_tile_path_governor.md] -/
def Obligations.RecordEntryAndSpans : Prop :=
  ∀ (s : State) (t : Tick),
    let s1 := reachJ t s
    s1.j.inReset = false →
    (∀ (c : Fin 2048) (r : LatchRec), (s1.j.cell c).latch = some r →
      let tl := (c : Nat) / 64
      let x := s1.j.tile tl
      let free := { s1.j.cell c with latch := none }
      ((x.queue.length < s1.j.limitNow tl →
        CompletesJ (.recordEntry c t) s s1 (fun j => j = { s1.j with cells := j.cells, tiles := j.tiles } ∧
          j.cell c = free ∧ (∀ k, k ≠ (c : Nat) → j.cell k = s1.j.cell k) ∧ (∀ k, k ≠ tl → j.tile k = s1.j.tile k) ∧
          ∃ q : QRec, j.tile tl = { x with queue := x.queue ++ [q] } ∧ q.tick = r.tick ∧
            q.p0 = parityOf q.w0 ∧ q.p1 = parityOf q.w1)) ∧
      (¬ x.queue.length < s1.j.limitNow tl → s1.j.tileInData tl = true →
        CompletesJ (.recordEntry c t) s s1 (fun j => j = { s1.j with cells := j.cells, tiles := j.tiles } ∧
          j.cell c = free ∧ (∀ k, k ≠ (c : Nat) → j.cell k = s1.j.cell k) ∧ (∀ k, k ≠ tl → j.tile k = s1.j.tile k) ∧
          (x.span = none → j.tile tl = { x with span := some ⟨s1.j.up, s1.j.up, [r.tick]⟩ }) ∧
          ∀ p, x.span = some p → j.tile tl = { x with span := some ⟨p.openAt, s1.j.up, p.hits ++ [r.tick]⟩ })) ∧
      (¬ x.queue.length < s1.j.limitNow tl → s1.j.tileInData tl = false →
        CompletesJ (.recordEntry c t) s s1 (fun j =>
          j = { s1.j with cells := j.cells, counters := j.counters, statuses := j.statuses } ∧
          j.cell c = free ∧ (∀ k, k ≠ (c : Nat) → j.cell k = s1.j.cell k) ∧
          j.ctr (Reg.TP_REFUSED tl) = ctrAdd (s1.j.ctr (Reg.TP_REFUSED tl)) 1 ∧ JCtrsBut [Reg.TP_REFUSED tl] s1.j j)))) ∧
    ∀ (tl : Fin 32) (p : Span), (s1.j.tile tl).span = some p → p.lastAt + 64 ≤ s1.j.up ∨ p.openAt + 1024 ≤ s1.j.up →
      CompletesJ (.refusalSpanClose tl t) s s1 (fun j =>
        j = { s1.j with tiles := j.tiles, counters := j.counters, framers := j.framers, statuses := j.statuses } ∧
        j.tile tl = { s1.j.tile tl with span := none } ∧ (∀ k, k ≠ (tl : Nat) → j.tile k = s1.j.tile k) ∧
        j.ctr (Reg.TP_REFUSED tl) = ctrAdd (s1.j.ctr (Reg.TP_REFUSED tl)) p.hits.length ∧
        JCtrsBut [Reg.TP_REFUSED tl] s1.j j)

/-- The admission limit keeps a full queue's wait, and the entry allowance, inside the 512-tick bound. For every pair of
ring counts, number of carried tiles and cap, the limit of R88 is at most 16 and at most the cap, is 0 where a ring has no
count, and L records of each of n tiles at s ticks each, with e ticks to enter and the 27 and 24 ticks that R88 sets aside,
are served within 512 ticks. GOVERNOR_RECOMPUTE, at a tick that is a multiple of 1,024, shifts the count of each ring that
has run a whole interval, and gives every tile that is on, has an uplink in data and two rings with a complete count that
limit from the lower of each ring's last two counts, and any other tile 0, from the next tick on; at any other tick, and to
anything but the limits and the counts, it does nothing (R87, R88).
[spec/05_tile_path_governor.md] -/
def Obligations.AdmissionLimitBound : Prop :=
  (∀ pt pm n gcap : Nat,
    let l := admissionLimit pt pm n gcap
    l ≤ 16 ∧ l ≤ gcap ∧ (pt = 0 ∨ pm = 0 → l = 0) ∧
    (l ≠ 0 → ∃ sv e : Nat, 2560 ≤ sv ∧ 36 * 1024 * 16384 ≤ sv * (15 * pm) ∧ 136 * 1024 * 16384 ≤ e * (15 * pt) ∧
      l * (n * sv) + e + 27 * 1024 + 24 * 1024 ≤ 512 * 1024)) ∧
  ∀ (s : State) (t : Tick) (tc mc : List Nat),
    let s1 := reachJ t s
    s1.j.inReset = false →
    let pt := fun k => (s1.j.tile k).pace.shift (s1.j.tileOn k && decide ((s1.j.tile k).onSince + 1024 ≤ s1.j.up)) (tc.getD k 0)
    let pm := fun u : Fin 2 => s1.j.merges[u].pace.shift (decide (1024 ≤ s1.j.up)) (mc.getD u 0)
    let gives := fun k => s1.j.tileInData k && s1.j.tileOn k && decide ((pt k).complete ≠ 0) &&
      decide ((pm (s1.j.linkOf k)).complete ≠ 0)
    (s1.j.tick.toNat % 1024 ≠ 0 → CompletesJ (.governorRecompute t tc mc) s s1 (fun j => j = s1.j)) ∧
    (s1.j.tick.toNat % 1024 = 0 →
      CompletesJ (.governorRecompute t tc mc) s s1 (fun j =>
        j = { s1.j with tiles := j.tiles, merges := j.merges } ∧
        (∀ u : Fin 2, j.merges[u] = { s1.j.merges[u] with pace := pm u }) ∧
        (∀ k, 32 ≤ k → j.tile k = s1.j.tile k) ∧
        ∀ k < 32, (j.tile k).pace = pt k ∧
          (j.tile k).limit = (if gives k then
            admissionLimit (pt k).lower (pm (s1.j.linkOf k)).lower (s1.j.carried k) (fld (s1.j.reg Reg.TP_GOV) 4 0) else 0) ∧
          (j.tile k).limit ≤ 16 ∧ (j.tile k).limit ≤ fld (s1.j.reg Reg.TP_GOV) 4 0 ∧ (j.tile k).limitAt = s1.j.up ∧
          j.tile k = { s1.j.tile k with
            pace := (j.tile k).pace, limit := (j.tile k).limit, limitAt := s1.j.up
            limitWas := if (s1.j.tile k).limitAt < s1.j.up then (s1.j.tile k).limit else (s1.j.tile k).limitWas }))

/-- The merge's parity check fails exactly where an odd number of the 65 stored bits are flipped. A queue word written with
its even parity (R84) and read with any set of flipped bits, bit 64 being the parity bit, fails the merge's check if and
only if the number of flips is odd (R94); the word read is the stored word with its own 64 flips.
[spec/05_tile_path_governor.md] -/
def Obligations.ParityCatchesOddErrors : Prop :=
  ∀ (w : W64) (flip : BitVec 65),
    (readWord w (parityOf w) flip).1 = w ^^^ flip.setWidth 64 ∧
    ((readWord w (parityOf w) flip).2 = true ↔ ((List.range 65).filter (fun i => flip.getLsbD i)).length % 2 = 1)

/-- A merge moves the oldest record of the next tile that has one, whole or in two services. Where the merge holds no
half-read record, MERGE_SERVICE takes the first tile after the last one served, in rising number and wrapping, that it
carries and whose queue is not empty (R86). A whole service removes the oldest record and hands it to the framer, as a hit
with both words as read when parity holds, and as poisoned when either word's parity fails (R94). A service cut after word 0
keeps the record in its queue, and the next service moves it. Nothing else changes. [spec/05_tile_path_governor.md] -/
def Obligations.MergeServesInTurn : Prop :=
  ∀ (s : State) (u : Fin 2) (t : Tick) (flip0 flip1 : BitVec 65),
    let s1 := reachJ t s
    s1.j.inReset = false →
    let m := s1.j.merges[u]
    (∀ (d : Nat) (q : QRec) (rest : List QRec), m.half = none → d < 32 →
      let tl := (m.lastTile + 1 + d) % 32
      (∀ k < d, s1.j.linkOf ((m.lastTile + 1 + k) % 32) ≠ u ∨ (s1.j.tile ((m.lastTile + 1 + k) % 32)).queue = []) →
      s1.j.linkOf tl = u → (s1.j.tile tl).queue = q :: rest →
      let w0 := (readWord q.w0 q.p0 flip0).1
      let bad0 := (readWord q.w0 q.p0 flip0).2
      let w1 := (readWord q.w1 q.p1 flip1).1
      let bad1 := (readWord q.w1 q.p1 flip1).2
      (CompletesJ (.mergeService u t flip0 flip1 false) s s1 (fun j =>
        j = { s1.j with tiles := j.tiles, merges := j.merges, framers := j.framers } ∧
        j.tile tl = { s1.j.tile tl with queue := rest } ∧ (∀ k, k ≠ tl → j.tile k = s1.j.tile k) ∧
        j.merges[u] = { m with lastTile := tl } ∧ (∀ v : Fin 2, v ≠ u → j.merges[v] = s1.j.merges[v]) ∧
        j.framers[u] = { s1.j.framers[u] with records := s1.j.framers[u].records ++
          [⟨if bad0 || bad1 then .poisoned else .hit, tl, w0, w1.setWidth 48, q.tick⟩] } ∧
        ∀ v : Fin 2, v ≠ u → j.framers[v] = s1.j.framers[v]) ∧
      CompletesJ (.mergeService u t flip0 flip1 true) s s1 (fun j => j = { s1.j with merges := j.merges } ∧
        j.merges[u] = { m with half := some ⟨tl, w0, bad0⟩ } ∧ ∀ v : Fin 2, v ≠ u → j.merges[v] = s1.j.merges[v]))) ∧
    ∀ (h : HalfRead) (q : QRec) (rest : List QRec) (part : Bool), m.half = some h → (s1.j.tile h.tile).queue = q :: rest →
      CompletesJ (.mergeService u t flip0 flip1 part) s s1 (fun j =>
        j = { s1.j with tiles := j.tiles, merges := j.merges, framers := j.framers } ∧
        j.tile h.tile = { s1.j.tile h.tile with queue := rest } ∧ (∀ k, k ≠ h.tile → j.tile k = s1.j.tile k) ∧
        j.merges[u] = { m with half := none, lastTile := h.tile } ∧
        j.framers[u] = { s1.j.framers[u] with records := s1.j.framers[u].records ++
          [⟨if h.bad || (readWord q.w1 q.p1 flip1).2 then .poisoned else .hit, h.tile, h.w0,
            (readWord q.w1 q.p1 flip1).1.setWidth 48, q.tick⟩] } ∧
        (∀ v : Fin 2, v ≠ u → j.merges[v] = s1.j.merges[v] ∧ j.framers[v] = s1.j.framers[v]))

/-- A word slot takes the first word that is ready; headers and horizons fall due at multiples of 4,096 and 64. On an uplink
in data an UPLINK_WORD_SLOT sends, in this order: the oldest echo reply, with its lag, on the uplink of its own downlink
alone; the frame header that is due, whose tick becomes the base; the horizon that is due; a control-share word where seven
slots have passed since the last; the oldest record, counted in TP_POISON where it is poisoned and in TP_OVERAGE where it is
over age; an idle word (R91, R94, R97 to R99). An uplink that has entered data sends its frame header first and the horizon
next (R99). The share gives a run-start word before other calibration words, though never before an earlier word of its tile
(R77), then register responses and dead-time reports, in turn where both wait, then status words, by the framer that R106
names (R97). Each word leaves as a scrambled data block (R103, R104). Nothing but what was sent, its marks and counts
changes. HORIZON_DUE and FRAME_HEADER_DUE mark both framers at their ticks (R98, R99). [spec/05_tile_path_governor.md,
spec/06_links.md, spec/04_calibration.md] -/
def Obligations.FramerSendsByPriority : Prop :=
  ∀ (s : State) (t : Tick),
    let s1 := reachJ t s
    s1.j.inReset = false →
    (∀ (u : Fin 2) (fs : Nat), s1.j.aggregated = true ∨ u = 0 → (∀ v ∈ s1.j.framerLinks u, s1.j.upState[v] = .data) →
      let f := s1.j.framers[u]
      let ends := CompletesJ (.uplinkWordSlot u t fs) s s1
      let leaves := fun (j : Jilek) (v : Fin 2) (w : W64) => j.upSent[v] = some w ∧
        j.upBlock[v] = some (lineBlock 1 (scramble s1.j.upScr[v] w)) ∧ j.upScr[v] = lineTail (scramble s1.j.upScr[v] w)
      let sent := fun (j : Jilek) (w : W64) => ∀ v ∈ s1.j.framerLinks u, leaves j v w
      let kept := fun (j : Jilek) (f' : Framer) => j.framers[u] = f' ∧ (∀ v : Fin 2, v ≠ u → j.framers[v] = s1.j.framers[v]) ∧
        ∀ v : Fin 2, v ∉ s1.j.framerLinks u →
          j.upSent[v] = s1.j.upSent[v] ∧ j.upBlock[v] = s1.j.upBlock[v] ∧ j.upScr[v] = s1.j.upScr[v]
      let rest := fun (j : Jilek) =>
        j = { s1.j with framers := j.framers, upSent := j.upSent, upBlock := j.upBlock, upScr := j.upScr }
      let gap := min 7 (f.sinceShare + 1)
      let quiet := f.entry = 0 ∧ f.echo = [] ∧ f.headerDue = none ∧ f.horizonDue = false
      let noShare := f.sinceShare < 7 ∨
        f.cal = [] ∧ f.deadTime = [] ∧ (s1.j.replyFramer = u → s1.j.responses = [] ∧ s1.j.statuses = [])
      (∀ (e : EchoDue) (l : List EchoDue), f.entry = 0 → f.echo = e :: l →
        ends (fun j => rest j ∧ kept j { f with echo := l, sinceShare := gap } ∧
          ∀ v ∈ s1.j.framerLinks u, leaves j v (if v = e.downlink then
            controlWord 0x04 (echoPayload e.tag.toNat e.downlink (s1.j.lagOf e fs)) else controlWord 0x00 0))) ∧
      (∀ b : Tick, f.entry = 2 ∨ f.entry = 0 ∧ f.echo = [] → f.headerDue = some b →
        ends (fun j => rest j ∧ sent j (controlWord 0x01 b.toNat) ∧
          kept j { f with headerDue := none, base := b, sinceShare := gap, entry := f.entry - 1 })) ∧
      (f.entry = 1 ∨ f.entry = 0 ∧ f.echo = [] ∧ f.headerDue = none → f.horizonDue = true →
        ends (fun j => rest j ∧ sent j (controlWord 0x02 (s1.j.horizon u).toNat) ∧
          kept j { f with horizonDue := false, lastH := some (s1.j.horizon u), sinceShare := gap, entry := f.entry - 1 })) ∧
      (quiet → f.sinceShare ≥ 7 →
        (∀ (a b : List CalWord) (c : CalWord), f.cal = a ++ c :: b →
          (c.start = true ∧ ∀ x ∈ a, x.start = false ∧ x.tile ≠ c.tile) ∨ (a = [] ∧ ∀ x ∈ c :: b, x.start = false) →
          ends (fun j => sent j c.word ∧ kept j { f with cal := a ++ b, sinceShare := 0 } ∧
            rest { j with tiles := s1.j.tiles } ∧ (c.start = false → j.tiles = s1.j.tiles) ∧
            (c.start = true → (∀ o, o ≠ c.tile → j.tile o = s1.j.tile o) ∧ j.tile c.tile = { s1.j.tile c.tile with
              run := (s1.j.tile c.tile).run.map (fun r => { r with startSent := true }) }))) ∧
        (∀ (w : W64) (l : List W64), f.cal = [] → s1.j.replyFramer = u → s1.j.responses = w :: l →
          f.deadTime = [] ∨ f.lastWasDeadTime = true →
          ends (fun j => rest { j with responses := s1.j.responses } ∧ j.responses = l ∧ sent j w ∧
            kept j { f with lastWasDeadTime := false, sinceShare := 0 })) ∧
        (∀ (w : W64) (l : List W64), f.cal = [] → f.deadTime = w :: l →
          s1.j.replyFramer ≠ u ∨ s1.j.responses = [] ∨ f.lastWasDeadTime = false →
          ends (fun j => rest j ∧ sent j w ∧ kept j { f with deadTime := l, lastWasDeadTime := true, sinceShare := 0 })) ∧
        (∀ (w : W64) (l : List W64), f.cal = [] → f.deadTime = [] → s1.j.replyFramer = u → s1.j.responses = [] →
          s1.j.statuses = w :: l →
          ends (fun j => rest { j with statuses := s1.j.statuses } ∧ j.statuses = l ∧ sent j w ∧
            kept j { f with sinceShare := 0 }))) ∧
      (∀ (r : FrRec) (l : List FrRec), quiet → noShare → f.records = r :: l →
        let out := fun (j : Jilek) => sent j (recordWord r f.base) ∧ kept j { f with records := l, sinceShare := gap }
        (r.kind = .terminator ∨ r.kind = .hit ∧ (tickDiff s1.j.tick r.tick < 509 ∨ later s1.j.tick r.tick = false) → ends (fun j => rest j ∧ out j)) ∧
        (r.kind = .hit → later s1.j.tick r.tick = true → 509 ≤ tickDiff s1.j.tick r.tick →
          (s1.j.ctr Reg.TP_OVERAGE).val + 1 < 2 ^ 48 - 1 →
          ends (fun j => out j ∧ rest { j with
              counters := s1.j.counters, statuses := s1.j.statuses, overageSeen := s1.j.overageSeen } ∧
            j.ctr Reg.TP_OVERAGE = ctrAdd (s1.j.ctr Reg.TP_OVERAGE) 1 ∧ JCtrsBut [Reg.TP_OVERAGE] s1.j j ∧
            j.overageSeen = true ∧ j.statuses = if s1.j.overageSeen then s1.j.statuses
              else (s1.j.status 0x04 r.tile (r.tick.toNat % 2 ^ 32)).statuses)) ∧
        (r.kind = .poisoned → (s1.j.ctr Reg.TP_POISON).val + 1 < 2 ^ 48 - 1 →
          ends (fun j => out j ∧ rest { j with counters := s1.j.counters } ∧
            j.ctr Reg.TP_POISON = ctrAdd (s1.j.ctr Reg.TP_POISON) 1 ∧ JCtrsBut [Reg.TP_POISON] s1.j j))) ∧
      (quiet → noShare → f.records = [] →
        ends (fun j => rest j ∧ sent j (controlWord 0x00 0) ∧ kept j { f with sinceShare := gap }))) ∧
    (s1.j.tick.toNat % 64 = 0 → CompletesJ (.horizonDue t) s s1 (fun j => j = { s1.j with framers := j.framers } ∧
      ∀ u : Fin 2, j.framers[u] = { s1.j.framers[u] with horizonDue := true })) ∧
    (s1.j.tick.toNat % 4096 = 0 → CompletesJ (.frameHeaderDue t) s s1 (fun j => j = { s1.j with framers := j.framers } ∧
      ∀ u : Fin 2, j.framers[u] = { s1.j.framers[u] with headerDue := some s1.j.tick }))

/-- FLUSH, TP_FLUSH and RESET_TILE act on the named tiles alone; mode writes and the counter clear of the tile-path page.
FLUSH by the owner, and a write of TP_FLUSH, empty the queues of the named tiles and no others, and change no cell, register
or counter but TP_FLUSHED (R95). RESET_TILE also discards the latches and conversions of the named tiles' cells, puts 0x040
in their entries, frees stuck cells, clears FE_PILEUP (R44, R96); cells and queues of other tiles stay. TP_CTRL.mode and
TP_LINK_MAP take a write while no uplink is in data, and are kept with status 0x05 while one is and the value differs (R85).
TP_CTRL.count_clear clears TP_POISON, TP_OVERAGE, TP_FLUSHED and every TP_REFUSED and nothing else (R102). A sender that is
not the owner has FLUSH and RESET_TILE ignored and counted in LK_IGNORED (R24, R109). [spec/05_tile_path_governor.md,
spec/02_cell_front_end.md, spec/04_calibration.md, spec/00_scope.md] -/
def Obligations.FlushAndResetTiles : Prop :=
  ∀ (s : State) (d : Fin 2) (t : Tick) (mask : BitVec 32),
    let s1 := reachJ t s
    s1.j.inReset = false →
    let flushed := fun (a j : Jilek) => (∀ k < 32, (j.tile k).queue = if mask.getLsbD k then [] else (a.tile k).queue) ∧
      j.cells = a.cells ∧ j.regs = a.regs ∧ JCtrsBut [Reg.TP_FLUSHED] a j ∧
      j = { a with tiles := j.tiles, merges := j.merges, framers := j.framers, counters := j.counters, statuses := j.statuses } ∧
      ∀ k < 32, j.tile k = { a.tile k with queue := (j.tile k).queue }
    (OwnedBy d s1.j → CompletesJ (.flush d t mask) s s1 (flushed s1.j)) ∧
    (s.j.inReset = false → CompletesJ (.tpFlushWrite mask) s s (flushed s.j)) ∧
    (OwnedBy d s1.j → CompletesJ (.resetTile d t mask) s s1 (fun j =>
      (∀ k < 32, (j.tile k).queue = if mask.getLsbD k then [] else (s1.j.tile k).queue) ∧
      (∀ k < 32, mask.getLsbD k = false → j.tile k = s1.j.tile k) ∧
      (∀ c < 2048, mask.getLsbD (c / 64) = false → j.cell c = s1.j.cell c) ∧
      (∀ c < 2048, mask.getLsbD (c / 64) = true → j.cell c = { s1.j.cell c with
        latch := none, conv := none, pend := (s1.j.cell c).pend && (s1.j.cell c).conv.isNone, entry := 0x040, stuck := false
        settle := if entFeOff (s1.j.cell c).entry then some s1.j.up else (s1.j.cell c).settle
        trimWas := if entTrim (s1.j.cell c).entry = 0 then (s1.j.cell c).trimWas else entTrim (s1.j.cell c).entry
        trimAt := if entTrim (s1.j.cell c).entry = 0 then (s1.j.cell c).trimAt else some s1.j.up }) ∧
      (∀ k < 32, mask.getLsbD k = true → j.ctr (Reg.FE_PILEUP k) = {} ∧ (j.tile k).span = none) ∧
      j = { s1.j with
        cells := j.cells, tiles := j.tiles, merges := j.merges, framers := j.framers, counters := j.counters
        statuses := j.statuses })) ∧
    (¬ OwnedBy d s1.j →
      CompletesJ (.flush d t mask) s s1 (fun j => j = s1.j.expireLease.count Reg.LK_IGNORED 1) ∧
      CompletesJ (.resetTile d t mask) s s1 (fun j => j = s1.j.expireLease.count Reg.LK_IGNORED 1)) ∧
    (∀ v : Word,
      (s1.j.anyData = false → v.getLsbD 1 = false →
        CompletesJ (.tpModeWrite false v t) s s1 (fun j => j = s1.j.setReg Reg.TP_CTRL (v &&& 1)) ∧
        CompletesJ (.tpModeWrite true v t) s s1 (fun j => j = s1.j.setReg Reg.TP_LINK_MAP v)) ∧
      (s1.j.anyData = true → v ≠ s1.j.reg Reg.TP_LINK_MAP →
        CompletesJ (.tpModeWrite true v t) s s1 (fun j => j = s1.j.status 0x05 0 v.toNat)) ∧
      (s1.j.anyData = true → v &&& 1 ≠ s1.j.reg Reg.TP_CTRL → v.getLsbD 1 = false →
        CompletesJ (.tpModeWrite false v t) s s1 (fun j => j = s1.j.status 0x05 0 v.toNat))) ∧
    (s.j.inReset = false → CompletesJ .tpCountClear s s (fun j => j = { s.j with counters := j.counters, overageSeen := false } ∧
      j.ctr Reg.TP_POISON = {} ∧ j.ctr Reg.TP_OVERAGE = {} ∧ j.ctr Reg.TP_FLUSHED = {} ∧ (∀ k < 32, j.ctr (Reg.TP_REFUSED k) = {}) ∧
      ∀ a, a ∉ [Reg.TP_POISON, Reg.TP_OVERAGE, Reg.TP_FLUSHED] → (∀ k < 32, a ≠ Reg.TP_REFUSED k) → j.ctr a = s.j.ctr a))

/-- The lease: claim, renew, release and expiry, for no owner, the sender and the other downlink. With no owner a claim
makes its sender the owner with expiry 8,192 ticks on and status 0x07 outcome 0; from the owner, claim and renew set the
expiry alone; from the other downlink both queue outcome 3 and change nothing else. A renew with no owner queues outcome 4.
A release by the owner ends the lease with outcome 2; any other release counts in LK_IGNORED. At the expiry tick the lease
ends with outcome 5, before the next command is looked at; before it LEASE_EXPIRY changes nothing (R118). A new owner's
downlink that is not the tick source waits for its next frame start, and becomes the source there where it has frame lock
and a valid phase (R114). [spec/06_links.md] -/
def Obligations.LeaseTable : Prop :=
  ∀ (s : State) (d : Fin 2) (t : Tick) (id : BitVec 16),
    let s1 := reachJ t s
    s1.j.inReset = false →
    let j := s1.j
    (j.lease = none →
      CompletesJ (.leaseClaim d t id) s s1 (fun j' =>
        j' = { j with
          lease := some ⟨d, id, j.tick + 8192⟩
          statuses := (j.status 0x07 0 (pack [(16, id.toNat), (2, d + 1), (14, 0)])).statuses
          srcNext := if j.src = some d ∧ j.holdover = false then none else some (d, j.nextFrameStart d) } ∧
        (∀ (a : Jilek) (m : Nat), a.srcNext = some (d, m) → a.lease = j'.lease → a.locked d = true → a.phaseValid d = true →
          a.src ≠ some d → a.takeOwnerSource = { a with srcNext := none }.takeSource d)) ∧
      CompletesJ (.leaseRenew d t) s s1 (fun j' => j' = j.status 0x07 4 0) ∧
      CompletesJ (.leaseRelease d t) s s1 (fun j' => j' = j.count Reg.LK_IGNORED 1) ∧
      CompletesJ (.leaseExpiry t) s s1 (fun j' => j' = j)) ∧
    (∀ l : Lease, j.lease = some l → notBefore j.tick l.expiry = false → l.owner = d →
      CompletesJ (.leaseClaim d t id) s s1 (fun j' => j' = { j with lease := some { l with expiry := j.tick + 8192 } }) ∧
      CompletesJ (.leaseRenew d t) s s1 (fun j' => j' = { j with lease := some { l with expiry := j.tick + 8192 } }) ∧
      CompletesJ (.leaseRelease d t) s s1 (fun j' => j' = { j with lease := none }.status 0x07 2 0) ∧
      CompletesJ (.leaseExpiry t) s s1 (fun j' => j' = j)) ∧
    (∀ l : Lease, j.lease = some l → notBefore j.tick l.expiry = false → l.owner ≠ d →
      CompletesJ (.leaseClaim d t id) s s1 (fun j' => j' = j.status 0x07 3 (pack [(16, l.id.toNat), (2, l.owner + 1), (14, 0)])) ∧
      CompletesJ (.leaseRenew d t) s s1 (fun j' => j' = j.status 0x07 3 (pack [(16, l.id.toNat), (2, l.owner + 1), (14, 0)])) ∧
      CompletesJ (.leaseRelease d t) s s1 (fun j' => j' = j.count Reg.LK_IGNORED 1)) ∧
    (∀ l : Lease, j.lease = some l → notBefore j.tick l.expiry = true →
      let ended := { j with lease := none }.status 0x07 5 0
      CompletesJ (.leaseExpiry t) s s1 (fun j' => j' = ended) ∧
      CompletesJ (.leaseRenew d t) s s1 (fun j' => j' = ended.status 0x07 4 0) ∧
      CompletesJ (.leaseRelease d t) s s1 (fun j' => j' = ended.count Reg.LK_IGNORED 1))

/-- NOP, TICK_SYNC, TEST_PULSE, ECHO, phase writes, counter clear and eye scans at a Jilek. NOP changes nothing (R109).
TICK_SYNC by the owner, with no uplink in data, sets the tick, and the lease's expiry moves with it; with one in data it
leaves the count as it is, and queues status 0x08 when the count differs (R115). TEST_PULSE by the owner holds a tick at least 16 ahead in one of four places;
with the places full, or too late, it is ignored, counted, and reported (R109). ECHO queues one reply, and a second within
1,024 ticks is ignored and counted (R97, R109, R116). A write of LK_PHASE puts code and whole in force with valid set, and
the edges of the tick source move with the code; while an uplink is in data whole stays, with status 0x09 where it differs
(R114, R115, R120). LK_CTRL.count_clear clears the three counters (R120). An eye scan at a Jilek receiver clears done, and 2^21 ticks
later sets it with the errors, at most 4,095 (R119). Commands that only the owner may give are ignored and counted from any
other downlink (R24). [spec/06_links.md, spec/01_hit_journey.md] -/
def Obligations.LinkCommandsAtTheJilek : Prop :=
  ∀ (s : State) (d : Fin 2) (t : Tick),
    let s1 := reachJ t s
    s1.j.inReset = false →
    let j := s1.j
    let mine := OwnedBy d j
    CompletesJ (.nop t) s s1 (fun j' => j' = j) ∧
    (mine → ∀ t0 : Tick,
      let want := t0 + BitVec.ofNat 48 (fld (j.reg (Reg.LK_PHASE d)) 20 11)
      (j.anyData = false → ∃ s', exec (.tickSync d t t0) s = .next s' ∧ s'.b = s1.b ∧ s'.pending = s1.pending ∧
        s'.j.tick = want + 17 ∧ s'.j.tickSet = true ∧ s'.j.injections = [] ∧ s'.j.cells = j.cells ∧ s'.j.regs = j.regs ∧
        s'.j.counters = j.counters ∧ s'.j.up = j.up ∧
        s'.j.lease = j.lease.map (fun l => { l with expiry := l.expiry + (want + 17 - j.tick) })) ∧
      (j.anyData = true → j.tick = want + 17 → CompletesJ (.tickSync d t t0) s s1 (fun j' => j' = j)) ∧
      (j.anyData = true → j.tick ≠ want + 17 →
        CompletesJ (.tickSync d t t0) s s1 (fun j' => ∃ w, j' = j.status 0x08 0 w))) ∧
    (mine → j.tickSet = true → ∀ n : Tick, notBefore n (j.tick + 16) = true → n ∉ j.injections →
      (j.injections.length < 4 →
        CompletesJ (.testPulse d t n) s s1 (fun j' => j' = { j with injections := j.injections ++ [n] })) ∧
      (4 ≤ j.injections.length →
        CompletesJ (.testPulse d t n) s s1 (fun j' => j' = (j.count Reg.LK_IGNORED 1).status 0x0D 0 (n.toNat % 2 ^ 32)))) ∧
    (mine → j.tickSet = true → ∀ n : Tick, notBefore n (j.tick + 16) = false →
      CompletesJ (.testPulse d t n) s s1 (fun j' => j' = (j.count Reg.LK_IGNORED 1).status 0x0C 0x4 (n.toNat % 2 ^ 32))) ∧
    (¬ mine → ∀ n : Tick,
      CompletesJ (.tickSync d t n) s s1 (fun j' => j' = j.expireLease.count Reg.LK_IGNORED 1) ∧
      CompletesJ (.testPulse d t n) s s1 (fun j' => j' = j.expireLease.count Reg.LK_IGNORED 1)) ∧
    (∀ tag : BitVec 8,
      (j.downlinks[d].lastEcho = none ∨ (∃ u, j.downlinks[d].lastEcho = some u ∧ u + 1024 ≤ j.up) →
        CompletesJ (.echo d t tag) s s1 (fun j' => j' = { j with downlinks := j'.downlinks, framers := j'.framers } ∧
          j'.downlinks[d] = { j.downlinks[d] with lastEcho := some j.up } ∧
          (∀ e : Fin 2, e ≠ d → j'.downlinks[e] = j.downlinks[e]) ∧
          ∀ f : Fin 2, j'.framers[f] = if f = (if j.aggregated then d else 0) then
            { j.framers[f] with echo := j.framers[f].echo ++ [⟨d, tag, j.recoveredStart d⟩] } else j.framers[f])) ∧
      (∀ u, j.downlinks[d].lastEcho = some u → j.up < u + 1024 →
        CompletesJ (.echo d t tag) s s1 (fun j' => j' = j.count Reg.LK_IGNORED 1))) ∧
    (∀ v : Word, j.holdover = false →
      let old := fld (j.reg (Reg.LK_PHASE d)) 20 11
      let keep := j.anyData && decide (fld v 20 11 ≠ old)
      CompletesJ (.lkPhaseWrite d v t) s s1 (fun j' =>
        j' = { j with
          regs := j'.regs
          slew := if j.src = some d then j.slew + j'.phaseCode d - j.phaseCode d else j.slew
          statuses := if keep then (j.status 0x09 d v.toNat).statuses else j.statuses } ∧
        JRegsBut [Reg.LK_PHASE d] j j' ∧ fld (j'.reg (Reg.LK_PHASE d)) 10 0 = fld v 10 0 ∧
        fld (j'.reg (Reg.LK_PHASE d)) 20 11 = (if keep then old else fld v 20 11) ∧
        bit (j'.reg (Reg.LK_PHASE d)).toNat 31 = true)) ∧
    (s.j.inReset = false → CompletesJ .lkCountClear s s (fun j' => j' = { s.j with counters := j'.counters } ∧
      j'.ctr Reg.LK_IGNORED = {} ∧ j'.ctr (Reg.LK_CRC 0) = {} ∧ j'.ctr (Reg.LK_CRC 1) = {} ∧
      JCtrsBut [Reg.LK_IGNORED, Reg.LK_CRC 0, Reg.LK_CRC 1] s.j j'))

/-- Eye scans of a Jilek receiver and of a port start, run for 2^24 bits, and report at most 4,095 errors. EYE_SCAN_START
clears done and starts the scan of the named receiver. EYE_SCAN_DONE, 2^24 bits later (2^21 ticks at a Jilek receiver of 8
bits a tick, 2^19 at a port of 32), sets done and the errors counted, saturated at 4,095, in the receiver's eye register. No
other register, receiver or port changes (R119). [spec/06_links.md] -/
def Obligations.EyeScans : Prop :=
  ∀ (s : State) (t : Tick) (i : Fin 128) (n : Nat),
    (s.j.inReset = false →
      let d : Fin 2 := Fin.ofNat 2 i
      let r := Reg.LK_EYE d
      CompletesJ (.eyeScanStart true i) s s (fun j => j = { s.j with downlinks := j.downlinks, regs := j.regs } ∧
        j.downlinks[d] = { s.j.downlinks[d] with eye := some s.j.up } ∧ JRegsBut [r] s.j j ∧
        bit (j.reg r).toNat 30 = false ∧ ∀ k < 30, bit (j.reg r).toNat k = bit (s.j.reg r).toNat k) ∧
      let s1 := reachJ t s
      ∀ u, s1.j.downlinks[d].eye = some u → u + 2 ^ 21 ≤ s1.j.up →
        CompletesJ (.eyeScanDone true i n t) s s1 (fun j => j = { s1.j with downlinks := j.downlinks, regs := j.regs } ∧
          j.downlinks[d] = { s1.j.downlinks[d] with eye := none } ∧ JRegsBut [r] s1.j j ∧
          bit (j.reg r).toNat 30 = true ∧ fld (j.reg r) 11 0 = min 4095 n)) ∧
    let r := Reg.QD_EYE i
    CompletesB (.eyeScanStart false i) s s (fun b => b = { s.b with ports := b.ports, regs := b.regs } ∧
      b.port i = { s.b.port i with eye := some s.b.up } ∧ (∀ k, k ≠ (i : Nat) → b.port k = s.b.port k) ∧
      BRegsBut [r] s.b b ∧ bit (b.reg r).toNat 30 = false ∧ ∀ k < 30, bit (b.reg r).toNat k = bit (s.b.reg r).toNat k) ∧
    let s1 := reachB t s
    ∀ u, (s1.b.port i).eye = some u → u + 2 ^ 19 ≤ s1.b.up →
      CompletesB (.eyeScanDone false i n t) s s1 (fun b => b = { s1.b with ports := b.ports, regs := b.regs } ∧
        b.port i = { s1.b.port i with eye := none } ∧ (∀ k, k ≠ (i : Nat) → b.port k = s1.b.port k) ∧
        BRegsBut [r] s1.b b ∧ bit (b.reg r).toNat 30 = true ∧ fld (b.reg r) 11 0 = min 4095 n)

/-- A downlink frame with a bad sync or CRC gives no command; frame lock needs eight good frames and ends as R108 says; the
command of a good frame waits two ticks. With its receiver off, DOWNLINK_FRAME_RECEIVED does nothing. With it on, a frame
whose CRC fails counts in LK_CRC of its downlink, whatever its sync (R108). A bad frame, or a good one before the eighth in
a row, on an unlocked downlink changes nothing else but the receiver's own counts. The eighth gives lock (R108). In lock a
bad frame changes nothing else below 4 wrong syncs in a row and 16 CRC failures in 64 frames, and ends the lock from there
on; a good frame with a wrong phase bit ends it too (R108). The command of a good frame in lock acts at the processing tick,
two ticks after its last bit, and not before (R109). The frame comes as it stands on the line, scrambled (R107).
[spec/06_links.md] -/
def Obligations.FramesOnADownlink : Prop :=
  (∀ (s : State) (d : Fin 2) (t : Tick) (line : BitVec 128),
    let s1 := reachJ t s
    s1.j.inReset = false →
    let f := scrambleFrame line
    let x := s1.j.downlinks[d]
    let on := bit (s1.j.reg Reg.JPW_LINK_ON).toNat (2 + d) = true
    let sync := decide (fld f 127 126 = 2)
    let crc := frameCrcOk f
    let y : Downlink := { x with
      goodRun := if sync && crc then x.goodRun + 1 else 0
      badSyncRun := if sync then 0 else x.badSyncRun + 1
      crcWindow := ((!crc) :: x.crcWindow).take 64
      readyRun := if !(sync && crc) then x.readyRun else if f.getLsbD 125 then x.readyRun + 1 else 0
      notReadyRun := if !(sync && crc) then x.notReadyRun else if f.getLsbD 125 then 0 else x.notReadyRun + 1
      lastEnd := some s1.j.up }
    let seen := s1.j.modDown d (fun _ => y)
    let counted := if crc then seen else seen.count (Reg.LK_CRC d) 1
    let broken := 4 ≤ y.badSyncRun ∨ 16 ≤ y.crcWindow.countP id
    (bit (s1.j.reg Reg.JPW_LINK_ON).toNat (2 + d) = false → CompletesJ (.downlinkFrameReceived d t line) s s1 (fun j => j = s1.j)) ∧
    (on → x.lock = false → (sync && crc) = false ∨ y.goodRun < 8 →
      CompletesJ (.downlinkFrameReceived d t line) s s1 (fun j => j = counted)) ∧
    (on → x.lock = false → (sync && crc) = true → 8 ≤ y.goodRun → s1.j.tickSet = false →
      CompletesJ (.downlinkFrameReceived d t line) s s1 (fun j => (j.downlinks[d]).lock = true ∧ JCtrsBut [Reg.TP_FLUSHED] s1.j j ∧
        j.regs = s1.j.regs ∧ j.cells = s1.j.cells ∧ j.due = s1.j.due ++ [⟨s1.j.up + 2, d, f⟩])) ∧
    (on → x.lock = true → ¬ broken → (sync && crc) = false →
      CompletesJ (.downlinkFrameReceived d t line) s s1 (fun j => j = counted)) ∧
    (on → x.lock = true → broken → CompletesJ (.downlinkFrameReceived d t line) s s1 (fun j =>
      (j.downlinks[d]).lock = false ∧ j.due = s1.j.due ∧ j.regs = s1.j.regs ∧ j.cells = s1.j.cells)) ∧
    (on → x.lock = true → ¬ broken → (sync && crc) = true → s1.j.phaseOk d (f.getLsbD 124) = false →
      CompletesJ (.downlinkFrameReceived d t line) s s1 (fun j =>
        (j.downlinks[d]).lock = false ∧ j.due = s1.j.due ∧ j.regs = s1.j.regs ∧ j.cells = s1.j.cells)) ∧
    (on → x.lock = true → ¬ broken → (sync && crc) = true → s1.j.phaseOk d (f.getLsbD 124) = true →
      CompletesJ (.downlinkFrameReceived d t line) s s1 (fun j =>
        j = { seen.moveUplinks with due := s1.j.due ++ [⟨s1.j.up + 2, d, f⟩] }))) ∧
  ∀ (j : Jilek) (e : DueFrame), j.due = [e] →
    (j.up < e.at' → j.actOn e.downlink = j) ∧
    (e.at' = j.up + 2 → j.srcNext = none → j.advance 1 = j.tickOn 1) ∧
    (e.at' ≤ j.up → j.actOn e.downlink = { j with due := [] }.frameCommand e.downlink e.frame ∧
      ((j.downlinks[e.downlink]).lock = true → j.actOn e.downlink = { j with due := [] }.fastCommand e.downlink
        (fld e.frame 123 120) (fld e.frame 119 112) (fld e.frame 111 16)))

/-- Accesses to the cell data registers, counter reads, and the register accesses of the Jilek's owner. FE_CELL_DATA_ACCESS
of the owner through FE_CELL_DATA reads the newest entry and the stuck bit of the indexed cell, or stages entry bits [9:0]
at the current moment, and FE_CELL_INDEX then advances by one, modulo 2,048 (R44). CAL_CELL_DATA gives the masks and status of its cell and
CAL_CELL_INDEX advances (R81). A read of a counter's _LO returns its low word and latches value and sat for the _HI of that
downlink alone (R110). A CONFIG access of the owner is carried out and answered by one register response: result 1 and data
0 where no register stands, 2 where the write changes nothing (R106, R110). A staged register takes the value and the
moment (R9). From any other downlink an access is ignored and counted (R24). [spec/02_cell_front_end.md, spec/06_links.md,
spec/04_calibration.md, spec/00_scope.md] -/
def Obligations.JilekRegisterAccess : Prop :=
  ∀ (s : State) (d : Fin 2) (t : Tick) (tag : BitVec 8) (addr : BitVec 16) (v : Word),
    let s1 := reachJ t s
    s1.j.inReset = false →
    let j := s1.j
    let fe := fld (j.reg Reg.FE_CELL_INDEX) 10 0
    let ce := fld (j.reg Reg.CAL_CELL_INDEX) 10 0
    let answer := fun (result : Nat) (data : Word) (a : Jilek) =>
      { a with responses := a.responses ++ [controlWord 0x03 (responsePayload tag.toNat result data.toNat)] }
    let mine := OwnedBy d j
    (mine → CompletesJ (.feCellDataAccess d false none t) s s1 (fun j' => j' = { j with regs := j'.regs, lastRead := j'.lastRead } ∧
      JRegsBut [Reg.FE_CELL_INDEX] j j' ∧ (j'.reg Reg.FE_CELL_INDEX).toNat = (fe + 1) % 2048 ∧
      bit j'.lastRead.toNat 12 = (j.cell fe).stuck ∧
      (fget none j.staged (cellKey fe) = none → fget none j.taken (cellKey fe) = none →
        fld j'.lastRead 9 0 = (j.cell fe).entry.toNat)) ∧
    CompletesJ (.feCellDataAccess d false (some v) t) s s1 (fun j' =>
      j' = { j with regs := j'.regs, lastRead := j'.lastRead, staged := j'.staged } ∧
      JRegsBut [Reg.FE_CELL_INDEX] j j' ∧ (j'.reg Reg.FE_CELL_INDEX).toNat = (fe + 1) % 2048 ∧
      (fget none j'.staged (cellKey fe)).map (fun x => (x.val, x.moment)) = some (v &&& 0x3FF, j.up) ∧
      (∀ k, k ≠ cellKey fe → fget none j'.staged k = fget none j.staged k) ∧ fld j'.lastRead 9 0 = fld v 9 0) ∧
    CompletesJ (.feCellDataAccess d true none t) s s1 (fun j' => j' = { j with regs := j'.regs, lastRead := j'.lastRead } ∧
      JRegsBut [Reg.CAL_CELL_INDEX] j j' ∧ (j'.reg Reg.CAL_CELL_INDEX).toNat = (ce + 1) % 2048 ∧
      fld j'.lastRead 13 0 = (j.cell ce).selA.toNat ∧ fld j'.lastRead 27 14 = (j.cell ce).selB.toNat ∧
      fld j'.lastRead 29 28 = (j.cell ce).calStatus.toNat)) ∧
    (s.j.inReset = false → OwnedBy d s.j → ∀ a ∈ [Reg.VN_OVERRUN, Reg.TP_POISON, Reg.TP_OVERAGE, Reg.TP_FLUSHED, Reg.LK_IGNORED, Reg.LK_CRC 0, Reg.LK_CRC 1],
      CompletesJ (.jilekCounterLoRead d (BitVec.ofNat 16 a)) s s (fun j' =>
        j' = { s.j with latches := j'.latches, lastRead := BitVec.ofNat 32 (s.j.ctr a).val } ∧
        fget 0 j'.latches (latchKey d (a + 4)) =
          BitVec.ofNat 32 ((s.j.ctr a).val / 2 ^ 32 % 2 ^ 16 + (if (s.j.ctr a).sat then 2 ^ 31 else 0)) ∧
        ∀ k, k ≠ latchKey d (a + 4) → fget 0 j'.latches k = fget 0 s.j.latches k)) ∧
    (mine →
      (jilekRow addr.toNat = none →
        CompletesJ (.configRead d t tag addr) s s1 (fun j' => j' = answer 1 0 { j with lastRead := 0 }) ∧
        CompletesJ (.configWrite d t tag addr v) s s1 (fun j' => j' = answer 1 0 { j with lastRead := 0 })) ∧
      (addr.toNat ∈ [Reg.TP_GOV, Reg.CAL_CTRL, Reg.TP_LINK_MAP, Reg.JPW_TILE_ON] →
        fget none j.staged addr.toNat = none → fget none j.taken addr.toNat = none →
        CompletesJ (.configRead d t tag addr) s s1 (fun j' =>
          j' = answer 0 (j.reg addr.toNat) { j with lastRead := j.reg addr.toNat })) ∧
      (addr.toNat ∈ [Reg.LK_STATE, Reg.CM_STATE, Reg.JPW_STATUS, Reg.JID_STATUS, Reg.FE_STUCK_COUNT] →
        CompletesJ (.configWrite d t tag addr v) s s1 (fun j' => ∃ w : Word,
          j' = answer 2 w { j with lastRead := w })) ∧
      (addr.toNat = Reg.FE_TP_CHARGE →
        CompletesJ (.configWrite d t tag addr v) s s1 (fun j' =>
          j' = answer 0 (v &&& 0x3FF) { j with staged := j'.staged, lastRead := v &&& 0x3FF } ∧
          (fget none j'.staged addr.toNat).map (fun x => (x.val, x.moment)) = some (v &&& 0x3FF, j.up)))) ∧
    (¬ mine →
      CompletesJ (.configWrite d t tag addr v) s s1 (fun j' => j' = j.expireLease.count Reg.LK_IGNORED 1) ∧
      CompletesJ (.configRead d t tag addr) s s1 (fun j' => j' = j.expireLease.count Reg.LK_IGNORED 1) ∧
      ∀ (table : Bool) (w : Option Word),
        CompletesJ (.feCellDataAccess d table w t) s s1 (fun j' => j' = j.expireLease.count Reg.LK_IGNORED 1))

/-- COMMIT takes the staged values; at the switch tick they, and the epoch, come into force together. COMMIT by the owner
with the tick set and no commit pending takes every value staged before its processing tick, to switch at the target, or at
once with late set when the target has passed; what was staged in that tick itself stays staged (R338). A repeat of the epoch in force queues status 0x06 again and counts as
ignored; with a commit pending a COMMIT is ignored and counted (R338, R339). At the switch tick JILEK_SWITCH puts every
taken register value in force, and every taken entry of a tile that is on, and no other; the epoch becomes the commit's, and
status 0x06 is queued (R338, R339). [spec/18_configuration_commit.md, spec/01_hit_journey.md] -/
def Obligations.CommitAtTheJilek : Prop :=
  ∀ (s : State) (d : Fin 2) (t : Tick) (n : BitVec 4) (target : Tick),
    let s1 := reachJ t s
    s1.j.inReset = false →
    let j := s1.j
    let mine := OwnedBy d j
    (mine → j.tickSet = true → (j.switched && n == j.epoch) = false → j.commit = none →
      FMapWf none j.staged →
      CompletesJ (.commit d t n target) s s1 (fun j' =>
        j' = { j with commit := j'.commit, staged := j'.staged, taken := j'.taken } ∧
        (∀ k, fget none j'.taken k = (fget none j.staged k).bind (fun x => if x.moment = j.up then x.prior else some x.val)) ∧
        (∀ k, fget none j'.staged k =
          (fget none j.staged k).bind (fun x => if x.moment = j.up then some { x with prior := none } else none)) ∧
        j'.commit = some ⟨n, target, if later j.tick target then j.tick else target, later j.tick target⟩)) ∧
    (mine → j.tickSet = true → j.switched = true → n = j.epoch →
      CompletesJ (.commit d t n target) s s1 (fun j' => j' = (j.count Reg.LK_IGNORED 1).status 0x06
        (pack [(4, j.epoch.toNat), (1, b2n j.switchedLate), (3, 0)]) (j.lastSwitch.toNat % 2 ^ 32))) ∧
    (mine → j.tickSet = true → (j.switched && n == j.epoch) = false → j.commit ≠ none →
      CompletesJ (.commit d t n target) s s1 (fun j' => j' = j.count Reg.LK_IGNORED 1)) ∧
    (¬ mine → CompletesJ (.commit d t n target) s s1 (fun j' => j' = j.expireLease.count Reg.LK_IGNORED 1)) ∧
    ∀ c : JCommit, j.commit = some c → notBefore j.tick c.switchAt = true → FMapWf none j.taken →
      (∀ e ∈ j.taken, e.1 < 0x10000 → e.1 ≠ Reg.JPW_TILE_ON) → (∀ e ∈ j.taken, e.1 < 0x10000 + 2048) →
      CompletesJ (.jilekSwitch t) s s1 (fun j' =>
        j' = { j with
          cells := j'.cells, regs := j'.regs, commit := none, taken := [], epoch := c.epoch
          thrWas := j'.thrWas, thrAt := j'.thrAt
          statuses := (j.status 0x06 (pack [(4, c.epoch.toNat), (1, b2n c.late), (3, 0)]) (c.switchAt.toNat % 2 ^ 32)).statuses
          switched := true, switchedLate := c.late, lastSwitch := c.switchAt, lastTarget := c.target } ∧
        (∀ a < 0x10000, j'.reg a = (fget none j.taken a).getD (j.reg a)) ∧
        ∀ k < 2048, (j'.cell k).entry =
          if j.tileOn (k / 64) then ((fget none j.taken (cellKey k)).map (BitVec.setWidth 10)).getD (j.cell k).entry
          else (j.cell k).entry)

/-- Jilek resets, release from reset, and the writes that switch tiles and links on and off. A power-on, brown-out or pin
reset holds the Jilek in reset with everything but unit identity and cause at its reset value (R370); JILEK_RESET_RELEASE,
100 us later, starts it with every tile due (R66, R367). JILEK_LINK_LOSS_RESET resets it after 2^24 ticks without lock on
either downlink, where enabled (R370). JPW_TILE_ON_WRITE empties the queue of every tile it switches off and makes a run due
in every tile it switches on (R66, R369). JPW_LINK_ON_WRITE keeps a receiver on where switching off would leave none, and
otherwise takes the written bits (R369). A Jilek in reset takes no part in other commands (R367).
[spec/20_power_reset_radiation.md, spec/00_scope.md] -/
def Obligations.JilekPowerAndReset : Prop :=
  ∀ (s : State) (t : Tick),
    let s1 := reachJ t s
    let j := s1.j
    (∀ cause : JCause, CompletesJ (.jilekPowerOnReset cause) s s (fun j' =>
      j' = { State.reset.j with unit := s.j.unit, otpCrc := s.j.otpCrc, cause := cause, inReset := true, draws := s.j.draws })) ∧
    (j.inReset = true → 32000 ≤ j.up →
      CompletesJ (.jilekResetRelease t) s s1 (fun j' =>
        j' = { j with inReset := false, up := 0, unlockedSince := some 0, tiles := j'.tiles } ∧
        ∀ k < 32, j'.tile k = { j.tile k with due := some ⟨0, false, 0⟩, stale := true, cause := 0 })) ∧
    (j.inReset = false →
      (∀ u, j.unlockedSince = some u → bit (j.reg Reg.JPW_LINK_ON).toNat 8 = true → j.locked 0 = false → j.locked 1 = false →
        u + 2 ^ 24 ≤ j.up → CompletesJ (.jilekLinkLossReset t) s s1 (fun j' =>
          j' = { State.reset.j with unit := j.unit, otpCrc := j.otpCrc, cause := .linkLoss, inReset := false, draws := j.draws })) ∧
      (∀ v : Word, CompletesJ (.jpwTileOnWrite v t) s s1 (fun j' => j'.reg Reg.JPW_TILE_ON = v ∧
        (∀ a, a ≠ Reg.JPW_TILE_ON → j'.reg a = j.reg a) ∧
        (∀ k < 32, j.tileOn k = true → v.getLsbD k = false → (j'.tile k).queue = [] ∧ (j'.tile k).limit = 0 ∧ (j'.tile k).span = none) ∧
        (∀ k < 32, j.tileOn k = false → v.getLsbD k = true → (j.tile k).due = none → (j.tile k).run = none →
          (j'.tile k).due = some ⟨0, false, j.up⟩ ∧ (j'.tile k).stale = true) ∧
        (∀ k < 32, j.tileOn k = v.getLsbD k → j'.tile k = j.tile k) ∧
        ∀ c < 2048, j.tileOn (c / 64) = v.getLsbD (c / 64) → j'.cell c = j.cell c)) ∧
      (∀ v : Word, j.lease = none → fld v 3 2 ≠ 0 → CompletesJ (.jpwLinkOnWrite v t) s s1 (fun j' =>
        j'.reg Reg.JPW_LINK_ON = v &&& 0x10F ∧ (∀ a, a ≠ Reg.JPW_LINK_ON → j'.reg a = j.reg a) ∧ j'.cells = j.cells)) ∧
      (∀ v : Word, fld v 3 2 = 0 → fld (j.reg Reg.JPW_LINK_ON) 3 2 = 3 → CompletesJ (.jpwLinkOnWrite v t) s s1 (fun j' =>
        fld (j'.reg Reg.JPW_LINK_ON) 3 2 = 3 ∧ fld (j'.reg Reg.JPW_LINK_ON) 1 0 = fld v 1 0))) ∧
    (j.inReset = true → ∀ (cl : Fin 2048) (fs ta : Nat),
      exec (.discriminatorCrossing cl t fs ta) s = .next s1 ∧ exec (.horizonDue t) s = .next s1)

/-- Each count_clear of the Bolov clears the counters of its page, with their sat bits, and nothing else. QD_, PTP_, SORT_,
OUT_, TRG_, RATE_, IS_, TARN_, MERE_, POD_, MON_, GLB_, RMT_ and CMT_COUNT_CLEAR clear every copy of every counter of their
page and leave all other counters and all other state as it is (R121, R144, R169, R191, R211, R223, R244, R260, R280, R296,
R324, R333, R346). MERE_BKT_CLEAR empties every bucket and clears held (R259). CTX_COUNT_CLEAR starts the walk over the
delivered-hit counters from context 0; at its end every counter that it had still to pass reads 0, no other bit of a context
has changed, and the walk is over (R166). [spec/17_control_interface.md, spec/06_links.md,
spec/08_sort_engine.md, spec/09_output_stream.md, spec/10_triggers_rate_deadtime.md, spec/11_interval_statistics.md,
spec/12_tarn_replay.md, spec/13_memory_integrity.md, spec/14_pod_failover.md, spec/15_monitor.md,
spec/18_configuration_commit.md, spec/07_time_base.md] -/
def Obligations.CountClearsOfTheBolov : Prop :=
  ∀ (s : State) (p : Fin 128) (t : Tick),
    CompletesB (.qdCountClear p) s s (Cleared [(Reg.QD_SYNC_ERR p, 1), (Reg.QD_CW_ERR p, 1)] s.b) ∧
    CompletesB .ptpCountClear s s (Cleared [(Reg.PTP_DISCARD, 1)] s.b) ∧
    CompletesB .sortCountClear s s (Cleared [(Reg.SORT_OUTSIDE, 1), (Reg.SORT_POOL_LOSS, 1), (Reg.SORT_SKIPPED, 1),
      (Reg.SORT_MARGIN_CLOSE, 1), (Reg.SORT_P_EXCLUDED, 128), (Reg.SORT_P_LATE, 128), (Reg.SORT_P_LATE_DROP, 128),
      (Reg.SORT_P_REFUSED, 128), (Reg.SORT_P_TERM, 128), (Reg.SORT_P_AHEAD, 128), (Reg.SORT_P_TICK_ERR, 128)] s.b) ∧
    CompletesB .outCountClear s s (Cleared [(Reg.OUT_L_FRAMES, 16), (Reg.OUT_L_REDIRECT, 16), (Reg.OUT_L_HELD, 16),
      (Reg.OUT_L_BREACH, 16), (Reg.OUT_L_EXP_DROP, 16)] s.b) ∧
    CompletesB .trgCountClear s s (Cleared ((List.range 6).map (fun n => (Reg.TRG_SRC_MARKS n, 1))) s.b) ∧
    CompletesB .rateCountClear s s (Cleared [(Reg.RATE_DT_RECORDS, 8), (Reg.RATE_DT_CELLTICKS, 8), (Reg.RATE_PRESCALED, 1),
      (Reg.RATE_TP_DROPPED, 1), (Reg.RATE_REFUSED, 1)] s.b) ∧
    CompletesB .isCountClear s s (Cleared ((List.range 4).map (fun n => (Reg.IS_n_MISSED n, 1))) s.b) ∧
    CompletesB .tarnCountClear s s (Cleared [(Reg.TARN_LOST, 1), (Reg.TARN_EDC_RETRY, 1), (Reg.TARN_EDC_FAIL, 1),
      (Reg.TARN_AUTO_MISS, 1)] s.b) ∧
    CompletesB .mereCountClear s s (Cleared [(Reg.MERE_U_CORRECTED, 24), (Reg.MERE_U_TRANSIENT, 24), (Reg.MERE_U_UNCORR, 24),
      (Reg.MERE_U_POISON_READ, 24), (Reg.MERE_U_POISON_WRITE, 24), (Reg.MERE_QPAR, 1), (Reg.MERE_TRK_FULL, 1)] s.b) ∧
    CompletesB .podCountClear s s (Cleared [(Reg.POD_HB_MISSED, 1), (Reg.POD_XL_CRC, 1), (Reg.POD_TWIN_OK, 1),
      (Reg.POD_TWIN_EXPL, 1), (Reg.POD_TWIN_DIV, 1), (Reg.POD_TWIN_SKIP, 1), (Reg.POD_CLAIM_REFUSED, 1),
      (Reg.POD_FENCE_COUNT, 1), (Reg.POD_SELFTEST_FAIL, 1), (Reg.POD_TAKEOVERS, 1)] s.b) ∧
    CompletesB .monCountClear s s (Cleared ((Reg.MON_RESULT_LOST, 1) :: (List.range 4).map (fun n => (Reg.MON_C_MISS n, 1))) s.b) ∧
    CompletesB .glbCountClear s s (Cleared [(Reg.GLB_UNMAPPED, 1), (Reg.GLB_PROTO_ERR, 1)] s.b) ∧
    CompletesB .rmtCountClear s s (Cleared [(Reg.RMT_TIMEOUTS, 1)] s.b) ∧
    CompletesB .cmtCountClear s s (Cleared [(Reg.CMT_DONE, 1), (Reg.CMT_REFUSED, 1)] s.b) ∧
    CompletesB .mereBktClear s s (fun b => b = { s.b with mere := { s.b.mere with levels := [], held := 0 } }) ∧
    CompletesB .ctxCountClear s s (fun b => b.sort.walk = some s.b.up ∧ b.sort.walkAt = 0) ∧
    (s.b.sort.walk = none →
      CompletesB .ctxCountClear s s (fun b => b = { s.b with sort := { s.b.sort with walk := some s.b.up, walkAt := 0 } })) ∧
    let s1 := reachB t s
    (s1.b.sort.walk.isSome = true → s1.b.walkPos = 262144 →
      CompletesB (.ctxCountWalkEnd t) s s1 (fun b => b.sort.walk = none ∧ b.sort.walkAt = 0 ∧
        (s1.b.ctxLinesMarked = [] → FMapWf 0 s1.b.sort.contexts →
          b = { s1.b with sort := { s1.b.sort with contexts := b.sort.contexts, walk := none, walkAt := 0 } } ∧
          ∀ i < 262144, b.ctx i = if s1.b.sort.walkAt ≤ i then setFld (s1.b.ctx i) 39 0 0 else s1.b.ctx i)))

/-- PLL lock, loss and return of the reference, and the load of the tick counter. At the first lock the tick counter reads 0
and ref_lock is set; a later lock, and a return of the reference, set ref_lock and raise the ref_lock event (R122 to R124).
A loss clears ref_lock, sets ref_lost and enters holdover (R123). TICK_LOAD is refused, with load_refused set, while a port
is in data or the sort engine runs; otherwise the preset waits, and it is taken, with bits [3:0] zero, at a tick that is a
multiple of 16 (R124). SNAP and SNAPSHOT_LATCH take tick and time of day of one edge (R143). Nothing else changes.
[spec/07_time_base.md] -/
def Obligations.ReferenceAndTickCounter : Prop :=
  ∀ (s : State) (t : Tick) (slew : Nat),
    let s1 := reachB t s
    let b := s1.b
    (b.time.refLock = false → b.time.pllOnce = false →
      CompletesB (.tickPllLock t slew) s s1 (fun b' => b' = { b with tick := 0, time := { b.time with refLock := true, pllOnce := true } })) ∧
    (b.time.refLock = false → b.time.pllOnce = true →
      (CompletesB (.tickPllLock t slew) s s1 (fun b' => b' =
        { b with time := { b.time with refLock := true, lockedAt := some (b.up : Int), slew := slew } }.raise 0x003 1)) ∧
      CompletesB (.refclkReturn t slew) s s1 (fun b' => b' =
        { b with time := { b.time with refLock := true, lockedAt := some (b.up : Int), slew := slew } }.raise 0x003 1)) ∧
    CompletesB (.refclkLoss t) s s1 (fun b' => b'.time.refLock = false ∧ b'.time.holdover = true ∧ b'.time.good = 0 ∧
      (b.time.holdover = false → b'.time.locked = false ∧ b'.time.holdFrom = b.up) ∧
      b'.time.tod = b.time.tod ∧ b'.time.incr = b.time.incr ∧ b'.tick = b.tick ∧ bit (b'.reg Reg.TM_STATUS).toNat 26 = true ∧
      b' = { b with time := b'.time, regs := b'.regs, queues := b'.queues, owed := b'.owed, logLost := b'.logLost, counters := b'.counters }) ∧
    (s.b.anyPortData = true ∨ s.b.sort.running = true →
      CompletesB .tickLoad s s (fun b' => b' = (s.b.setRegBit Reg.TM_STATUS 24 true).raise 0x003 6)) ∧
    (s.b.anyPortData = false → s.b.sort.running = false →
      CompletesB .tickLoad s s (fun b' => b' = { s.b with time := { s.b.time with presetPending := true } })) ∧
    (b.time.presetPending = true → b.tick.toNat % 16 = 0 → (∀ n : Fin 4, (b.unit n).opened = none) →
      CompletesB (.tickPresetApply t) s s1 (fun b' => 
        b'.tick.toNat = b.reg64 Reg.TM_TICK_PRESET / 16 * 16 % 2 ^ 48 ∧
        b' = { b with tick := b'.tick, time := { b.time with presetPending := false } })) ∧
    CompletesB .snap s s (fun b' => b' = { s.b with time := { s.b.time with snapBusy := some s.b.up } }) ∧
    let s2 := advance s.b.snapWait s
    (s.b.time.snapBusy.isSome = true → CompletesB .snapshotLatch s s2 (fun b' => b' =
      { s2.b with time := { s2.b.time with snapBusy := none, snapTick := s2.b.tick, snapTod := s2.b.time.tod } }))

/-- Time of day: update ticks, host sets, PPS edges, holdover, and the writes of source and base increment. TOD_SET takes
the written seconds and nanoseconds, at most 999,999,999 (R129). At an update tick a host set becomes the time of day with
fraction zero, and with none a servo step is added; without the sort engine every tick that is a multiple of 512 is one; the INCR is the scheduled one, or the base with the servo off; stepped
and tod_valid follow (R128, R129, R142). PPS_IN_EDGE is rejected with an event before TM_PPS_SEC is written or within 0.999
s of the last, and with PPS as source an accepted edge gives the offset sample of R132. TM_SRC_WRITE to another source and a
timeout enter holdover (R138). TM_INCR_BASE_WRITE sets 40 bits and no clock (R142). PPS_OUT rises with en and tod_valid set
and falls after its width (R133). [spec/07_time_base.md] -/
def Obligations.TimeOfDayAndServo : Prop :=
  ∀ (s : State) (t : Tick),
    let s1 := reachB t s
    let b := s1.b
    let enters := fun (a b' : Bolov) => b'.time.holdover = true ∧ b'.time.good = 0 ∧ b'.time.incr = a.time.incr ∧
      b'.time.tod = a.time.tod ∧ b'.time.integ = a.time.integ ∧ (a.time.holdover = false → b'.time.locked = false ∧ b'.time.holdFrom = a.up)
    CompletesB .todSet s s (fun b' => b' = 
      { s.b with time := { s.b.time with
        hostSet := some (s.b.reg64 Reg.TM_SET_SEC * (1000000000 * 2 ^ 32) + min 999999999 (s.b.regFld Reg.TM_SET_NS 29 0) * 2 ^ 32) } }) ∧
    (b.sort.running = false → (b.isUpdateTick = true ↔ b.tick.toNat % 512 = 0)) ∧
    (b.isUpdateTick = false → CompletesB (.todUpdateTick t) s s1 (fun b' => b' = b)) ∧
    (b.isUpdateTick = true → CompletesB (.todUpdateTick t) s s1 (fun b' =>
      b'.time.incr = (if b.regBit Reg.TM_CTRL 8 then b.time.schedIncr.getD b.time.incr else b.incrBase) ∧
      b'.time.schedIncr = none ∧ b'.time.schedStep = none ∧ b'.time.hostSet = none ∧ b'.time.integ = b.time.integ ∧
      (∀ v, b.time.hostSet = some v → b'.time.tod = v ∧ b'.time.todValid = true ∧ b'.time.locked = false ∧
        b'.time.steppedAt = some b.up ∧ bit (b'.reg Reg.TM_STATUS).toNat 25 = true) ∧
      (∀ d, b.time.hostSet = none → b.time.schedStep = some d →
        (b'.time.tod : Int) = ((b.time.tod : Int) + d) % (2 ^ 64 * 1000000000 * 2 ^ 32 : Nat) ∧ b'.time.todValid = true) ∧
      (b.time.hostSet = none → b.time.schedStep = none → b'.time.tod = b.time.tod ∧ b'.regs = b.regs ∧ b'.time.locked = b.time.locked))) ∧
    (∀ c : Fin 1250, b.time.ppsSecWritten = false ∨ (∃ u, b.time.lastPps = some u ∧ b.up < u + 319680000) →
      CompletesB (.ppsInEdge t c) s s1 (fun b' => b' = b.raise 0x003 7)) ∧
    (∀ c : Fin 1250, b.time.ppsSecWritten = true → b.time.lastPps = none → b.regFld Reg.TM_CTRL 1 0 = 2 → b.regBit Reg.TM_CTRL 10 = false →
      CompletesB (.ppsInEdge t c) s s1 (fun b' => b'.time.lastPps = some b.up ∧ b'.time.lastSample = b.up ∧
        b'.time.offset = (((b.time.tod + c * b.time.incr / 1250 : Nat) : Int) - signed 32 (b.reg Reg.TM_PPS_DELAY).toNat * 2 ^ 22
          - b.reg64 Reg.TM_PPS_SEC * (1000000000 * 2 ^ 32)) / 2 ^ 22)) ∧
    (b.time.lastSample + b.holdoverAfter ≤ b.up → CompletesB (.holdoverTimeout t) s s1 (enters b)) ∧
    (∀ v : BitVec 2, v.toNat ≠ s.b.regFld Reg.TM_CTRL 1 0 → CompletesB (.tmSrcWrite v) s s (fun b' =>
      enters s.b b' ∧ b'.regFld Reg.TM_CTRL 1 0 = v.toNat)) ∧
    (∀ v : BitVec 40, CompletesB (.tmIncrBaseWrite v) s s (fun b' => b' = { s.b with regs := b'.regs } ∧
      BRegsBut [Reg.TM_INCR_BASE, Reg.TM_INCR_BASE + 4] s.b b' ∧ b'.reg64 Reg.TM_INCR_BASE = v.toNat)) ∧
    (b.regBit Reg.TM_PPS_OUT 31 = true → b.time.todValid = true → b.ppsOutNow = true →
      CompletesB (.ppsOutRise t) s s1 (fun b' => b' =
        { b with time := { b.time with ppsOut := true, ppsRose := b.up, ppsCode := b.ppsDelay } })) ∧
    (b.time.ppsOut = true → b.time.ppsRose + max 1 (b.regFld Reg.TM_PPS_OUT 23 16) * 320000 ≤ b.up →
      CompletesB (.ppsOutFall t) s s1 (fun b' => b' = { b with time := { b.time with ppsOut := false } }))

/-- PTP messages from the master, the delay request, Announce, and a master change. With the timing port on, a Sync,
Follow_Up or Delay_Resp that is not from the master, or of another domain, version or transport, counts in PTP_DISCARD and
does nothing else (R134, R135; that one of another transport counts is the model's choice, log entry 187). A two-step Sync from the master waits for its Follow_Up; the Follow_Up of the same sequence completes the pair
with both corrections, and any other is discarded (R135). A Delay_Req takes the local time and the next sequence; its
Delay_Resp gives ((t2 - t1) + (t4 - t3)) / 2 as newest delay value, and a response to another requester or sequence is
discarded (R136). A pair gives an offset sample where a mean path delay exists and PTP is the source (R136). An Announce
goes to the firmware, and updates TM_UTC only where it comes from the chosen master (R137). A master change drops pairs, delays
and request, clears TM_UTC.valid and enters holdover (R137, R138). [spec/07_time_base.md] -/
def Obligations.PtpMessages : Prop :=
  ∀ (s : State) (t : Tick) (m : PtpMsg) (c : Fin 1250),
    let s1 := reachB t s
    let b := s1.b
    let now : Int := (b.time.tod + c * b.time.incr / 1250 : Nat)
    (m.multicast = false ∨ m.transport = .ipv6 → b.ptpAccepts m = false) ∧
    (b.ptpOn = true → m.unsupported = true ∨ b.ptpAccepts m = false ∨ b.fromMaster m = false →
      CompletesB (.ptpSyncReceived m t c) s s1 (fun b' => b' = b.count Reg.PTP_DISCARD 1) ∧
      CompletesB (.ptpFollowUpReceived m t) s s1 (fun b' => b' = b.count Reg.PTP_DISCARD 1) ∧
      CompletesB (.ptpDelayRespReceived m true t) s s1 (fun b' => b' = b.count Reg.PTP_DISCARD 1)) ∧
    (b.ptpOn = true → m.unsupported = false → b.ptpAccepts m = true → b.fromMaster m = true →
      (m.twoStep = true → CompletesB (.ptpSyncReceived m t c) s s1 (fun b' => b' =
        { b with ptp := { b.ptp with syncLog := m.interval, pending := some ⟨m.seq, now, m.correction * 2 ^ 16⟩ } })) ∧
      (m.twoStep = false → b.ptp.delays = [] → CompletesB (.ptpSyncReceived m t c) s s1 (fun b' => b' =
        { b with ptp := { b.ptp with
          syncLog := m.interval, pending := none, pair := some ⟨m.time * 2 ^ 32 + m.correction * 2 ^ 16, now⟩ } })) ∧
      (∀ p, b.ptp.pending = some p → p.seq = m.seq → b.ptp.delays = [] →
        CompletesB (.ptpFollowUpReceived m t) s s1 (fun b' => b' = { b with ptp := { b.ptp with
          pending := none, pair := some ⟨m.time * 2 ^ 32 + p.correction + m.correction * 2 ^ 16, p.t2⟩ } })) ∧
      (∀ p d, b.ptp.pending = some p → p.seq = m.seq → b.pathDelay = some d → b.regFld Reg.TM_CTRL 1 0 = 1 →
        CompletesB (.ptpFollowUpReceived m t) s s1 (fun b' =>
          b'.ptp = { b.ptp with pending := none, pair := some ⟨m.time * 2 ^ 32 + p.correction + m.correction * 2 ^ 16, p.t2⟩ } ∧
          b'.time.lastSample = b.up ∧
          b'.time.offset = (p.t2 - (m.time * 2 ^ 32 + p.correction + m.correction * 2 ^ 16) - d
            - signed 32 (b.reg Reg.PTP_ASYM).toNat * 2 ^ 22) / 2 ^ 22)) ∧
      (b.ptp.pending = none ∨ (∃ p, b.ptp.pending = some p ∧ p.seq ≠ m.seq) →
        CompletesB (.ptpFollowUpReceived m t) s s1 (fun b' => b' = b.count Reg.PTP_DISCARD 1)) ∧
      (b.ptp.req = none → CompletesB (.ptpDelayRespReceived m true t) s s1 (fun b' => b' = b.count Reg.PTP_DISCARD 1)) ∧
      CompletesB (.ptpDelayRespReceived m false t) s s1 (fun b' => b' = b.count Reg.PTP_DISCARD 1) ∧
      (∀ r p, b.ptp.req = some r → r.seq = m.seq → b.ptp.pair = some p → CompletesB (.ptpDelayRespReceived m true t) s s1 (fun b' => b' =
        { b with ptp := { b.ptp with
          delayLog := m.interval
          delays := ((((p.t2 - p.t1) + (m.time * 2 ^ 32 - m.correction * 2 ^ 16 - r.t3)) / 2) :: b.ptp.delays).take 256 } })) ∧
      (∀ r, b.ptp.req = some r → r.seq ≠ m.seq → CompletesB (.ptpDelayRespReceived m true t) s s1 (fun b' => b' = b.count Reg.PTP_DISCARD 1)) ∧
      ∀ (uv l61 l59 : Bool) (off : BitVec 16), CompletesB (.ptpAnnounceReceived m uv l61 l59 off t) s s1 (fun b' =>
        b'.ptp = { b.ptp with announce := some (m.clock, m.portNo) } ∧ bit b'.time.utc.toNat 31 = true ∧
        bit b'.time.utc.toNat 30 = uv ∧ bit b'.time.utc.toNat 29 = l61 ∧ bit b'.time.utc.toNat 28 = l59 ∧
        fld b'.time.utc 15 0 = off.toNat ∧ b'.time = { b.time with utc := b'.time.utc })) ∧
    (b.ptpOn = true → m.unsupported = false → b.ptpAccepts m = true → b.fromMaster m = false →
      ∀ (uv l61 l59 : Bool) (off : BitVec 16), CompletesB (.ptpAnnounceReceived m uv l61 l59 off t) s s1 (fun b' =>
        b' = { b with ptp := { b.ptp with announce := some (m.clock, m.portNo) } })) ∧
    (b.ptpOn = true → CompletesB (.ptpDelayReqSend t c) s s1 (fun b' => b' =
      { b with ptp := { b.ptp with req := some ⟨b.ptp.nextSeq, now⟩, nextSeq := b.ptp.nextSeq + 1 } })) ∧
    ∀ (id : BitVec 64) (port : BitVec 16), id.toNat ≠ s.b.reg64 Reg.PTP_MASTER_ID →
      CompletesB (.masterChange id port) s s (fun b' => b'.reg64 Reg.PTP_MASTER_ID = id.toNat ∧
        b'.regFld Reg.PTP_MASTER_PORT 15 0 = port.toNat ∧
        b'.ptp = { s.b.ptp with pending := none, pair := none, delays := [], req := none, syncLog := 0 } ∧
        b'.time.holdover = true ∧ bit b'.time.utc.toNat 31 = false ∧ b'.time.tod = s.b.time.tod ∧ b'.time.integ = s.b.time.integ)

/-- A port counts headers to block lock and control words to ready, falls back on errors, and takes frame headers and
horizons in data. With its quad on, an acquiring port counts valid sync headers in a row, reaches block lock at 64, starts
again at an invalid one and counts it in QD_SYNC_ERR (R104, R112). The word is what the descrambler gives of the 64 line bits
(R103). In block lock the 64th good control word makes it ready, and 16 invalid headers among 64 send it back to acquiring
(R104, R112). With the quad off nothing happens. A frame header moves a ready port to data with its base and raises the event; in
data it sets the base (R112, R150). A horizon in data that is not earlier than the last joins the input queue as a marker
(R149, R150). The first one after an outage also issues the link-down record, from the last horizon before it (R112). One that
breaks the order counts in SORT_P_TICK_ERR, raises its event and does nothing else (R150).
[spec/06_links.md, spec/08_sort_engine.md] -/
def Obligations.PortReceivesBlocks : Prop :=
  ∀ (s : State) (p : Fin 128) (t : Tick) (line : W64) (hdr : BitVec 2) (tk : Tick),
    let s1 := reachB t s
    let b := s1.b
    let x := b.port p
    let w := descramble x.scr line
    let seen := (decide (hdr ≠ 1) :: x.headers).take 64
    (b.domOn (p / 4) = false → CompletesB (.uplinkBlockReceived p hdr line t) s s1 (fun b' => b' = b)) ∧
    (b.domOn (p / 4) = true → x.rx = .acquiring →
      (hdr = 1 → CompletesB (.uplinkBlockReceived p hdr line t) s s1 (OnlyPort p
        { x with
          scr := lineTail line, goodHeaders := x.goodHeaders + 1
          rx := if x.goodHeaders + 1 ≥ 64 then .blockLock else .acquiring } b)) ∧
      (hdr ≠ 1 → CompletesB (.uplinkBlockReceived p hdr line t) s s1 (OnlyPort p
        { x with scr := lineTail line, goodHeaders := 0, rx := .acquiring } (b.countAt (Reg.QD_SYNC_ERR p) 0 1)))) ∧
    (b.domOn (p / 4) = true → x.rx ≠ .acquiring → 16 ≤ seen.countP id →
      CompletesB (.uplinkBlockReceived p hdr line t) s s1 (fun b' => (b'.port p).rx = .acquiring)) ∧
    (b.domOn (p / 4) = true → x.rx = .blockLock → hdr = 1 → fld w 63 62 = 0 → controlOk w = true → seen.countP id < 16 →
      CompletesB (.uplinkBlockReceived p hdr line t) s s1 (fun b' =>
        (x.goodControl + 1 < 64 → OnlyPort p
          { x with scr := lineTail line, headers := seen, words := x.words + 1, goodControl := x.goodControl + 1 } b b') ∧
        (x.goodControl + 1 ≥ 64 → b.regBit (Reg.QD_LINK_CTRL p) 3 = false → OnlyPort p
          { x with
            scr := lineTail line, headers := seen, words := x.words + 1, goodControl := x.goodControl + 1, rx := .ready } b b'))) ∧
    (x.rx = .ready → CompletesB (.frameHeaderReceived p tk t) s s1 (fun b' => b' =
      (b.modPort p (fun y => { y with
        rx := .data, base := some tk, lastH := none, beenData := y.beenData || decide (b.up ≤ y.txAt + 3200000) })).raise (0x020 + p / 4) (8 * (p % 4) + 1))) ∧
    (x.rx = .data →
      (x.base = none ∨ x.base = some (tk - 4096) → CompletesB (.frameHeaderReceived p tk t) s s1 (fun b' =>
        b' = b.modPort p (fun y => { y with base := some tk }))) ∧
      (∀ o, x.base = some o → tk ≠ o + 4096 → CompletesB (.frameHeaderReceived p tk t) s s1 (fun b' =>
        b' = ((b.countAt Reg.SORT_P_TICK_ERR p 1).raise 0x005 6).modPort p (fun y => { y with base := some tk }))) ∧
      (x.lastH = none ∨ (∃ l, x.lastH = some l ∧ later l tk = false) → x.downFrom = none →
        CompletesB (.horizonReceived p tk t) s s1 (fun b' => b' = b.modPort p (fun y =>
          { y with lastH := some tk, queue := y.queue ++ [.marker tk] }))) ∧
      (∀ a, x.lastH = none → x.downFrom = some a → later tk a = true → CompletesB (.horizonReceived p tk t) s s1 (fun b' =>
        b'.port p = { x with downFrom := none, lastH := some tk, queue := x.queue ++ [.marker tk] } ∧
        (∀ k, k ≠ (p : Nat) → b'.port k = b.port k) ∧ b'.sort = b.sort ∧
        b'.issued = (b.up, { cause := 5, scope := 2, port := p, start := a, stop := tk, count := 0xFFFFFFFF,
                             feId := ((b.cfgAt a).feId p).toNat }) :: b.issued)) ∧
      (∀ l, x.lastH = some l → later l tk = true → CompletesB (.horizonReceived p tk t) s s1 (fun b' =>
        b' = (b.countAt Reg.SORT_P_TICK_ERR p 1).raise 0x005 6)))

/-- Delay measurements, echo replies, dead-time reports and downlink frames at a port. DELAY_MEASURE_START, with no
measurement running and the named unit not held, takes the unit, stopping it where it ran, and starts 2^n samples (R116,
R221); otherwise it does nothing. A first echo reply to the latest ECHO sets the lag of the series and the downlink; one with
another tag or another lag changes neither. DELAY_MEASURE_END before the last ECHO does nothing
(R117). A dead-time report becomes a dead-time record of its cause, tile and count over its rebuilt span, counted in
RATE_DT_RECORDS (R93, R206). At a multiple of 16 with tx_en a port sends one frame: a waiting LEASE first, else the oldest
command, else NOP, scrambled (R107, R109); at other ticks and with the transmitter off, none. [spec/06_links.md,
spec/05_tile_path_governor.md, spec/11_interval_statistics.md] -/
def Obligations.PortDelayAndDownlink : Prop :=
  ∀ (s : State) (p : Fin 128) (t : Tick) (payload : BitVec 48) (f : Nat),
    let s1 := reachB t s
    let b := s1.b
    let x := b.port p
    let n := s.b.measureUnit p
    (((s.b.port p).measure = none → (s.b.unit n).link = none →
      CompletesB (.delayMeasureStart p) s s (fun b' =>
        b'.port p = { s.b.port p with measure := some { unit := n, want := 2 ^ s.b.regFld (Reg.QD_LINK_CTRL p) 19 16, seq0 := (s.b.unit n).result.seq } } ∧
        (∀ k, k ≠ (p : Nat) → b'.port k = s.b.port k) ∧ (b'.unit n).link = some p ∧ b'.isRun n = false ∧
        ∀ k : Fin 4, k ≠ n → b'.unit k = s.b.unit k)) ∧
    ((s.b.port p).measure.isSome = true ∨ (s.b.unit n).link.isSome = true → CompletesB (.delayMeasureStart p) s s (fun b' => b' = s.b))) ∧
    (x.rx = .acquiring → CompletesB (.echoReplyReceived p payload f t) s s1 (fun b' => b' = b)) ∧
    (∀ m, x.rx ≠ .acquiring → x.measure = some m →
      m.tag ≠ some (fld payload 47 40) ∨ (∃ l, m.lag = some l ∧ l ≠ fld payload 19 0) →
      CompletesB (.echoReplyReceived p payload f t) s s1 (fun b' => (b'.port p).lag = x.lag ∧ (b'.port p).measure = some m)) ∧
    (∀ m, x.rx ≠ .acquiring → x.measure = some m → m.tag = some (fld payload 47 40) → m.lag = none → CompletesB (.echoReplyReceived p payload f t) s s1 (fun b' =>
      (b'.port p).lag = fld payload 19 0 ∧ (b'.port p).measure = some { m with lag := some (fld payload 19 0) } ∧
      (b'.port p).downlink = fld payload 39 39)) ∧
    (∀ m, x.measure = some m → m.sent < m.want → CompletesB (.delayMeasureEnd p t) s s1 (fun b' => b' = b)) ∧
    (∀ m, x.measure = some m → m.want ≤ m.sent → CompletesB (.delayMeasureEnd p t) s s1 (fun b' => (b'.port p).measure = none ∧
      (b'.unit m.unit).link = none ∧ (((b'.port p).delayValid = true ∧ (b'.port p).delayFault = false) ∨ (b'.port p).delayFault = true))) ∧
    (x.rx ≠ .acquiring → fld payload 47 46 ≤ 1 → CompletesB (.deadTimeReportReceived p payload t) s s1 (fun b' =>
      ∃ r, b' = b.issueDt r ∧ r.cause = (if fld payload 47 46 = 0 then 1 else 3) ∧ r.scope = 1 ∧ r.port = p ∧ r.sub = fld payload 45 41 ∧
        r.count = fld payload 40 28 ∧ r.stop = r.start + BitVec.ofNat 48 (fld payload 27 16) ∧
        r.start.toNat % 65536 = fld payload 15 0)) ∧
    (b.tick.toNat % 16 ≠ 0 ∨ b.txOn p = false → CompletesB (.downlinkFrameSend p t) s s1 (fun b' => b' = b)) ∧
    (b.tick.toNat % 16 = 0 → b.txOn p = true → x.measure = none →
      let ready := x.rx == .ready || x.rx == .data
      let frame := fun (op arg pl : Nat) => some (scrambleFrame (downFrame ready (b.tick.toNat.testBit 4) (fastField op arg)
        (if op = 1 then payloadTick b.tick.toNat else pl)))
      (x.commands = [] → CompletesB (.downlinkFrameSend p t) s s1 (fun b' => b' = b.modPort p (fun y => { y with txFrame := frame 0 0 0 }))) ∧
      (∀ (a rest : List PortCmd) (c : PortCmd), x.commands = a ++ c :: rest → c.request = none → c.fc = false →
        (a = [] ∧ ∀ k ∈ x.commands, k.op ≠ 6) ∨ (c.op = 6 ∧ ∀ k ∈ a, k.op ≠ 6) →
        CompletesB (.downlinkFrameSend p t) s s1
          (OnlyPort p { x with commands := a ++ rest, txFrame := frame c.op c.arg c.payload } b)))

/-- Calibration words at a port: run start, report, results in and out of order, lost results. With block lock and nothing
missing, a run-start word in sequence issues the dead-time record of the run, from S to S + 81,920, and remembers S (R73,
R76). The report of that run with outcome 0 to 3 opens a staged set that expects cell 0; with outcome 4 to 6 it opens none
(R78, R79). A result in order joins the set with ta and dt rounded half up where its status is in window, and after cell 63
the set is complete (R78). A result with no report before it only raises event 5 of the port (R79). A run-start word that
finds results missing stands a lost set for the earlier run (R79). [spec/04_calibration.md,
spec/10_triggers_rate_deadtime.md] -/
def Obligations.CalibrationWordsAtTheBolov : Prop :=
  ∀ (s : State) (p : Fin 128) (t : Tick) (w : BitVec 48),
    let s1 := reachB t s
    let b := s1.b
    let tl := fld w 45 41
    let seq : BitVec 7 := BitVec.ofNat 7 (fld w 32 26)
    let x := b.portTile p tl
    (b.port p).rx ≠ .acquiring →
    (fld w 47 46 = 0 → x.expecting = none → x.lastSeq = none ∨ x.lastSeq = some (seq - 1) →
      CompletesB (.calRunStartWordReceived p w t) s s1 (fun b' => ∃ S : Tick, S.toNat % 2 ^ 20 = fld w 19 0 ∧
        b'.portTile p tl = { x with lastSeq := some seq, started := some S, expecting := none } ∧
        (∀ k, k ≠ tl → b'.portTile p k = b.portTile p k) ∧ (∀ q, q ≠ (p : Nat) → b'.port q = b.port q) ∧
        b'.issued = (b.up, { cause := 0, scope := 1, port := p, sub := tl, start := S, stop := S + 81920, count := 0xFFFFFFFF,
                             feId := ((b.cfgAt S).feId p).toNat }) :: b.issued ∧
        b'.sort = b.sort)) ∧
    (fld w 47 46 = 0 → ∀ S n, x.expecting = some (S, n) → x.lastSeq = some (seq - 1) →
      CompletesB (.calRunStartWordReceived p w t) s s1 (fun b' =>
        ∃ set ∈ b'.sort.calSets, set.port = p ∧ set.tile = tl ∧ set.s = S ∧ set.lost = true)) ∧
    (fld w 47 46 = 1 → x.expecting = none → x.lastSeq = some seq → ∀ S : Tick, x.started = some S →
      S = rebuild (b.lastH p - BitVec.ofNat 48 (2 ^ 19)) 20 (fld w 19 0) →
      (fld w 40 38 ≤ 3 → CompletesB (.calRunReportReceived p w t) s s1 (fun b' =>
        b'.portTile p tl = { x with started := none, expecting := some (S, 0) } ∧ b'.issued = b.issued ∧
        b' = { b with ports := b'.ports, sort := { b.sort with calSets := b.sort.calSets ++
          [{ port := p, tile := tl, s := S, slot := freeSlot b.sort.calSets }] } })) ∧
      (4 ≤ fld w 40 38 → CompletesB (.calRunReportReceived p w t) s s1 (fun b' =>
        b'.portTile p tl = { x with started := none } ∧ b' = { b with ports := b'.ports }))) ∧
    (fld w 47 46 = 2 → x.expecting = none →
      CompletesB (.calCellResultReceived p w t) s s1 (fun b' => b' = b.raise (0x020 + p / 4) (8 * (p % 4) + 5))) ∧
    (fld w 47 46 = 2 → ∀ (S : Tick) (set : CalSet), x.expecting = some (S, fld w 40 35) → b.sort.calSets = [set] →
      set.port = p → set.tile = tl → set.s = S → set.lost = false → CleanLine (set.line (fld w 40 35)) b →
      let ca := fld w 32 14
      let cb := (ca : Int) + signed 14 (fld w 13 0)
      CompletesB (.calCellResultReceived p w t) s s1 (fun b' => ∃ r : Nat × Nat × Nat,
        b'.sort = { b.sort with calSets := [{ set with results := set.results ++ [r] }] } ∧
        b'.portTile p tl = { x with expecting := if fld w 40 35 = 63 then none else some (S, fld w 40 35 + 1) } ∧
        (fld w 34 33 = 0 → 0 < ca → 0 < cb → r.1 = (2 * 3355443200 + ca) / (2 * ca) ∧ r.2.2 = 0 ∧
          (r.2.1 : Int) = ((2 * (53687091200 * (cb - ca)) + ca * cb) / (2 * (ca * cb))) % 65536) ∧
        (fld w 34 33 ≠ 0 → r.2.2 = fld w 34 33)))

/-- A complete staged set is merged into the 64 contexts of its tile, and into no others. CAL_STAGED_MERGE with no set of
the tile does nothing. With a complete set, or one that stands for lost results, that no unsent slice before S needs, each
context of the tile whose line is not poisoned takes its result: ta, dt and status in window; or, out of window or with a
ring fault, the status alone; or calibration lost. Offset, walk, class, inhibit, epoch and delivered stay. Contexts of other
cells and of other tiles stay, and the set is gone (R78, R79). [spec/04_calibration.md, spec/08_sort_engine.md,
spec/13_memory_integrity.md] -/
def Obligations.StagedSetsMerge : Prop :=
  ∀ (s : State) (p : Fin 128) (tl : Fin 32) (t : Tick),
    let s1 := reachB t s
    let b := s1.b
    ((∀ set ∈ b.sort.calSets, set.port ≠ p ∨ set.tile ≠ tl) → CompletesB (.calStagedMerge p tl [] t) s s1 (fun b' => b' = b)) ∧
    (∀ (set : CalSet), b.sort.calSets = [set] → set.port = p → set.tile = tl → b.calMergeable set = true →
      b.mere.flaws = [] → b.mere.tracker = [] → (∀ a, b.poisoned a = false) →
      CompletesB (.calStagedMerge p tl [] t) s s1 (fun b' =>
        b' = { b with sort := { b.sort with contexts := b'.sort.contexts, calSets := [] } } ∧
        (∀ i, i / 64 ≠ 32 * (p : Nat) + (tl : Nat) → b'.ctx i = b.ctx i) ∧
        ∀ c < 64,
          let i := 2048 * (p : Nat) + 64 * (tl : Nat) + c
          let old := b.ctx i
          let new := b'.ctx i
          (set.lost = true → fld new 43 40 = 4 ∧ fld new 127 96 = fld old 127 96) ∧
          (∀ r, set.lost = false → set.results[c]? = some r → r.2.2 = 0 → r.1 < 65536 → r.2.1 < 65536 →
            fld new 127 112 = r.1 ∧ fld new 111 96 = r.2.1 ∧ fld new 43 40 = 1) ∧
          (∀ r, set.lost = false → set.results[c]? = some r → 0 < r.2.2 → r.2.2 < 4 →
            fld new 43 40 = r.2.2 + 1 ∧ fld new 127 96 = fld old 127 96) ∧
          fld new 95 44 = fld old 95 44 ∧ fld new 39 0 = fld old 39 0))

/-- A scrub pass meets every outcome of R247: correction, poison, bucket, tracker and spare line. A pass that finds no error
counts nothing. One flipped bit that stays, and touches no address bit, is corrected: MERE_U_CORRECTED and the bucket
of its bank rise by one and a tracker entry opens (R247, R254, R256). An error whose refetch is clean counts as transient.
An uncorrectable line takes poison, counts in MERE_U_UNCORR and raises event 0; stored poison counts in MERE_U_POISON_READ
and stays (R247, R249). A
corrected read of a line corrected before after a rewrite makes it hard and takes the next spare line of its bank (R256,
R257). MERE_SCRUB_PASS with scrub_en set ends a pass, and TARN_SCRUB_PASS one over Tarn (R255). BUCKET_LEAK at each whole
leak period lowers every level by one, and clears the held bits of empty buckets (R254). [spec/13_memory_integrity.md] -/
def Obligations.ReadsAndRepairsOfLines : Prop :=
  ∀ (s : State) (t : Tick) (line : Nat) (i : Fin 288),
    let s1 := reachB t s
    let b := s1.b
    let bank := line / 65536 % 16
    let once : LineRead := ⟨line, [BitVec.ofNat 320 (2 ^ (i : Nat)), BitVec.ofNat 320 (2 ^ (i : Nat))]⟩
    let gone : LineRead := ⟨line, [BitVec.ofNat 320 (2 ^ (i : Nat)), 0]⟩
    b.regBit Reg.MERE_CTRL 0 = true → b.mereInUse line = true → b.mere.flaws = [] → b.mere.remap = [] →
    b.up ≤ b.mere.mereFrom + 2 * max 100 (b.regFld Reg.MERE_SCRUB 15 0) * 320000 →
    (b.mere.poison = [] → b.mere.tracker = [] →
     CompletesB (.mereScrubPass t []) s s1 (fun b' => b'.mere = { b.mere with mereFrom := b.up } ∧
      b' = { b with mere := b'.mere, sort := { b.sort with freeLines := b'.sort.freeLines } })) ∧
    (b.mere.poison = [] → b.mere.tracker = [] → CompletesB (.mereScrubPass t [gone]) s s1 (fun b' =>
      b'.ctr Reg.MERE_U_TRANSIENT bank = ctrAdd (b.ctr Reg.MERE_U_TRANSIENT bank) 1 ∧ b'.mere = { b.mere with mereFrom := b.up })) ∧
    (∀ r : LineRead, b.mere.poison = [] → b.mere.tracker = [] → r.line = line → b.readOutcome r = .uncorrectable 0 →
      CompletesB (.mereScrubPass t [r]) s s1 (fun b' =>
        b'.ctr Reg.MERE_U_UNCORR bank = ctrAdd (b.ctr Reg.MERE_U_UNCORR bank) 1 ∧ b'.poisoned line = true ∧
        fget 0 b'.mere.last bank = line ∧ bit (b'.reg 0x00B010).toNat 0 = true)) ∧
    (b.mere.poison = [(line, true)] → b.mere.tracker = [] → CompletesB (.mereScrubPass t []) s s1 (fun b' =>
      b'.ctr Reg.MERE_U_POISON_READ bank = ctrAdd (b.ctr Reg.MERE_U_POISON_READ bank) 1 ∧ b'.mere = { b.mere with mereFrom := b.up })) ∧
    (b.mere.poison = [] → b.mere.tracker = [] → fget 0 b.mere.levels bank < b.bktCap →
      CompletesB (.mereScrubPass t [once]) s s1 (fun b' =>
        b'.ctr Reg.MERE_U_CORRECTED bank = ctrAdd (b.ctr Reg.MERE_U_CORRECTED bank) 1 ∧
        fget 0 b'.mere.levels bank = fget 0 b.mere.levels bank + 1 ∧
        fget none b'.mere.tracker 0 = some ⟨line, 1, true, false, false, b.mere.trkOrder⟩ ∧ b'.mere.poison = b.mere.poison)) ∧
    (∀ (k : Nat) (e : TrkEntry), b.mere.poison = [] → b.mere.tracker = [(k, some e)] → e.hard = false → e.wb = true → e.addr = line →
      fget 0 b.mere.spares (line / 65536) < 512 → CompletesB (.mereScrubPass t [once]) s s1 (fun b' =>
        fget none b'.mere.tracker k = some { e with hard := true } ∧
        fget 0 b'.mere.spares (line / 65536) = fget 0 b.mere.spares (line / 65536) + 1 ∧
        fget 0 b'.mere.remap line = line / 65536 * 65536 + 32768 + fget 0 b.mere.spares (line / 65536) ∧
        bit (b'.reg 0x00B010).toNat 2 = true ∧ bit (b'.reg 0x00B010).toNat 3 = true)) ∧
    (b.mere.poison = [] → b.mere.tracker = [] → b.regBit Reg.MERE_CTRL 1 = true → b.up ≤ b.mere.tarnFrom + 2 * max 1 (b.regFld Reg.MERE_SCRUB 31 16) * 320000000 →
      CompletesB (.tarnScrubPass t []) s s1 (fun b' => b' = { b with mere := { b.mere with tarnFrom := b.up } })) ∧
    (FMapWf 0 b.mere.levels → b.up % (max 1 (b.regFld Reg.MERE_BKT_CFG 31 16) * 320000) = 0 →
      CompletesB (.bucketLeak t) s s1 (fun b' => (∀ u, fget 0 b'.mere.levels u = fget 0 b.mere.levels u - 1) ∧
        (∀ u < 24, b'.mere.held.getLsbD u = (b.mere.held.getLsbD u && decide (1 < fget 0 b.mere.levels u))) ∧
        b' = { b with mere := { b.mere with levels := b'.mere.levels, held := b'.mere.held } }))

/-- Starting and stopping the sort engine, flushing an input queue, closing a port's refusal and late spans. Stopped, with
the four sort domains on and S0 at least 1,024 ticks ahead, a start runs the engine from slice 0 at S0, and the progress of
a Pod partner counts from there again (R267); a start while it drains, or one that does not meet this, sets start_refused
and raises event 0; a start while it runs changes nothing (R146). A stop while running sets the final slice, whose ticks hold
the present one, and clears en, or just stops if slice 0 lies ahead; stopped or draining it changes nothing (R147). A flush of an input queue empties it and counts its records as
outside, unless the engine runs (R251). A span that has waited 64 ticks or lasted 1,024 closes as a record of cause 1
(admission, counted in SORT_P_REFUSED) or 2 (late) at port scope from the smallest to the largest tick + 1, with its count;
before, nothing happens (R92, R151, R161). [spec/08_sort_engine.md, spec/13_memory_integrity.md,
spec/10_triggers_rate_deadtime.md] -/
def Obligations.SortEngineStartsAndStops : Prop :=
  ∀ (s : State) (p : Fin 128) (t : Tick),
    let b := s.b
    let ahead := b.domOn 72 && b.domOn 73 && b.domOn 74 && b.domOn 75 && later b.s0 b.tick && decide (1024 ≤ tickDiff b.s0 b.tick)
    let refused := (b.setRegBit Reg.SORT_STATUS 29 true).raise 0x005 0
    let begun := { b.sort with running := true, final := none, nextSlice := 0, nextStart := b.s0, nextFrame := 0, slices := [], skips := [] }
    (b.sort.running = false → ahead = true → CompletesB .sortStart s s (fun b' =>
      b'.sort = begun ∧ b'.regBit Reg.SORT_CTRL 0 = true ∧ BRegsBut [Reg.SORT_CTRL] b b' ∧ b' = { b with sort := b'.sort, regs := b'.regs, pod := b.pod.newRun })) ∧
    (b.sort.running = false → ahead = false → CompletesB .sortStart s s (fun b' => b' = refused)) ∧
    (b.sort.running = true → b.sort.final = none → CompletesB .sortStart s s (fun b' => b' = b)) ∧
    (b.sort.running = true → b.sort.final ≠ none → CompletesB .sortStart s s (fun b' => b' = refused) ∧
      CompletesB .sortStop s s (fun b' => b' = b)) ∧
    (b.sort.running = false → CompletesB .sortStop s s (fun b' => b' = b)) ∧
    (b.sort.running = true → b.sort.final = none → CompletesB .sortStop s s (fun b' =>
      b'.regBit Reg.SORT_CTRL 0 = false ∧ BRegsBut [Reg.SORT_CTRL] b b' ∧ b' = { b with sort := b'.sort, regs := b'.regs } ∧
      (b.sliceNum b.tick < 0 → b'.sort = { b.sort with running := false }) ∧
      (0 ≤ b.sliceNum b.tick → ∃ n : Nat, b'.sort = { b.sort with final := some n } ∧
        notBefore b.tick (b.sliceStart n) = true ∧ later (b.sliceStart n + BitVec.ofNat 48 b.sliceLen) b.tick = true))) ∧
    (b.sort.running = true → CompletesB (.qdQueueFlush p) s s (fun b' => b' = b)) ∧
    (b.sort.running = false → CompletesB (.qdQueueFlush p) s s (fun b' =>
      b' = (b.modPort p (fun x => { x with queue := [] })).count Reg.SORT_OUTSIDE (b.port p).depth)) ∧
    ∀ u : Span,
      let s1 := reachB t s
      let c := s1.b
      let due := decide (u.lastAt + 64 ≤ c.up) || decide (u.openAt + 1024 ≤ c.up)
      ((c.port p).refusal = some u → due = false → CompletesB (.portRefusalSpanClose p t) s s1 (fun b' => b' = c)) ∧
      ((c.port p).lateDrop = some u → due = false → CompletesB (.lateDropSpanClose p t) s s1 (fun b' => b' = c)) ∧
      ((c.port p).refusal = none → CompletesB (.portRefusalSpanClose p t) s s1 (fun b' => b' = c)) ∧
      ((c.port p).lateDrop = none → CompletesB (.lateDropSpanClose p t) s s1 (fun b' => b' = c)) ∧
      (∀ (h : Tick) (hs : List Tick), u.hits = h :: hs → hs.length + 1 < 0xFFFFFFFF → due = true →
        let rec' := fun (cause : Nat) => ({ cause := cause, scope := 2, port := p, start := minTick h u.hits, stop := maxTick h u.hits + 1, count := u.hits.length, feId := ((c.cfgAt h).feId p).toNat } : DtRec)
        ((c.port p).refusal = some u → CompletesB (.portRefusalSpanClose p t) s s1 (fun b' =>
          b' = ((c.modPort p (fun x => { x with refusal := none })).issueDt (rec' 1)).countAt Reg.SORT_P_REFUSED p u.hits.length)) ∧
        ((c.port p).lateDrop = some u → CompletesB (.lateDropSpanClose p t) s s1 (fun b' =>
          b' = (c.modPort p (fun x => { x with lateDrop := none })).issueDt (rec' 2))))

/-- A record read from an input queue goes by the first row that applies; a marker sets the effective horizon. Stopped, or
with an empty queue, nothing happens. A marker that reads cleanly leaves the queue and becomes the port's effective horizon
(R150, R167); one with a parity error only leaves it, counted in MERE_QPAR (R251). A terminator counts in SORT_P_TERM. With
reads that find nothing amiss: a record of an excluded tile counts in SORT_P_EXCLUDED; one before slice 0 or past the final
slice in SORT_OUTSIDE; an express hit waits at the lane of its slice; one of a slice that starts more than 64 ticks ahead goes
to the late queue, counted in SORT_P_AHEAD; one of a skipped slice is discarded. One whose slice collects, in an open region
that is not refused, joins its bin, its offset from the slice start: in the chain's last pool line while that has room, else
in a returned line, else in a fresh one (R153, R155). In a refused region it counts in RATE_REFUSED (R202). With no free line
it counts in SORT_POOL_LOSS and among the slice's losses. One whose slice closed goes to the late queue, counted in SORT_P_LATE,
or is dropped where late_mode discards (R160, R161). The throttle pins follow. [spec/08_sort_engine.md,
spec/13_memory_integrity.md] -/
def Obligations.RecordsAreSorted : Prop :=
  ∀ (s : State) (p : Fin 128) (t : Tick) (flip : BitVec 65) (reads : List LineRead),
    let s1 := reachB t s
    let b := s1.b.withFlaws reads
    let done := fun (flip : BitVec 65) (P : Bolov → Prop) => CompletesB (.inputQueueItem p flip reads t) s s1 P
    let popped := fun (rest : List InItem) => b.modPort p (fun x => { x with queue := rest })
    (b.sort.running = false ∨ (b.port p).queue = [] → done flip (fun b' => b' = b)) ∧
    (∀ h0 rest, b.sort.running = true → (b.port p).queue = .marker h0 :: rest →
      (flip = 1 → done flip (fun b' => b' = (popped rest).count Reg.MERE_QPAR 1)) ∧
      (flip = 0 → b.endedSlices = [] → (∀ k, (b.portTile p k).expecting = none) → done flip (fun b' =>
        OnlyPort p { b.port p with queue := rest, hEff := h0, inTest := (b.port p).rx == .data } b b'))) ∧
    (∀ w h rest, b.sort.running = true → (b.port p).queue = .word w (parityOf w) h :: rest → fld w 63 62 = 3 →
      done 0 (fun b' => b' = (popped rest).countAt Reg.SORT_P_TERM p 1)) ∧
    (∀ w h rest, b.sort.running = true → (b.port p).queue = .word w (parityOf w) h :: rest → fld w 63 62 ≠ 3 →
      (∀ a, CleanLine a b) →
      let tk := h + BitVec.ofNat 48 ((fld w 50 39 + 4096 - h.toNat % 4096) % 4096)
      let cfg := match b.sliceOf tk with
        | some sl => sl.cfg
        | none => b.cfgAt tk
      let tl := fld w 61 51 / 64
      let b1 := popped rest
      let late : LateRec := { word := setFld w 50 39 (tk.toNat % 4096), tick := tk, port := p, feId := (b.cfgAt tk).feId p,
                              off := b.inSliceOffset tk, pos := b.sort.lateSeq }
      (cfg.region p tl = none → done 0 (fun b' => b' = (b1.countAt Reg.SORT_P_EXCLUDED p 1).throttle)) ∧
      (cfg.region p tl ≠ none → b.sliceNum tk < 0 ∨ (∃ n : Nat, b.sort.final = some n ∧ (n : Int) < b.sliceNum tk) →
        done 0 (fun b' => b' = (b1.count Reg.SORT_OUTSIDE 1).throttle)) ∧
      (cfg.region p tl ≠ none → fld w 63 62 = 1 → bit w.toNat 16 = true → b.expressOn = true → b.emitsExpress = true →
        0 ≤ b.sliceNum tk → b.sort.final = none → done 0 (fun b' => b' = (b1.queueHit w tk p).throttle)) ∧
      ∀ n : Nat, cfg.region p tl ≠ none → b.sliceInRun tk = some n → fld w 63 62 = 1 → bit w.toNat 16 = false →
        (later (b.sliceStart n) (b.tick + 64) = true → b.ek4 = false → b.sort.late.length < 4096 → done 0 (fun b' =>
          ∃ c', b' = Bolov.throttle c' ∧ c'.sort.late = b.sort.late ++ [late] ∧
            c'.ctr Reg.SORT_P_AHEAD p = ctrAdd (b.ctr Reg.SORT_P_AHEAD p) 1)) ∧
        (later (b.sliceStart n) (b.tick + 64) = false → b.sort.skips.contains n = true → done 0 (fun b' => b' = b1.throttle)) ∧
        ∀ (sl : Slice) (r : Nat), later (b.sliceStart n) (b.tick + 64) = false → b.sort.skips.contains n = false →
          b.sliceOf tk = some sl → sl.cfg.region p tl = some r →
          let c := fget {} sl.chains (r * 128 + p)
          let w' := setFld w 50 39 (tickDiff tk sl.start)
          let put := fun (lines : List Nat) (y : Slice) => { y with chains := fset {} y.chains (r * 128 + p) ⟨c.recs ++ [w'], lines⟩ }
          (sl.phase ≠ .collecting ∨ sl.open'.getLsbD r = false →
            (b.regBit Reg.SORT_CTRL 2 = true → b.ek4 = false → b.sort.late.length < 4096 → done 0 (fun b' =>
              ∃ c', b' = Bolov.throttle c' ∧ c'.sort.late = b.sort.late ++ [late] ∧
                c'.ctr Reg.SORT_P_LATE p = ctrAdd (b.ctr Reg.SORT_P_LATE p) 1)) ∧
            (b.regBit Reg.SORT_CTRL 2 = false → done 0 (fun b' =>
              ∃ c', b' = Bolov.throttle c' ∧ c'.sort = b.sort ∧ c'.ctr Reg.SORT_P_LATE p = ctrAdd (b.ctr Reg.SORT_P_LATE p) 1 ∧
                c'.ctr Reg.SORT_P_LATE_DROP p = ctrAdd (b.ctr Reg.SORT_P_LATE_DROP p) 1))) ∧
          (sl.phase = .collecting → sl.open'.getLsbD r = true →
            (sl.refused.getLsbD r = true → done 0 (fun b' => b' = ((b1.modSlice sl.num (fun y => { y with refusedCount := fmod 0 y.refusedCount r (· + 1) })).count Reg.RATE_REFUSED 1).throttle)) ∧
            (sl.refused.getLsbD r = false → c.recs.length % 4 ≠ 0 → done 0 (fun b' => b' = (b1.modSlice sl.num (put c.lines)).throttle)) ∧
            (∀ l free, sl.refused.getLsbD r = false → c.recs.length % 4 = 0 → b.sort.freeLines = l :: free → done 0 (fun b' =>
              ∃ c', b' = Bolov.throttle c' ∧ c'.sort.freeLines = free ∧ c'.sort.freshLine = b.sort.freshLine ∧
                c'.sort.slices = (b.modSlice sl.num (put (c.lines ++ [l]))).sort.slices)) ∧
            (sl.refused.getLsbD r = false → c.recs.length % 4 = 0 → b.sort.freeLines = [] → b.sort.freshLine < 327680 → done 0 (fun b' =>
              ∃ c', b' = Bolov.throttle c' ∧ c'.sort.freshLine = b.sort.freshLine + 1 ∧
                c'.sort.slices = (b.modSlice sl.num (put (c.lines ++ [b.sort.freshLine]))).sort.slices)) ∧
            (sl.refused.getLsbD r = false → c.recs.length % 4 = 0 → b.sort.freeLines = [] → b.sort.freshLine = 327680 → done 0 (fun b' =>
              ∃ c', b' = Bolov.throttle c' ∧ c'.ctr Reg.SORT_POOL_LOSS 0 = ctrAdd (b.ctr Reg.SORT_POOL_LOSS 0) 1 ∧ c'.sort.freshLine = 327680 ∧
                c'.sort.slices = (b.modSlice sl.num (fun y => { y with lost := fmod {} y.lost r (Losses.add tk) })).sort.slices))))

/-- A slice start opens its column with what is in force, or skips the slice; margins close regions. SLICE_START at another
tick than the next slice's start, stopped or past the final slice, does nothing. Else, whatever closes, switches or changes
stage there, the next slice is one on, L later, and the slice of this tick stands last: open in every region and collecting,
or, if a bin of its column is not free, skipped (R145, R156). With no slice ended and waiting, no commit due and the stage held by its
floor, the slice opens with every region open, the configuration in force, its start tick, time of day, increment and stage,
and the next slice is one on, L later (R145, R156). If its column still holds a slice that has not been emitted, the slice
is skipped: 256 dead-time records of cause 4, one a region, over the whole slice with count 0, in rising region;
SORT_SKIPPED counts and event 3 is raised (R156). REGION_CLOSE_BY_MARGIN with no ended slice does nothing. In every ended
slice a region stays open only while a port that feeds it is in data, has read a marker and stands before the slice end, and
while the slice ended fewer ticks ago than the region's margin; with its last region the slice is closed (R157, R158, R167). [spec/08_sort_engine.md,
spec/10_triggers_rate_deadtime.md, spec/13_memory_integrity.md] -/
def Obligations.SlicesOpenAndClose : Prop :=
  ∀ (s : State) (t : Tick),
    let s1 := reachB t s
    let b := s1.b
    let n := b.sort.nextSlice
    let stop := b.tick + BitVec.ofNat 48 b.sliceLen
    let busy := b.sort.slices.any (fun x => !x.skipped && decide (x.num % 256 = n % 256))
    (b.sort.running = false ∨ b.sort.nextStart ≠ b.tick ∨ (∃ f, b.sort.final = some f ∧ f < n) → CompletesB (.sliceStart t) s s1 (fun b' => b' = b)) ∧
    (b.sort.running = true → b.sort.nextStart = b.tick → b.sort.final = none ∨ (∃ f, b.sort.final = some f ∧ n ≤ f) →
      CompletesB (.sliceStart t) s s1 (fun b' => b'.sort.nextSlice = n + 1 ∧ b'.sort.nextStart = stop ∧ ∃ sl : Slice,
        b'.sort.slices.getLast? = some sl ∧ sl.num = n ∧ sl.start = b.tick ∧ sl.skipped = busy ∧
        (busy = false → sl.open' = BitVec.allOnes 256 ∧ sl.phase = .collecting) ∧ (busy = true → sl.open' = 0 ∧ sl.phase = .closed))) ∧
    (b.sort.running = true → b.sort.nextStart = b.tick → b.sort.final = none ∨ (∃ f, b.sort.final = some f ∧ n ≤ f) →
      b.endedSlices = [] → b.cmt.busy = false → b.regBit Reg.RATE_CTRL 0 = false → b.regFld Reg.RATE_CTRL 3 2 = b.rate.stage →
      b.pod.state = .off →
      (busy = false → CompletesB (.sliceStart t) s s1 (fun b' => ∃ (c : Bolov) (sl : Slice), b' = c.throttle ∧
        c = { b with sort := { b.sort with nextSlice := n + 1, nextStart := stop, slices := b.sort.slices ++ [sl] } } ∧
        sl.num = n ∧ sl.start = b.tick ∧ sl.cfg = b.sort.cfg ∧ sl.skipped = false ∧ sl.phase = .collecting ∧
        sl.open' = BitVec.allOnes 256 ∧ sl.chains = [] ∧ sl.tod = b.time.tod ∧ sl.incr = b.time.incr ∧ sl.stageAtStart = b.rate.stage ∧
        (b.rate.stage ≠ 3 → sl.refused = 0))) ∧
      (busy = true → CompletesB (.sliceStart t) s s1 (fun b' => ∃ (c : Bolov) (sl : Slice), b' = c.throttle ∧
        c.sort = { b.sort with nextSlice := n + 1, nextStart := stop, slices := b.sort.slices ++ [sl], skips := n :: b.sort.skips } ∧
        sl.num = n ∧ sl.start = b.tick ∧ sl.skipped = true ∧ sl.phase = .closed ∧ sl.open' = 0 ∧
        c.issued = ((List.range 256).map (fun r => (b.up, ({ cause := 4, scope := 3, sub := r, start := b.tick, stop := stop, count := 0 } : DtRec)))).reverse ++ b.issued ∧
        c.ctr Reg.SORT_SKIPPED 0 = ctrAdd (b.ctr Reg.SORT_SKIPPED 0) 1 ∧ c.regBit (evtRaw 0x005) 3 = true))) ∧
    (b.endedSlices = [] → CompletesB (.regionCloseByMargin t) s s1 (fun b' => b' = b)) ∧
    ((b.sort.slices.map Slice.num).Nodup → CompletesB (.regionCloseByMargin t) s s1 (fun b' =>
      b'.sort.slices.map Slice.num = b.sort.slices.map Slice.num ∧
      (∀ sl ∈ b.sort.slices, sl ∉ b.endedSlices → sl ∈ b'.sort.slices) ∧
      ∀ sl ∈ b.endedSlices, sl.open' ≠ 0 → ∃ sl' ∈ b'.sort.slices, sl'.num = sl.num ∧ sl'.chains = sl.chains ∧
        sl'.phase = (if sl'.open' = 0 then .closed else .collecting) ∧
        ∀ r < 256, sl'.open'.getLsbD r = true ↔ sl.open'.getLsbD r = true ∧
          (∃ q, (r, q) ∈ sl.cfg.feeds ∧ (b.port q).rx = .data ∧ (b.port q).inTest = true ∧
            later (b.sliceEnd sl) (b.port q).hEff = true) ∧
          tickDiff b.tick (b.sliceEnd sl) < (b.regionMargin sl r).1)) ∧
    (∀ sl, b.sort.slices = [sl] → sl.phase = .collecting → notBefore b.tick (sl.start + BitVec.ofNat 48 b.sliceLen) = true →
      (∀ p, (b.port p).rx ≠ .data ∨ (b.port p).inTest = false ∨ later (sl.start + BitVec.ofNat 48 b.sliceLen) (b.port p).hEff = false) →
      sl.lost = [] → sl.refused = 0 → sl.open' ≠ 0 → (∀ p, (b.port p).downFrom = none) →
      CompletesB (.regionCloseByMargin t) s s1 (fun b' =>
        b' = { b with sort := { b.sort with slices := [{ sl with open' := 0, phase := .closed }] } }))

/-- Register responses answer remote requests and publications; status words report leases and switches. While a port
acquires, nothing is taken. A register response whose tag is that of the outstanding request of its port posts its
REMOTE_RSP record with the request's sequence, port, operation, attempts, address and data, and the response's result and
data (R330, R331). With no such request it answers a read of the publication of the Jilek's identity with its tag, and
otherwise does nothing (R349). Status 0x07 with this Bolov's lease ID makes it the owner in its own view; the first time it
publishes by three CONFIG reads (R106, R349). Status 0x06 of the pending epoch enters the switch tick and late of a port
that was sent COMMIT and has not reported (R339). Other codes change nothing. [spec/06_links.md,
spec/17_control_interface.md, spec/18_configuration_commit.md, spec/19_security_identity.md] -/
def Obligations.ResponsesAndStatusWords : Prop :=
  ∀ (s : State) (p : Fin 128) (t : Tick) (pl : BitVec 48) (code a : Byte) (arg : Word),
    let s1 := reachB t s
    let b := s1.b
    let x := b.port p
    (x.rx = .acquiring → CompletesB (.registerResponseReceived p pl t) s s1 (fun b' => b' = b) ∧
      CompletesB (.statusWordReceived p code a arg t) s s1 (fun b' => b' = b)) ∧
    (x.rx ≠ .acquiring →
      (∀ r, b.rmt.requests = [r] → r.port = p → r.issued = true → r.answer = none → r.seq.toNat % 256 = fld pl 47 40 →
        CompletesB (.registerResponseReceived p pl t) s s1 (fun b' =>
          b'.rmt = { b.rmt with requests := [] } ∧
          b'.queues[7].records = b.queues[7].records ++ [[
            word64 [(16, r.seq.toNat), (3, fld pl 39 38), (7, p), (2, r.op), (4, min 15 r.attempts), (16, r.addr.toNat), (16, 0)],
            word64 [(32, if r.op = 2 then 0 else r.data.toNat), (32, fld pl 31 0)]]] ∧
          b'.queues[7].reserved = b.queues[7].reserved - 1 ∧
          b' = { b with ports := b'.ports, rmt := b'.rmt, queues := b'.queues })) ∧
      (b.rmt.requests = [] → (∀ r ∈ x.publish.reads, r.2.toNat ≠ fld pl 47 40) →
        CompletesB (.registerResponseReceived p pl t) s s1 (fun b' => b' = b)) ∧
      (∀ tag : BitVec 8, b.rmt.requests = [] → x.publish.reads = [(Reg.JID_UNIT, tag)] → tag.toNat = fld pl 47 40 →
        CompletesB (.registerResponseReceived p pl t) s s1 (OnlyPort p
          { x with publish := { x.publish with reads := [], lo := if fld pl 39 38 = 0 then some (BitVec.ofNat 32 (fld pl 31 0)) else x.publish.lo } } b)) ∧
      (code ≠ 6 → code ≠ 7 → CompletesB (.statusWordReceived p code a arg t) s s1 (fun b' => b' = b)) ∧
      (code = 6 → b.cmt.busy = true → fld a 7 4 = b.cmt.pending.toNat → b.cmt.ports = [{ port := p }] →
        CompletesB (.statusWordReceived p code a arg t) s s1 (fun b' => ∃ S : Tick, S.toNat % 2 ^ 32 = arg.toNat ∧
          tickDiff S b.cmt.t < 2 ^ 32 ∧
          b' = { b with cmt := { b.cmt with ports := [{ port := p, report := some (S, bit a.toNat 3) }] } })) ∧
      (code = 6 → b.cmt.busy = false ∨ fld a 7 4 ≠ b.cmt.pending.toNat →
        CompletesB (.statusWordReceived p code a arg t) s s1 (fun b' => b' = b)) ∧
      (code = 7 → fld arg 15 14 ≠ 0 → fld arg 31 16 = b.leaseId → b.pod.state = .off →
        CompletesB (.statusWordReceived p code a arg t) s s1 (fun b' =>
          (b'.port p).owner = true ∧ (b'.port p).leaseOwned = true ∧ ((b'.port p).leaseOwnerId).toNat = fld arg 31 16 ∧
          (∀ q, q ≠ (p : Nat) → b'.port q = b.port q) ∧ b' = { b with ports := b'.ports } ∧
          (x.owner = true → (b'.port p).commands = x.commands) ∧
          (x.owner = false → (b'.port p).commands.length = x.commands.length + 3 ∧ (b'.port p).publish.reads.length = 3))))

/-- The next frame begins on a free lane, completes, and express units go between its blocks. Outside a Pod, FRAME_BEGIN
does nothing without a closed slice whose turn it is, or where no lane may be chosen or the lane chosen is busy. The frame
of an empty slice with nothing waiting has 8 words: magic and slice, start tick, time of day, INCR and time flags, H5, the
counts, and T1 with CRC-32C over all before it (R174, R175, R180); the lane sends a live SOF with length and slice,
OUT_L_FRAMES counts, the next slice has its turn and the column is free (R156, R172, R182). FRAME_COMPLETE on a lane without a
frame, before the blocks hold all its words or where a hold has stopped the lane does nothing; else the lane is free, the slice
leaves and its last lines return (R156, R186); a replay that waits resumes with block 0xB6, else idle blocks follow (R172,
R185). A lane that is not the express lane, one that a hold has stopped, or EK-4 mode, sends no unit (R186, R188); else the
oldest mark goes first (0xD1 to 0xD3, its lost flag carried), then the oldest hit as 0xE1 to 0xE3, in RAW mode with entry
0x40000000, and its cell's delivered-hit counter counts it (R166, R183, R184, R194). With `OUT_EXPRESS.en` = 0 no mark goes out
(R184). [spec/09_output_stream.md, spec/08_sort_engine.md, spec/10_triggers_rate_deadtime.md] -/
def Obligations.FramesAndExpressUnits : Prop :=
  ∀ (s : State) (n : Fin 16) (t : Tick) (left : Nat) (reads : List LineRead),
    let s1 := reachB t s
    let c := s1.b
    let b := (c.withFlaws reads).syncMerge
    (b.pod.state = .off → b.pod.resend = none → (∀ sl ∈ b.sort.slices, sl.num = b.sort.nextFrame → sl.phase ≠ .closed) →
      CompletesB (.frameBegin left reads t) s s1 (fun b' => b' = b)) ∧
    (b.pod.state = .pairing → CompletesB (.frameBegin left reads t) s s1 (fun b' => b' = b)) ∧
    (∀ sl, b.pod.state = .off → b.pod.resend = none → b.pod.emitFrom ≤ sl.num → b.nextClosed = some sl → (∀ a, CleanLine a b) →
      let named := Fin.ofNat 16 (sl.cfg.lane (sl.num % 256))
      (b.chooseLane named = none ∨ (∃ k, b.chooseLane named = some k ∧ b.laneFree k = false) →
        CompletesB (.frameBegin left reads t) s s1 (fun b' => b' = b)) ∧
      (b.chooseLane named = some n → b.laneFree n = true → b.tarnOn = false → b.ek4 = false → b.sort.final = none → b.sort.walk = none →
        b.sort.late = [] → b.notices = [] → sl.chains = [] → b.trg.testPulses = [] → b.rate.stage = 0 → sl.stageAtStart = 0 → sl.skipped = false →
        CompletesB (.frameBegin left reads t) s s1 (fun b' => ∃ f : FrameOut,
          (b'.lanes[n]).frame = some f ∧ (b'.lanes[n]).blocks = [(0xB4, BitVec.ofNat 56 (pack [(16, 0), (32, 8), (8, sl.num)]))] ∧
          (∀ k : Fin 16, k ≠ n → b'.lanes[k] = b.lanes[k]) ∧ f.words.length = 8 ∧
          f.words.take 7 = [word64 [(16, 0x5CE1), (48, sl.num)], word64 [(16, 0), (48, sl.start.toNat)],
            word64 [(64, sl.tod / 2 ^ 32 / 1000000000)], word64 [(2, 0), (30, sl.tod / 2 ^ 32 % 1000000000), (32, sl.tod % 2 ^ 32)],
            word64 [(40, sl.incr), (5, sl.timeFlags.toNat), (19, 0)],
            word64 [(4, sl.cfg.epoch.toNat), (4, n), (1, b2n sl.cfg.cal), (4, 0), (1, b2n (b.lanes[n]).breach), (1, b2n (n != named)), (1, 0), (9, 0), (11, 0), (12, 0), (16, sl.cfg.streamId.toNat)],
            word64 [(32, 8), (32, 0)]] ∧
          fld (f.words.getD 7 0) 63 32 = 0 ∧ fld (f.words.getD 7 0) 31 0 = crc32c ((wordBytes f.words).take 60) ∧
          b'.sort.nextFrame = b.sort.nextFrame + 1 ∧ b'.sort.slices = b.sort.slices.filter (fun x => x.num != sl.num) ∧
          b'.ctr Reg.OUT_L_FRAMES n = ctrAdd (b.ctr Reg.OUT_L_FRAMES n) 1))) ∧
    ((c.lanes[n]).frame = none ∨ (∃ f, (c.lanes[n]).frame = some f ∧
        (c.wordsRoom (c.lanes[n]) c.up < f.words.length ∨ c.laneStopped (c.lanes[n]) = true)) →
      CompletesB (.frameComplete n t) s s1 (fun b' => b' = c)) ∧
    (∀ f, (c.lanes[n]).frame = some f → f.words.length ≤ c.wordsRoom (c.lanes[n]) c.up → c.laneStopped (c.lanes[n]) = false →
      c.pod.state = .off → f.again = false → (∀ x ∈ f.lines, x.1 ≤ f.words.length) → c.sort.final = none →
      CompletesB (.frameComplete n t) s s1 (fun b' => (b'.lanes[n]).frame = none ∧ (∀ k : Fin 16, k ≠ n → b'.lanes[k] = c.lanes[k]) ∧
        b'.sort = { c.sort with
          slices := c.sort.slices.filter (fun sl => sl.num != f.slice), freeLines := c.sort.freeLines ++ f.lines.map Prod.snd } ∧
        ((c.lanes[n]).cut = none → (c.lanes[n]).replay = none → (b'.lanes[n]).blocks = [(0x1E, 0)]) ∧
        (∀ id ws, (c.lanes[n]).cut = none → (c.lanes[n]).replay = some (id, ws) → ws ≠ [] →
          (b'.lanes[n]).blocks = [(0xB6, BitVec.ofNat 56 (pack [(16, id.toNat), (32, ws.length), (8, 0)]))]))) ∧
    (c.cmt.toMerge = [] →
      (c.expressLane ≠ some n ∨ c.laneStopped (c.lanes[n]) = true ∨ c.pod.state = .standby ∧ c.pod.tail = false ∨ c.ek4 = true ∨
          (∀ k : Fin 16, (c.lanes[k]).hitQ = [] ∧ ((c.lanes[k]).markQ = [] ∨ c.regBit Reg.OUT_EXPRESS 31 = false)) →
        CompletesB (.expressUnitSend n t) s s1 (fun b' => b' = c)) ∧
      (∀ i : Fin 16, c.expressLane = some n → c.laneStopped (c.lanes[n]) = false → c.pod.state = .off → c.tarnOn = false → c.ek4 = false →
        (∀ source falling prot tick seq fine w index rest, c.regBit Reg.OUT_EXPRESS 31 = true →
          (∀ k, k ≠ i → (c.lanes[k]).markQ = []) → (c.lanes[i]).markQ = .mark source falling prot tick seq fine w index :: rest →
          CompletesB (.expressUnitSend n t) s s1 (fun b' =>
            (b'.lanes[n]).blocks = threeBlocks 0xD1 (markValue source falling prot c.trg.lost tick seq fine w index) ∧
            ((b'.lanes[n]).blocks.map Prod.fst) = [0xD1, 0xD2, 0xD3] ∧ (b'.lanes[i]).markQ = rest ∧
            (∀ k, k ≠ i → k ≠ n → b'.lanes[k] = c.lanes[k]) ∧
            b' = { c with lanes := b'.lanes, trg := { c.trg with lost := false } })) ∧
        (∀ w tick port fe rest, (∀ k : Fin 16, (c.lanes[k]).markQ = []) → (∀ k, k ≠ i → (c.lanes[k]).hitQ = []) →
          (c.lanes[i]).hitQ = .hit w tick port fe :: rest → port < 128 → (c.cfgAt tick).cal = false → c.sort.walk = none →
          let x := 2048 * port + fld w 61 51
          CompletesB (.expressUnitSend n t) s s1 (fun b' => (b'.lanes[i]).hitQ = rest ∧ (∀ k, k ≠ i → k ≠ n → b'.lanes[k] = c.lanes[k]) ∧
            (b'.lanes[n]).blocks = [(0xE1, BitVec.ofNat 56 (port * 2 ^ 49 + tick.toNat)),
              (0xE2, BitVec.ofNat 56 (fe.toNat * 2 ^ 40 + w.toNat / 2 ^ 24)),
              (0xE3, BitVec.ofNat 56 (w.toNat % 2 ^ 24 * 2 ^ 32 + 0x40000000))] ∧
            (fld w 63 62 = 1 → CleanLine (ctxLine x) c →
              fld (b'.ctx x) 39 0 = min (2 ^ 40 - 1) (fld (c.ctx x) 39 0 + 1) ∧ fld (b'.ctx x) 127 40 = fld (c.ctx x) 127 40)))))

/-- XOFF_N holds a lane, breaches begin and end, the start-up of a lane, EK-4 mode. XOFF_ASSERT holds a lane from now, and
changes nothing on a held one. XOFF_RELEASE ends the hold; its blocks of 2.56 ns, numbered from when the lane began to send,
that are not counted yet are counted in OUT_L_HELD; on a lane not held it changes nothing (R186, R190). A lane enabled, not in
breach and held longer than OUT_XOFF_HOLD enters breach, raising event 0 and counting in OUT_L_BREACH; a lane not held, disabled
or already in breach does not. A lane in breach that has seen a whole window with no hold, ended behind the block in which the
breach began, leaves it, raising event 1; before such a window has passed it stays (R187). A lane starts to take frames once
4,096 blocks have passed (R171). EK-4 mode is set as written while the engine is stopped, and with it every replay ends (R188,
R226); while it runs the write is ignored, sets cfg_ignored and raises event 4 (R188). [spec/09_output_stream.md,
spec/12_tarn_replay.md] -/
def Obligations.LanesAndHolds : Prop :=
  ∀ (s : State) (n : Fin 16) (t : Tick) (v : Bool),
    let s1 := reachB t s
    let b := s1.b
    let l := b.lanes[n]
    let only := fun (x : Lane) (b' : Bolov) => b'.lanes[n] = x ∧ (∀ k : Fin 16, k ≠ n → b'.lanes[k] = b.lanes[k]) ∧ b' = { b with lanes := b'.lanes }
    (l.heldFrom = none → CompletesB (.xoffAssert n t) s s1 (only { l with heldFrom := some b.up, heldDone := 0 })) ∧
    (∀ u, l.heldFrom = some u → CompletesB (.xoffAssert n t) s s1 (fun b' => b' = b)) ∧
    (l.heldFrom = none → CompletesB (.xoffRelease n t) s s1 (fun b' => b' = b) ∧ CompletesB (.breachBegin n t) s s1 (fun b' => b' = b)) ∧
    (∀ u r, l.heldFrom = some u → l.ranFrom = some r → b.ek4 = false →
      CompletesB (.xoffRelease n t) s s1 (fun b' => (b'.lanes[n]).heldFrom = none ∧ (u, b.up) ∈ (b'.lanes[n]).holds ∧
        (∀ k : Fin 16, k ≠ n → b'.lanes[k] = b.lanes[k]) ∧
        b'.ctr Reg.OUT_L_HELD n = ctrAdd (b.ctr Reg.OUT_L_HELD n) ((b.up - r) * 3125 / 2560 - (u - r) * 3125 / 2560 - l.heldDone))) ∧
    (∀ u e, l.heldFrom = some u → l.enabledAt = some e → b.domOn (32 + n) = true → b.ek4 = false →
      let now := (b.up - e) * 3125 / 2560
      l.breach = false → now > (u - e) * 3125 / 2560 + max 1 (b.regFld Reg.OUT_XOFF_HOLD 15 0) → CompletesB (.breachBegin n t) s s1 (fun b' =>
        (b'.lanes[n]).breach = true ∧ (b'.lanes[n]).breachAt = now ∧ (∀ k : Fin 16, k ≠ n → b'.lanes[k] = b.lanes[k]) ∧
        b'.ctr Reg.OUT_L_BREACH n = ctrAdd (b.ctr Reg.OUT_L_BREACH n) 1 ∧ b'.regBit (evtRaw 0x006) 0 = true)) ∧
    (l.breach = true ∨ l.enabledAt = none ∨ b.domOn (32 + n) = false → CompletesB (.breachBegin n t) s s1 (fun b' => b' = b)) ∧
    (l.breach = false → CompletesB (.breachEnd n t) s s1 (fun b' => b' = b)) ∧
    (∀ e, l.breach = true → l.heldFrom = none → l.holds = [] → l.enabledAt = some e → b.ek4 = false →
      let win := 2 ^ max 10 (min 20 (b.regFld Reg.OUT_XOFF_WIN 4 0))
      let whole := (b.up - e) * 3125 / 2560 / win * win
      (whole = 0 ∨ whole ≤ l.breachAt → CompletesB (.breachEnd n t) s s1 (fun b' => b' = b)) ∧
      (whole ≠ 0 → l.breachAt < whole → CompletesB (.breachEnd n t) s s1 (fun b' =>
        b' = ({ b with lanes := b.lanes.set n { l with breach := false } }).raise 0x006 1))) ∧
    (∀ e, l.enabledAt = some e → b.ek4 = false →
      ((b.up - e) * 3125 / 2560 < 4096 → CompletesB (.laneStartupDone n t) s s1 (fun b' => b' = b)) ∧
      (4096 ≤ (b.up - e) * 3125 / 2560 → CompletesB (.laneStartupDone n t) s s1 (only { l with started := true }))) ∧
    (l.enabledAt = none → CompletesB (.laneStartupDone n t) s s1 (fun b' => b' = b)) ∧
    (s.b.sort.running = true → CompletesB (.outEk4Write v) s s (fun b' => b' = (s.b.setRegBit Reg.OUT_STATUS 31 true).raise 0x006 4)) ∧
    (s.b.sort.running = false → CompletesB (.outEk4Write v) s s (fun b' => b'.regBit Reg.OUT_CTRL 1 = v ∧
      (∀ i, i ≠ 1 → b'.regBit Reg.OUT_CTRL i = s.b.regBit Reg.OUT_CTRL i) ∧ BRegsBut [Reg.OUT_CTRL] s.b b' ∧
      (v = true → b'.tarn.requests = []) ∧
      (v = false ∨ s.b.tarn.requests = [] → b' = { s.b with regs := b'.regs, lanes := b'.lanes } ∧
        ∀ k : Fin 16, b'.lanes[k] = { s.b.lanes[k] with heldDone := (b'.lanes[k]).heldDone })))

/-- Crossings and soft triggers generate marks, windows close, annotations are issued, hold is repeated. A rising comparator
that its input has armed, out beyond threshold and hysteresis at the limits of R192, fires above the threshold and not below it;
a falling one the other way (R192). One that does not fire, or whose source is off, generates nothing. With no path delay, a
crossing fine steps of 2.5 ps before tick edge t gives a mark of tick t and that fine time; one on the edge gives tick t + 1 and
fine 1,250. A crossing within the holdoff (at least 4 ticks) of the last mark only raises event 1 (R193). A mark takes the next
sequence number, opens its window, counts, raises event 0 and joins the mark queue of the express lane; with the express path
off, or the queue full, it is dropped and the next mark carries lost (R184, R194, R195). It takes its number before a mark of a
higher source in the same tick (R193). A soft trigger is a source 4 mark at the next tick, fine 0. The window of a mark closes at
t + W. An annotation goes out at t + W + 12,288 or later, not before, with sequence, dropped, W, tick, and the sum of cells times
overlap of every record not older than the counter can tell (R125, R196, R197). Hold is repeated to every owned port while it is
needed (R69). [spec/10_triggers_rate_deadtime.md, spec/09_output_stream.md, spec/04_calibration.md, spec/07_time_base.md] -/
def Obligations.TriggerMarks : Prop :=
  ∀ (s : State) (n : Fin 4) (t : Tick) (fine : Fin 1250) (peak level : Int) (q : BitVec 16),
    let s1 := reachB t s
    let c0 := s1.b
    let cfg := fun (b : Bolov) (k : Nat) => b.reg (Reg.TRG_SRC_CFG k)
    let fires := (c0.comparator n peak level).1
    let c := { c0 with trg := { c0.trg with armed := setBit c0.trg.armed n (c0.comparator n peak level).2 } }
    let hear := fun (P : Bolov → Prop) => CompletesB (.trigInCrossing n t ⟨fine, peak, level⟩) s s1 P
    let made := fun (b : Bolov) (k : Nat) (tick : Tick) (edge fine : Nat) (dropped : Bool) (b' : Bolov) =>
      let w := fld (cfg b k) 23 16
      let prot := bit (cfg b k).toNat 29
      b'.trg.seq = b.trg.seq + 1 ∧
      b'.trg.marks = b.trg.marks ++ [⟨b.up, edge, k, tick, w, b.trg.seq, prot,
        later (tick + BitVec.ofNat 48 (16 * w)) b.tick, dropped, false⟩] ∧
      b'.ctr (Reg.TRG_SRC_MARKS k) 0 = ctrAdd (b.ctr (Reg.TRG_SRC_MARKS k) 0) 1 ∧ b'.regBit (evtRaw 0x007) 0 = true ∧
      (∀ i : Fin 16, i ≠ b.expressHome → b'.lanes[i] = b.lanes[i]) ∧
      (dropped = false → b'.trg.lost = b.trg.lost ∧ b'.lanes[b.expressHome] = { b.lanes[b.expressHome] with
        markQ := (b.lanes[b.expressHome]).markQ ++ [.mark k (decide (k < 4) && bit (cfg b k).toNat 30) prot tick b.trg.seq fine w 0xFF] }) ∧
      (dropped = true → b'.trg.lost = true ∧ b'.lanes[b.expressHome] = b.lanes[b.expressHome])
    let set : Int := (min 3000 (c0.regFld (Reg.TRG_SRC_LEVEL n) 27 16) : Nat) * 1000 - 1000000
    let tol : Int := 5000 + (set.natAbs / 200 : Nat)
    let hyst : Nat := max 5 (min 200 (c0.regFld (Reg.TRG_SRC_LEVEL n) 7 0)) * 1000
    let wide : Int := tol + (hyst + hyst / 5 + 2000 : Nat)
    (bit (cfg c0 n).toNat 30 = false → (peak < set - wide → set + tol < level → c0.comparator n peak level = (true, false)) ∧
      (level ≤ set - tol → fires = false)) ∧
    (bit (cfg c0 n).toNat 30 = true → (set + wide < peak → level < set - tol → c0.comparator n peak level = (true, false)) ∧
      (set + tol ≤ level → fires = false)) ∧
    (fires = false ∨ bit (cfg c n).toNat 31 = false → hear (fun b' => b' = c)) ∧
    (bit (cfg s.b 4).toNat 31 = false → CompletesB .softTrigger s s (fun b' => b' = s.b)) ∧
    (fires = true → bit (cfg c n).toNat 31 = true → c.reg (Reg.TRG_SRC_DELAY n) = 0 →
      let tick := if fine.val = 0 then c.tick + 1 else c.tick
      let f := if fine.val = 0 then 1250 else fine.val
      let hold := max 4 (fld (cfg c n) 15 0)
      let close := fun (l : Tick × Nat) => c.recent l.2 && later (l.1 + BitVec.ofNat 48 hold) tick
      (∀ l, fget none c.trg.lastMark n = some l → close l = true → hear (fun b' => b' = c.raise 0x007 1)) ∧
      (fget none c.trg.lastMark n = none ∨ (∃ l, fget none c.trg.lastMark n = some l ∧ close l = false) →
        c.pod.state = .off → bit (cfg c n).toNat 28 = false →
        ((∀ m ∈ c.trg.marks, m.edge ≠ c.up ∨ m.source ≤ n) →
          (c.expressOn = true → (c.lanes[c.expressHome]).markQ.length < 16 → hear (fun b' =>
            made c n tick c.up f false b' ∧ fget none b'.trg.lastMark n = some (tick, c.up))) ∧
          (c.expressOn = true → 16 ≤ (c.lanes[c.expressHome]).markQ.length → hear (fun b' => made c n tick c.up f true b' ∧
            b'.ctr Reg.OUT_L_EXP_DROP c.expressHome.val = ctrAdd (c.ctr Reg.OUT_L_EXP_DROP c.expressHome.val) 1)) ∧
          (c.expressOn = false → hear (made c n tick c.up f true))) ∧
        (∀ (m : Mark) (rest : List Mark), c.trg.marks = rest ++ [m] → m.edge = c.up → (n : Nat) < m.source → m.dropped = true →
          m.annotated = false → c.recent m.at' = true → m.seq = c.trg.seq - 1 →
          (∀ r ∈ rest, r.edge ≠ c.up ∧ r.seq ≠ m.seq) → c.expressOn = false → hear (fun b' => b'.trg.seq = c.trg.seq + 1 ∧
            ∃ m' : Mark, b'.trg.marks = rest ++ [m', { m with seq := m.seq + 1 }] ∧ m'.source = n ∧ m'.tick = tick ∧ m'.seq = m.seq)))) ∧
    (bit (cfg s.b 4).toNat 31 = true → bit (cfg s.b 4).toNat 28 = false → s.b.pod.state = .off →
      (∀ m ∈ s.b.trg.marks, m.edge ≠ s.b.up + 1 ∨ m.source ≤ 4) →
      (s.b.expressOn = true → (s.b.lanes[s.b.expressHome]).markQ.length < 16 →
        CompletesB .softTrigger s s (made s.b 4 (s.b.tick + 1) (s.b.up + 1) 0 false)) ∧
      (s.b.expressOn = false → CompletesB .softTrigger s s (made s.b 4 (s.b.tick + 1) (s.b.up + 1) 0 true))) ∧
    CompletesB (.protectedWindowClose t) s s1 (fun b' => b' = { c0 with trg := b'.trg, ports := b'.ports, rate := b'.rate } ∧
      b'.trg = { c0.trg with marks := c0.trg.marks.map (fun m => if notBefore c0.tick (m.tick + BitVec.ofNat 48 (16 * m.w)) then { m with windowOpen := false } else m) }) ∧
    ((∀ m ∈ c0.trg.marks, m.seq = q → m.annotated = true) → CompletesB (.annotationIssue q t) s s1 (fun b' => b' = c0)) ∧
    (∀ m, c0.trg.marks.find? (fun m => m.seq == q && !m.annotated) = some m →
      let a := m.tick - BitVec.ofNat 48 (16 * m.w)
      let z := m.tick + BitVec.ofNat 48 (16 * m.w)
      (notBefore c0.tick (m.tick + BitVec.ofNat 48 (16 * m.w + 12288)) = false → CompletesB (.annotationIssue q t) s s1 (fun b' => b' = c0)) ∧
      (notBefore c0.tick (m.tick + BitVec.ofNat 48 (16 * m.w + 12288)) = true → c0.ek4 = false → (∀ e ∈ c0.ports, e.2.downFrom = none) →
        CompletesB (.annotationIssue q t) s s1 (fun b' => ∃ ws : List W64, b'.notices = c0.notices ++ [⟨ws, some a⟩] ∧ ws.length = 7 ∧
          ws.getD 0 0 = word64 [(8, 2), (8, 7), (16, q.toNat), (1, b2n m.dropped), (31, 0)] ∧
          ws.getD 1 0 = word64 [(16, 16 * m.w), (48, m.tick.toNat)] ∧
          (ws.getD 6 0).toNat = min (2 ^ 64 - 1) (((c0.issued.filter (fun x => c0.recent x.1)).map (fun x =>
            c0.dtCells x.2 * overlapTicks x.2.start x.2.stop a z)).foldl (· + ·) 0) ∧
          b'.regBit (evtRaw 0x007) 2 = true ∧ b'.trg.marks.length = c0.trg.marks.length ∧
          b'.trg.marks.find? (fun m => m.seq == q && !m.annotated) = none))) ∧
    (c0.rate.stage < 2 → (∀ m ∈ c0.trg.marks, m.protect = false ∨ m.windowOpen = false) → CompletesB (.calHoldRepeat t) s s1 (fun b' => b' = c0)) ∧
    (2 ≤ c0.rate.stage ∨ (∃ m ∈ c0.trg.marks, m.protect = true ∧ m.windowOpen = true) → CompletesB (.calHoldRepeat t) s s1 (fun b' =>
      b' = { c0 with ports := b'.ports, rate := { c0.rate with holding := true, holdAt := c0.up } } ∧
      ∀ p < 128, b'.port p = { c0.port p with commands := (c0.port p).commands ++ (if (c0.port p).owner then [{ op := 3, arg := 3, payload := 0 }] else []) }))

/-- Interval units: run, stop and post; edges that open and close samples; timeouts, gates and GATE_IN. A write to a unit
that a port holds only sets cfg_ignored (R221). Set to run, a stopped unit takes its mode bits and starts with empty
accumulators, its result kept (R217, R223). Run cleared discards the accumulators and posts nothing; post with samples
copies them with early, mean and deviation, one on in sequence, raises event 4n and stops; with none it only stops (R219).
With no other unit active, a start edge opens a sample of an armed unit in interval mode; a stop edge less than 480 ps later
is not taken; one 500 ps or later and within the timeout closes it with x = round(difference in 2^-10 ns) less the offset; a
first sample becomes pivot, min and max with sums 0 (R213, R215, R218). A tick edge has f = 0 (R213). A sample open at its timeout is missed, counted,
event 4n + 1; before it is not (R216). In frequency mode a measured edge before the gate bound is counted; the first at or after it,
within the timeout, closes the gate with the edges counted after its opening edge, plus one (R220). A
GATE_IN that does not change its level does nothing. [spec/11_interval_statistics.md] -/
def Obligations.IntervalUnits : Prop :=
  ∀ (s : State) (n : Fin 4) (v : Word) (t : Tick) (f : Nat) (take : Bool) (kind : BitVec 4) (index : Byte) (falling level : Bool),
    let s1 := reachB t s
    let c := s1.b
    let ctrl := Reg.IS_n_CTRL n
    let only := fun (a : Bolov) (x : IsUnit) (b' : Bolov) => b'.unit n = x ∧ (∀ k : Fin 4, k ≠ n → b'.unit k = a.unit k) ∧ b' = { a with isu := b'.isu }
    let fresh : IsUnit := { result := (s.b.unit n).result }
    let closed := fun (a z : Stamp) (b' : Bolov) =>
      let x : Int := (2 * ((tickDiff z.t a.t : Int) * 320000 - (z.f - a.f : Int) * 256) + 100) / 200 - (if (c.unit n).link.isSome then 0 else signed 32 (c.reg (Reg.IS_n_OFFSET n)).toNat)
      (b'.unit n).opened = some z ∧ (b'.unit n).edges = 0 ∧ (b'.unit n).acc.count = (c.unit n).acc.count + 1 ∧
      (b'.unit n).acc.min = (if (c.unit n).acc.count = 0 ∨ x < (c.unit n).acc.min then x else (c.unit n).acc.min) ∧
      (b'.unit n).acc.edges = (c.unit n).acc.edges + (c.unit n).edges + 1 ∧ (∀ k : Fin 4, k ≠ n → b'.unit k = c.unit k) ∧
      b' = { c with isu := b'.isu }
    ((s.b.unit n).link.isSome = true →
      CompletesB (.isRunSet n v) s s (fun b' => b' = s.b.setRegBit (Reg.IS_n_STATUS n) 27 true) ∧
      CompletesB (.isRunClear n v) s s (fun b' => b' = s.b.setRegBit (Reg.IS_n_STATUS n) 27 true) ∧
      CompletesB (.isPost n v) s s (fun b' => b' = s.b.setRegBit (Reg.IS_n_STATUS n) 27 true)) ∧
    ((s.b.unit n).link = none →
      (s.b.isRun n = false → CompletesB (.isRunSet n v) s s (fun b' => b'.unit n = fresh ∧ (∀ k : Fin 4, k ≠ n → b'.unit k = s.b.unit k) ∧
        b'.reg ctrl = (v &&& 0x3E000000) ||| 0x80000000 ∧ BRegsBut [ctrl] s.b b' ∧ b' = { s.b with isu := b'.isu, regs := b'.regs })) ∧
      (s.b.isRun n = true → s.b.reg ctrl = (v &&& 0x3E000000) ||| 0x80000000 →
        CompletesB (.isRunSet n v) s s (fun b' => b' = s.b) ∧
        CompletesB (.isRunClear n v) s s (fun b' => b'.unit n = fresh ∧ (∀ k : Fin 4, k ≠ n → b'.unit k = s.b.unit k) ∧
          b'.isRun n = false ∧ BRegsBut [ctrl] s.b b' ∧ b' = { s.b with isu := b'.isu, regs := b'.regs }) ∧
        ((s.b.unit n).acc.count = 0 → CompletesB (.isPost n v) s s (fun b' => b'.unit n = fresh ∧ b'.isRun n = false ∧ b' = { s.b with isu := b'.isu, regs := b'.regs })) ∧
        ((s.b.unit n).acc.count ≠ 0 → CompletesB (.isPost n v) s s (fun b' =>
          let a := (s.b.unit n).acc
          (b'.unit n).result = { acc := a, early := true, freq := s.b.isFreq n, mean := (2 * (256 * (a.pivot * a.count + a.sum)) + a.count) / (2 * a.count), sd := a.sd, seq := fresh.result.seq + 1 } ∧
          (b'.unit n).acc = {} ∧ (b'.unit n).opened = none ∧ b'.isRun n = false ∧ b'.regBit (evtRaw 0x009) (4 * n) = true ∧
          ∀ k : Fin 4, k ≠ n → b'.unit k = s.b.unit k)))) ∧
    ((∀ k, c.isActive k = false) ∨ kind = 0 ∨ kind = 2 ∨ 7 ≤ kind.toNat →
      CompletesB (.isEdge kind index falling t f take) s s1 (fun b' => b' = c)) ∧
    (kind = 3 ∨ kind = 4 ∨ kind = 5 ∨ kind = 6 → index = 0 → c.isActive n = true → (∀ k, k ≠ n → c.isActive k = false) → c.isFreq n = false →
      let src : IsSource := (kind.toNat, false, 0)
      let f := if kind = 4 then 0 else f
      let u := c.unit n
      (u.opened = none → c.isStart n = src → u.closed = none → c.isArmed n = true →
        CompletesB (.isEdge kind index falling t f take) s s1 (only c { u with opened := some ⟨t, f⟩, edges := 0 })) ∧
      (u.opened = none → c.isStart n = src → c.isArmed n = false →
        CompletesB (.isEdge kind index falling t f take) s s1 (fun b' => b' = c)) ∧
      (∀ a, u.opened = some a → stampDiff a ⟨t, f⟩ < 192 → CompletesB (.isEdge kind index falling t f take) s s1 (fun b' => b' = c)) ∧
      (∀ a, u.opened = some a → c.isStop n = src → c.isStart n ≠ src → 200 ≤ stampDiff a ⟨t, f⟩ → stampDiff a ⟨t, f⟩ ≤ (c.isTimeout n : Int) * 1250 →
        u.acc.count = 0 → u.acc.edges = 0 → 1 < c.isN n → u.link = none →
        let x : Int := (2 * ((tickDiff t a.t : Int) * 320000 - (f - a.f : Int) * 256) + 100) / 200 - signed 32 (c.reg (Reg.IS_n_OFFSET n)).toNat
        CompletesB (.isEdge kind index falling t f take) s s1 (only c { u with opened := none, closed := some ⟨t, f⟩, acc := { count := 1, pivot := x, min := x, max := x, sum := 0, sumsq := 0, clipped := false, refLost := u.acc.refLost || c.refShaky, edges := 0 } }))) ∧
    (kind = 3 ∨ kind = 4 ∨ kind = 5 ∨ kind = 6 → index = 0 → c.isRun n = true → (∀ k, k ≠ n → c.isActive k = false) → c.isFreq n = true →
      c.isStop n = (kind.toNat, false, 0) →
      let f := if kind = 4 then 0 else f
      ∀ a, (c.unit n).opened = some a →
        (stampDiff a ⟨t, f⟩ < (c.isGate n : Int) * 1250 →
          CompletesB (.isEdge kind index falling t f take) s s1 (only c { c.unit n with edges := (c.unit n).edges + 1 })) ∧
        ((c.isGate n : Int) * 1250 ≤ stampDiff a ⟨t, f⟩ → stampDiff a ⟨t, f⟩ ≤ c.isBound n →
          (c.unit n).acc.count + 1 < c.isN n → c.isArmed n = true →
          CompletesB (.isEdge kind index falling t f take) s s1 (closed a ⟨t, f⟩))) ∧
    ((c.unit n).opened = none → CompletesB (.isSampleTimeout n t) s s1 (fun b' => b' = c) ∧ CompletesB (.isGateClose n t f) s s1 (fun b' => b' = c)) ∧
    (∀ a, (c.unit n).opened = some a →
      (stampDiff a ⟨c.tick, 0⟩ < c.isBound n → CompletesB (.isSampleTimeout n t) s s1 (fun b' => b' = c)) ∧
      (c.isBound n ≤ stampDiff a ⟨c.tick, 0⟩ → CompletesB (.isSampleTimeout n t) s s1 (fun b' =>
        b' = ((c.modUnit n (fun u => { u with opened := none, edges := 0 })).count (Reg.IS_n_MISSED n) 1).raise 0x009 (4 * n + 1))) ∧
      (c.isFreq n = true → c.isRun n = true → (c.isGate n : Int) * 1250 ≤ stampDiff a ⟨t, f⟩ → stampDiff a ⟨t, f⟩ ≤ c.isBound n →
        (c.unit n).acc.count + 1 < c.isN n → c.isArmed n = true → CompletesB (.isGateClose n t f) s s1 (closed a ⟨t, f⟩))) ∧
    (c.gateIn = level → CompletesB (.gateInEdge level t f) s s1 (fun b' => b' = c)) ∧
    (c.gateIn ≠ level → (∀ k, c.isActive k = false) → CompletesB (.gateInEdge level t f) s s1 (fun b' => b' = { c with gateIn := level }))

/-- Training clears the ring and ends in ready or off; lines are written, and late ones become skip entries. Training clears
the ring and the marks, takes density and rate as they stand, and takes Tarn out of use; replays that run end ABORTED, those
that wait NOT_FOUND (R226, R243, R244). It ends ready, with the history lines of the density, when no device failed and every
channel is on, else off with the failing devices and event 3 (R226, R227, R368). A channel that fails its repeated training while
Tarn is ready takes Tarn off in the same way. A line write of an entry that is not in the ring, is complete, whose words are not
sent yet, or which would go into the filled part of a pinned range, or while Tarn is off, does nothing; else one more line of the
entry is written, retries count up to 4, a burst wrong five times counts as failed, and the line's check joins the check line of
its group (R225, R227, R229, R230, R235). An entry with a line still to write 65,536 ticks after its words were sent becomes a
skip entry of the same length, counted in TARN_LOST with event 2, and the sequence closes over it while no later entry is written;
earlier nothing happens (R228, R231). [spec/12_tarn_replay.md, spec/13_memory_integrity.md, spec/20_power_reset_radiation.md] -/
def Obligations.TarnRingAndTraining : Prop :=
  ∀ (s : State) (t : Tick) (fail : BitVec 8) (ch : Fin 8) (ok : Bool) (pos : Nat) (bad checkBad : Fin 6),
    let s1 := reachB t s
    let b := s1.b
    let cleared := { s.b.tarn with
      w := 0, entries := [], marks := [], waypoints := [], lastFrame := none, groups := [], ready := false, training := true, trainFrom := s.b.up, dense := s.b.regBit Reg.TARN_CTRL 27, rate := BitVec.ofNat 2 (s.b.regFld Reg.TARN_CTRL 29 28) }
    (s.b.tarn.requests = [] → CompletesB .tarnTrain s s (fun b' => b' = { s.b with tarn := cleared })) ∧
    (∀ r, s.b.tarn.requests = [r] → r.active = false → CompletesB .tarnTrain s s (fun b' =>
      b'.tarn = { cleared with requests := [], answered := r.id :: s.b.tarn.answered } ∧
      b'.queues[4].records = s.b.queues[4].records ++ [replayRecord r.id 4 false r.lane r.frames r.first r.last r.units r.poisoned] ∧
      b' = { s.b with tarn := b'.tarn, queues := b'.queues })) ∧
    (b.tarn.training = false → CompletesB (.tarnTrainingComplete fail t) s s1 (fun b' => b' = b)) ∧
    (b.tarn.training = true → fail = 0 → (∀ k < 8, b.domOn (64 + k) = true) →
      CompletesB (.tarnTrainingComplete fail t) s s1 (fun b' => b' = { b with tarn :=
        { b.tarn with ready := true, training := false, fail := 0, hist := if b.tarn.dense then 477218584 else 238609288 } })) ∧
    (b.tarn.training = true → fail ≠ 0 ∨ (∃ k < 8, b.domOn (64 + k) = false) →
      CompletesB (.tarnTrainingComplete fail t) s s1 (fun b' => ∃ off : BitVec 8,
        (∀ k < 8, off.getLsbD k = (fail.getLsbD k || !b.domOn (64 + k))) ∧
        b' = ({ b with tarn := { b.tarn with ready := false, training := false, fail := off } }).raise 0x00A 3)) ∧
    (ok = true ∨ b.tarn.ready = false → CompletesB (.tarnPeriodicRetrain ch ok t) s s1 (fun b' => b' = b)) ∧
    (b.tarn.ready = true → b.tarn.requests = [] → CompletesB (.tarnPeriodicRetrain ch false t) s s1 (fun b' =>
      b' = ({ b with tarn := { b.tarn with ready := false, training := false, fail := setBit b.tarn.fail ch true } }).raise 0x00A 3)) ∧
    ((∀ e ∈ b.tarn.entries, e.pos ≠ pos) → CompletesB (.tarnLineWrite pos bad checkBad t) s s1 (fun b' => b' = b) ∧
      CompletesB (.tarnWriteTimeout pos t) s s1 (fun b' => b' = b)) ∧
    (∀ e, b.tarn.entries.find? (fun x => x.pos == pos) = some e →
      let p := pos + e.filled
      let h := p % b.tarn.hist
      let apart := fun (q n : Nat) => ∀ x ∈ b.tarn.entries, x.pos < pos → x.pos + x.lines ≤ q ∧ q + n ≤ x.pos + b.tarn.hist
      (e.lines ≤ e.filled ∨ b.tarnOn = false ∨ b.lineSent e e.filled b.up = false ∨ b.lineKept p = true →
        CompletesB (.tarnLineWrite pos bad checkBad t) s s1 (fun b' => b' = b)) ∧
      (e.filled < e.lines → b.tarnOn = true → b.lineSent e e.filled b.up = true → b.lineKept p = false → apart p 1 →
        CompletesB (.tarnLineWrite pos bad checkBad t) s s1 (fun b' =>
          b'.tarn.entries = b.tarn.entries.map (fun x => if x.pos = pos then { x with filled := x.filled + 1 } else x) ∧
          b'.tarn.w = b.tarn.w ∧ b'.tarn.seq = b.tarn.seq ∧
          (checkBad = 0 →
            b'.ctr Reg.TARN_EDC_RETRY 0 = (if bad = 0 then b.ctr Reg.TARN_EDC_RETRY 0 else ctrAdd (b.ctr Reg.TARN_EDC_RETRY 0) (min 4 bad)) ∧
            b'.ctr Reg.TARN_EDC_FAIL 0 = (if bad = 5 then ctrAdd (b.ctr Reg.TARN_EDC_FAIL 0) 1 else b.ctr Reg.TARN_EDC_FAIL 0)) ∧
          (fget none b.tarn.groups (h / 8) = none → 8 * (h / 8) + 7 < b.tarn.hist → (∀ q, b.lineKept q = false) →
            ∃ done line, fget none b'.tarn.groups (h / 8) = some (done, line) ∧ done.getLsbD (h % 8) = true ∧
              fld line (255 - 32 * (h % 8)) (224 - 32 * (h % 8)) = (lineCheck (tarnLine (physLine h)) (e.line e.filled)).toNat))) ∧
      (b.up < 65536 ∨ b.lineSent e e.filled (b.up - 65536) = false ∨ e.lines ≤ e.filled ∨ e.kind = 0xF →
        CompletesB (.tarnWriteTimeout pos t) s s1 (fun b' => b' = b)) ∧
      (65536 ≤ b.up → b.lineSent e e.filled (b.up - 65536) = true → e.filled < e.lines → e.kind ≠ 0xF → apart pos e.lines →
        let skip := { skipEntry b.up (pos, e.lines) with filled := e.lines }
        CompletesB (.tarnWriteTimeout pos t) s s1 (fun b' => skip.kind = 0xF ∧ skip.lines = e.lines ∧ skip.seq = 0 ∧
          ((∃ x ∈ b.tarn.entries, pos < x.pos ∧ x.kind ≠ 0xF ∧ x.filled ≠ 0) → b'.tarn.seq = b.tarn.seq ∧
            b'.tarn.entries = b.tarn.entries.map (fun x => if x.pos = pos then skip else x)) ∧
          ((∀ x ∈ b.tarn.entries, pos < x.pos → x.kind = 0xF ∨ x.filled = 0) → b'.tarn.seq = (b.tarn.seq + 2 ^ 32 - 1) % 2 ^ 32 ∧
            b'.tarn.entries = b.tarn.entries.map (fun x => if x.pos = pos then skip
              else if pos < x.pos ∧ x.kind ≠ 0xF then { x with seq := (x.seq + 2 ^ 32 - 1) % 2 ^ 32 } else x)) ∧
          b'.ctr Reg.TARN_LOST 0 = ctrAdd (b.ctr Reg.TARN_LOST 0) 1 ∧ b'.regBit (evtRaw 0x00A) 2 = true)))

/-- Mark commands: place by slice or time of day, pin, unpin, free, and their results. While one is being carried out the next
is ignored (R244). With lines that read clean: a mark command while Tarn is off only gives result 5. Placing on an index in use gives result 1. A slice whose frame is written
makes the mark live at its entry; a slice newer than every frame makes it pending; any other gives result 2. A time of day
takes the first frame that starts at or after it; behind the newest written frame the result is 2. A pin of a free or overtaken mark gives result
4 and event 1; one that takes the pinned lines over the limit gives 3 and event 1; else the mark is pinned with its length.
Unpin and free of a mark that can be unpinned or freed do so, else result 4. No other mark changes (R232 to R235).
[spec/12_tarn_replay.md] -/
def Obligations.TarnMarks : Prop :=
  ∀ (s : State) (i : Fin 64) (slice : BitVec 48) (sec : BitVec 64) (ns : BitVec 30) (len : BitVec 20),
    let b := s.b
    let m := b.mark i
    let till := b.up + Config.markTime b.up
    let cmds := [Instr.tarnMarkPlaceSlice i slice, .tarnMarkPlaceTod i sec ns, .tarnMarkPin i len, .tarnMarkUnpin i, .tarnMarkFree i]
    let res := fun (x : Bolov) (n : Nat) => ({ x with tarn := { x.tarn with markRes := n, markUntil := till } } : Bolov)
    let set := fun (x : TMark) (b' : Bolov) => b'.mark i = x ∧ (∀ k, k ≠ (i : Nat) → b'.mark k = b.mark k) ∧ b'.tarn.markRes = 0 ∧
      b' = { b with tarn := { b.tarn with marks := b'.tarn.marks, markRes := 0, markUntil := till } }
    let todOf := (sec.toNat * 1000000000 + ns.toNat) * 2 ^ 32
    (b.up < b.tarn.markUntil → ∀ c ∈ cmds, CompletesB c s s (fun b' => b' = b)) ∧
    (b.tarn.markUntil ≤ b.up → (∀ a, CleanLine a b) → b.tarnOn = false → ∀ c ∈ cmds, CompletesB c s s (fun b' => b' = res b 5)) ∧
    (b.tarn.markUntil ≤ b.up → (∀ a, CleanLine a b) → b.tarnOn = true →
      (m.state ≠ .free → CompletesB (.tarnMarkPlaceSlice i slice) s s (fun b' => b' = res b 1) ∧
        CompletesB (.tarnMarkPlaceTod i sec ns) s s (fun b' => b' = res b 1) ∧ CompletesB (.tarnMarkFree i) s s (set {})) ∧
      (m.state = .free → CompletesB (.tarnMarkFree i) s s (fun b' => b' = res b 4) ∧
        (∀ e, b.frameOf slice.toNat = some e → CompletesB (.tarnMarkPlaceSlice i slice) s s (set { state := .live, pos := e.pos, slice := slice.toNat })) ∧
        (b.frameOf slice.toNat = none → (∀ e ∈ b.tarn.entries, e.isFrame = true → e.slice < slice.toNat) →
          CompletesB (.tarnMarkPlaceSlice i slice) s s (set { state := .pending, slice := slice.toNat })) ∧
        (∀ e, b.frameOf slice.toNat = none → b.newestFrame = some e → slice.toNat ≤ e.slice →
          CompletesB (.tarnMarkPlaceSlice i slice) s s (fun b' => b' = res b 2)) ∧
        (∀ w e, b.newestWritten = some w → todOf ≤ w.tod →
          b.tarn.entries.find? (fun e => e.isFrame && decide (todOf ≤ e.tod)) = some e →
          CompletesB (.tarnMarkPlaceTod i sec ns) s s (set { state := .live, pos := e.pos, slice := e.slice })) ∧
        (b.newestWritten = none ∨ (∃ w, b.newestWritten = some w ∧ w.tod < todOf) → CompletesB (.tarnMarkPlaceTod i sec ns) s s (fun b' => b' = res b 2))) ∧
      (m.state = .free ∨ m.state = .overtaken → CompletesB (.tarnMarkPin i len) s s (fun b' => b' = res (b.raise 0x00A 1) 4) ∧
        CompletesB (.tarnMarkUnpin i) s s (fun b' => b' = res b 4)) ∧
      (m.state = .live ∨ m.state = .pending → CompletesB (.tarnMarkUnpin i) s s (set { m with pinned := false, pinLen := 0 })) ∧
      (m.state = .live → (∀ k, k ≠ (i : Nat) → (b.mark k).pinned = false) → m.pos % b.tarn.hist + len.toNat * 4096 ≤ b.tarn.hist → 0 < len.toNat →
        (len.toNat * 4096 ≤ b.tarn.hist * min 90 (b.regFld Reg.TARN_PIN_MAX 6 0) / 100 →
          CompletesB (.tarnMarkPin i len) s s (set { m with pinned := true, pinLen := len.toNat })) ∧
        (b.tarn.hist * min 90 (b.regFld Reg.TARN_PIN_MAX 6 0) / 100 < len.toNat * 4096 →
          CompletesB (.tarnMarkPin i len) s s (fun b' => b' = res (b.raise 0x00A 1) 3))))

/-- Replay descriptors are accepted, aborted, started, and read entry by entry on their lane. With lines that read clean and a
record free in REPLAY_DONE: a descriptor whose ring or lane is off is answered NOT_FOUND; one from the oldest to the newest written
frame joins the table in a free place with its id, lane, priority, express, mask, start and end (R236, R237). An abort of the only
request ends it with its record ABORTED, or marks it while its unit is under way; one of an id whose record is posted is answered
ALREADY_DONE, of an unknown id NOT_FOUND, both with abort = 1 (R242, R243). A lane that is disabled, has no request, or one that
runs, starts none; a single waiting request starts (R239). The reader does nothing with no running request, on a lane held, in
breach, or still sending. Else the unit before counts as delivered; the next frame of the range begins with SOF 0xB5 where its mask
selects it and it keeps the guard; a request whose last frame is out, or whose range lies behind, ends DONE, one marked by an abort
ABORTED (R238 to R243). [spec/12_tarn_replay.md, spec/09_output_stream.md] -/
def Obligations.ReplayRequests : Prop :=
  ∀ (s : State) (n : Fin 16) (t : Tick) (passed : Option Nat) (reads : List LineRead),
    let s1 := reachB t s
    let b := s1.b
    let c := b.withFlaws reads
    let room := b.qRoom 4
    let put := fun (b' : Bolov) (rec' : List W64) => b'.queues[4].records = b.queues[4].records ++ [rec']
    let popped := fun (b' : Bolov) => b'.queues[3].records = b.queues[3].records.drop 1
    (b.queues[3].records = [] → CompletesB (.replayAccept t) s s1 (fun b' => b' = b) ∧ CompletesB (.replayAbort t) s s1 (fun b' => b' = b)) ∧
    (∀ (d : List W64) (rest : List (List W64)), b.queues[3].records = d :: rest →
      let w0 := d.getD 0 0
      let id : BitVec 16 := BitVec.ofNat 16 (fld w0 63 48)
      let lane : Fin 16 := Fin.ofNat 16 (fld w0 43 40)
      (bit w0.toNat 36 = true ∨ 32 ≤ b.tarn.requests.length ∨ room = false → CompletesB (.replayAccept t) s s1 (fun b' => b' = b)) ∧
      (bit w0.toNat 36 = false → CompletesB (.replayAbort t) s s1 (fun b' => b' = b)) ∧
      (bit w0.toNat 36 = false → b.tarn.requests.length < 32 → room = true → (∀ a, CleanLine a b) →
        (b.tarnOn = false ∨ b.laneEnabled lane = false → CompletesB (.replayAccept t) s s1 (fun b' =>
          put b' (replayRecord id 4 false lane 0 0 0 0 0) ∧ popped b' ∧ b'.tarn.requests = b.tarn.requests)) ∧
        (∀ e0 e1, b.tarnOn = true → b.laneEnabled lane = true → fld w0 47 46 = 2 → fld w0 45 44 = 2 →
          b.oldestFrame = some e0 → b.newestWritten = some e1 → e0.slice ≤ e1.slice →
          CompletesB (.replayAccept t) s s1 (fun b' => popped b' ∧ b'.queues[4] = { b.queues[4] with reserved := b.queues[4].reserved + 1 } ∧
            b'.tarn = { b.tarn with requests := b.tarn.requests ++ [{ id := id, lane := lane, slot := b.requestSlot, priority := fld w0 39 38, express := bit w0.toNat 37, mask := fld w0 23 20, next := e0.pos, stop := .slice e1.slice, truncated := false }] } ∧
            (∀ r ∈ b.tarn.requests, r.slot ≠ b.requestSlot)))) ∧
      (bit w0.toNat 36 = true →
        (∀ r, b.tarn.requests = [r] → r.id = id → r.aborted = false →
          (r.active = false ∨ r.unit = none → CompletesB (.replayAbort t) s s1 (fun b' =>
            put b' (replayRecord id 3 false r.lane r.frames r.first r.last r.units r.poisoned) ∧ popped b' ∧ b'.tarn.requests = [])) ∧
          (r.active = true → r.unit.isSome = true → b.replayIdle r.lane = false → CompletesB (.replayAbort t) s s1 (fun b' =>
            b'.queues[4] = b.queues[4] ∧ popped b' ∧ b'.tarn = { b.tarn with requests := [{ r with aborted := true }] }))) ∧
        (b.tarn.requests = [] → room = true → CompletesB (.replayAbort t) s s1 (fun b' => popped b' ∧ b'.tarn = b.tarn ∧
          put b' (replayRecord id (if b.tarn.answered.contains id then 6 else 4) true 0 0 0 0 0 0))))) ∧
    ((∀ r ∈ b.tarn.requests, r.lane ≠ n) ∨ (∃ r ∈ b.tarn.requests, r.lane = n ∧ r.active = true) ∨ b.laneEnabled n = false →
      CompletesB (.replayStart n t) s s1 (fun b' => b' = b)) ∧
    (∀ r, b.tarn.requests = [r] → r.lane = n → r.active = false → b.laneEnabled n = true → CompletesB (.replayStart n t) s s1 (fun b' =>
      b' = { b with tarn := { b.tarn with requests := [{ r with active := true }] } })) ∧
    ((∀ r ∈ b.tarn.requests, r.lane = n → r.active = false) ∨ (b.lanes[n]).heldFrom.isSome = true ∨ (b.lanes[n]).breach = true ∨
        b.replayIdle n = false →
      CompletesB (.replayEntryRead n t passed reads) s s1 (fun b' => b' = c)) ∧
    (∀ r, b.tarn.requests = [r] → r.lane = n → r.active = true → (b.lanes[n]).heldFrom = none → (b.lanes[n]).breach = false →
      b.replayIdle n = true → (∀ a, CleanLine a c) →
      let d : Replay := match r.unit with
        | none => r
        | some (true, k, bad) =>
          { r with unit := none, frames := r.frames + 1, first := if r.frames = 0 then k else r.first, last := k, poisoned := r.poisoned + b2n bad, poisonSeen := r.poisonSeen || bad }
        | some (false, _, bad) => { r with unit := none, units := r.units + 1, poisonSeen := r.poisonSeen || bad }
      let ends := fun (code : Nat) => CompletesB (.replayEntryRead n t passed reads) s s1 (fun b' =>
        b'.lanes = b.lanes.set n { b.lanes[n] with replay := none } ∧ b'.tarn.requests = [] ∧
        put b' (replayRecord r.id code false r.lane d.frames d.first d.last d.units d.poisoned))
      let done := if d.poisonSeen then 5 else if r.truncated then 1 else 0
      (r.aborted = true → ends 3) ∧
      (r.aborted = false → r.ended = true → ends done) ∧
      (∀ e last, r.aborted = false → r.ended = false → c.tarn.entries.find? (fun e => decide (r.next ≤ e.pos)) = some e → e.isFrame = true →
        r.fromSlice = none → (r.prevSeq = none ∧ e.pos = r.next ∨ r.prevSeq = some (e.seq - 1) ∧ 0 < e.seq ∧ e.seq < 2 ^ 32) →
        r.stop = .slice last →
        (last < e.slice → ends done) ∧
        (e.slice ≤ last → e.lines ≤ e.filled → passed = none → fget none b.tarn.masks r.mask = none →
          max 1 (b.regFld Reg.TARN_GUARD 15 0) * 4096 ≤ ((e.pos + e.lines - 1) % b.tarn.hist + b.tarn.hist - b.tarn.w % b.tarn.hist) % b.tarn.hist →
          CompletesB (.replayEntryRead n t passed reads) s s1 (fun b' =>
            (b'.lanes[n]).replay = some (r.id, e.words) ∧ (b'.lanes[n]).since = b.up ∧
            (b'.lanes[n]).blocks = [(0xB5, BitVec.ofNat 56 (pack [(16, r.id.toNat), (32, e.words.length), (8, e.slice % 256)]))] ∧
            (∀ k : Fin 16, k ≠ n → b'.lanes[k] = b.lanes[k]) ∧ b'.queues = b.queues ∧
            b'.tarn = { b.tarn with requests := [{ d with next := e.pos + e.lines, prevSeq := some e.seq, unit := some (true, e.slice, false), ended := decide (last ≤ e.slice) }] }))))

/-- A Pod partner changes state on enable, disable, activation, yield, fence and rejoin, and in no other way of these. A
change of state stamps its moment, raises event 0 and issues a three-word notice of kind 5 with the new and the old state
(R266, R277). Enable on a stopped set starts pairing, and ends fenced where the fence pin stands; with a run or a port in data the
write, whatever en was, only sets cfg_ignored (R265, R266, R275). Disable ends in off. TAKEOVER_ACTIVATE acts on a partner taking over at a slice start whose live ports are all owned: by takeover it
issues event code 1 and a failover record for each of the 128 ports from the last heartbeat to the start of the first slice
sent, which lies behind the partner's sent-through slice; by handover code 2 and none, and no slice before X is sent (R269,
R270). An active partner told to yield names the slice after the newest begun and
offers it; once sent-through reaches it, every owned port is sent a release. Fence out is asserted once, counted, event 3;
fence in takes any state but off and fenced to fenced, unless a preferred partner asserted its own within 640 ticks, and the
transmitters float (R275). Rejoin leaves fenced for pairing only with fence in released. The claim window ends when it is
over (R268). [spec/14_pod_failover.md, spec/10_triggers_rate_deadtime.md] -/
def Obligations.PodStateChanges : Prop :=
  ∀ (s : State) (t : Tick),
    let s1 := reachB t s
    let c := s1.b
    let gone := fun (b : Bolov) (new : PodSt) (ev : Option Nat) (b' : Bolov) => b'.pod.state = new ∧ b'.pod.entered = b.up ∧ b'.regBit (evtRaw 0x00C) 0 = true ∧
      (b.ek4 = false → ∃ ws, b'.notices[b.notices.length]? = some ⟨ws, some b.tick⟩ ∧ ws.length = 3 ∧ fld (ws.getD 0 0) 63 48 = 0x0503 ∧
        fld (ws.getD 0 0) 43 41 = new.code ∧ fld (ws.getD 0 0) 40 38 = b.pod.state.code ∧ ∀ e, ev = some e → fld (ws.getD 0 0) 47 44 = e)
    (s.b.regBit Reg.POD_CTRL 0 = true → s.b.sort.running = false → s.b.anyPortData = false →
      CompletesB .podEnable s s (fun b' => b' = s.b)) ∧
    (s.b.sort.running = true ∨ s.b.anyPortData = true →
      CompletesB .podEnable s s (fun b' => b' = s.b.setRegBit Reg.POD_STATUS 24 true)) ∧
    (s.b.regBit Reg.POD_CTRL 0 = false → s.b.sort.running = false → s.b.anyPortData = false →
      (s.b.pod.fenceIn = false → CompletesB .podEnable s s (fun b' => gone s.b .pairing none b' ∧ b'.regBit Reg.POD_CTRL 0 = true)) ∧
      (s.b.pod.fenceIn = true → s.b.pod.fenceOut = false → CompletesB .podEnable s s (fun b' => b'.pod.state = .fenced ∧
        b'.regBit (evtRaw 0x00C) 4 = true))) ∧
    (s.b.pod.state = .off → CompletesB .podDisable s s (fun b' => b' = s.b.setRegBit Reg.POD_CTRL 0 false)) ∧
    (s.b.pod.state ≠ .off → CompletesB .podDisable s s (fun b' => gone s.b .off none b' ∧ b'.regBit Reg.POD_CTRL 0 = false)) ∧
    (c.pod.fenceIn = false → c.pod.state ≠ .takingOver ∨ c.atSliceStart = false ∨ (∃ p ∈ c.livePorts, (c.port p).owner = false) →
      CompletesB (.takeoverActivate t) s s1 (fun b' => b' = c)) ∧
    (c.pod.fenceIn = false → c.pod.state = .takingOver → c.atSliceStart = true → (∀ p ∈ c.livePorts, (c.port p).owner = true) →
      (c.pod.byHandover = true → CompletesB (.takeoverActivate t) s s1 (fun b' => gone c .active (some 2) b' ∧ b'.issued = c.issued ∧ b'.pod.markTo = 0 ∧
        c.pod.x ≤ b'.pod.emitFrom ∧ b'.pod.through = before b'.pod.emitFrom)) ∧
      (c.pod.byHandover = false → CompletesB (.takeoverActivate t) s s1 (fun b' => gone c .active (some 1) b' ∧
        b'.ctr Reg.POD_TAKEOVERS 0 = ctrAdd (c.ctr Reg.POD_TAKEOVERS 0) 1 ∧ b'.pod.silent = false ∧
        (∀ r, c.pod.partnerR = some r → r + 1 ≤ b'.pod.emitFrom) ∧ b'.pod.through = before b'.pod.emitFrom ∧
        b'.issued = ((List.range 128).map (fun p => (c.up, ({ cause := 6, scope := 2, port := p, start := c.pod.lastHb, stop := c.sliceStart b'.pod.emitFrom, count := 0xFFFFFFFF, feId := (c.feIdNow p).toNat } : DtRec)))).reverse ++ c.issued))) ∧
    (s.b.pod.state ≠ .active → CompletesB .podYield s s (fun b' => b' = s.b)) ∧
    (s.b.pod.state = .active → CompletesB .podYield s s (fun b' => gone s.b .yielding none b' ∧
      b'.pod.x = s.b.nextBegun ∧ b'.pod.handover = some (s.b.nextBegun, false, 2) ∧ b'.ports = s.b.ports)) ∧
    (c.pod.state ≠ .yielding ∨ c.pod.released = true ∨ (∃ r, c.pod.through = some r ∧ r + 1 < c.pod.x) ∨
        c.pod.through = none ∧ c.pod.x ≠ 0 → CompletesB (.yieldRelease t) s s1 (fun b' => b' = c)) ∧
    (∀ r p, c.pod.state = .yielding → c.pod.released = false → c.pod.through = some r → c.pod.x ≤ r + 1 → (c.port p).owner = true → p ∈ fkeys c.ports →
      CompletesB (.yieldRelease t) s s1 (fun b' => b'.pod.released = true ∧ b'.pod.state = .yielding ∧
        ∃ k, (b'.port p).commands = (c.port p).commands ++ List.replicate (k + 1) { op := 6, arg := 2, payload := payloadLease c.leaseId })) ∧
    (s.b.pod.fenceOut = true → CompletesB .podFence s s (fun b' => b' = s.b)) ∧
    (s.b.pod.fenceOut = false → CompletesB .podFence s s (fun b' => b'.pod = { s.b.pod with fenceOut := true, fenceAt := s.b.up } ∧
      b'.ctr Reg.POD_FENCE_COUNT 0 = ctrAdd (s.b.ctr Reg.POD_FENCE_COUNT 0) 1 ∧ b'.regBit (evtRaw 0x00C) 3 = true)) ∧
    CompletesB .podFenceRelease s s (fun b' => b' = { s.b with pod := { s.b.pod with fenceOut := false } }) ∧
    CompletesB (.podFenceInRelease t) s s1 (fun b' => b' = { c with pod := { c.pod with fenceIn := false } }) ∧
    (let ignored := c.regBit Reg.POD_CTRL 1 && c.pod.fenceOut && decide (c.up < c.pod.fenceAt + 640);
     (c.pod.state = .off ∨ c.pod.state = .fenced ∨ ignored = true → CompletesB (.podFenceInAssert t) s s1 (fun b' =>
        b' = { c with pod := { c.pod with fenceIn := true } })) ∧
      (c.pod.state ≠ .off → c.pod.state ≠ .fenced → ignored = false → CompletesB (.podFenceInAssert t) s s1 (fun b' =>
        gone c .fenced (some 7) b' ∧ b'.pod.fenceIn = true ∧ b'.pod.fenceOut = false ∧ b'.regBit (evtRaw 0x00C) 4 = true ∧ ∀ p, b'.txOn p = false))) ∧
    (s.b.pod.state ≠ .fenced ∨ s.b.pod.fenceIn = true → CompletesB .podRejoin s s (fun b' => b' = s.b)) ∧
    (s.b.pod.state = .fenced → s.b.pod.fenceIn = false → CompletesB .podRejoin s s (gone s.b .pairing none)) ∧
    (c.pod.state = .takingOver → c.claimWindow ≤ c.up → CompletesB (.claimWindowEnd t) s s1 (fun b' => b' = { c with pod := { c.pod with windowOver := true } })) ∧
    (c.pod.state ≠ .takingOver ∨ c.up < c.claimWindow → CompletesB (.claimWindowEnd t) s s1 (fun b' => b' = c))

/-- Cross-link frames: when they are sent, what they carry, what a received one does; missed heartbeats. At a multiple of 16
with its domain on, a partner sends one frame with a valid CRC: sync, phase, pref, state, heartbeat at multiples of 128,
health and progress; handover content goes before stage, stage before twin records; the frame is scrambled as R107 has it
(R262, R263). A frame whose CRC fails is counted and otherwise only moves the lock. A good frame under lock gives the partner's
state and health, and its progress where it emits; a matching twin record counts in POD_TWIN_OK, one that differs without a reason
in POD_TWIN_DIV with event 5, one of a slice not built yet waits (R271); an offer
takes a standby partner into taking over (R266). An interval of 128 ticks without a heartbeat counts; the 32nd in a row
loses the partner, event 1, and a standby partner whose partner was active takes over (R264, R266).
[spec/14_pod_failover.md, spec/06_links.md] -/
def Obligations.CrossLinkAndHeartbeats : Prop :=
  ∀ (s : State) (t : Tick) (frame : BitVec 128) (arrival : BitVec 48),
    let s1 := reachB t s
    let c := s1.b
    let fr := scrambleFrame frame
    let v := fr.toNat
    let got := fun (P : Bolov → Prop) => CompletesB (.xlinkFrameReceived frame arrival t) s s1 P
    let locked := c.pod.xlLock (bits v 127 126 == 2) (frameCrcOk fr)
    (c.pod.fenceIn = false → c.tick.toNat % 16 ≠ 0 ∨ c.domOn 78 = false → CompletesB (.xlinkFrameSend t) s s1 (fun b' => b' = c)) ∧
    (c.pod.fenceIn = false → c.tick.toNat % 16 = 0 → c.domOn 78 = true → CompletesB (.xlinkFrameSend t) s s1 (fun b' => b' = { c with pod := b'.pod } ∧
      ∃ f, b'.pod.sent.map scrambleFrame = some f ∧ frameCrcOk f = true ∧ bits f.toNat 127 126 = 2 ∧ bit f.toNat 125 = bit c.tick.toNat 4 ∧
        bit f.toNat 124 = c.regBit Reg.POD_CTRL 1 ∧ bits f.toNat 123 121 = c.pod.state.code ∧
        bit f.toNat 120 = decide (c.tick.toNat % 128 = 0) ∧ bits f.toNat 119 112 = c.pod.health % 256 ∧
        bits f.toNat 111 96 = (match c.pod.through with | some r => r % 65536 | none => 65535) ∧
        (∀ x q r, c.pod.handover = some (x, q, r) → bits f.toNat 95 92 = 5 ∧ bits f.toNat 91 76 = x % 65536 ∧ bit f.toNat 75 = q ∧ b'.pod.handover = none) ∧
        (c.pod.handover = none → c.pod.state = .active → c.pod.stageDue = true → bits f.toNat 95 92 = 2 ∧ bits f.toNat 91 90 = c.rate.stage % 4 ∧ b'.pod.stageDue = false) ∧
        (∀ r l, c.pod.handover = none → c.pod.state = .standby → c.pod.twinQ = r :: l → bits f.toNat 95 92 = 1 ∧ bits f.toNat 91 76 = r.slice % 65536 ∧ b'.pod.twinQ = l))) ∧
    (c.domOn 78 = false → got (fun b' => b' = c)) ∧
    (c.domOn 78 = true → frameCrcOk fr = false → got (fun b' => b' = { c with pod := locked }.count Reg.POD_XL_CRC 1)) ∧
    (c.domOn 78 = true → frameCrcOk fr = true → bits v 127 126 ≠ 2 ∨ locked.lock = false ∨ c.pod.state = .off → got (fun b' => b' = { c with pod := locked })) ∧
    (c.domOn 78 = true → c.pod.fenceIn = false → frameCrcOk fr = true → bits v 127 126 = 2 → locked.lock = true → bit v 120 = false →
      (c.pod.state = .active → bits v 95 92 = 0 → got (fun b' => b' = { c with pod := b'.pod } ∧ b'.pod.state = .active ∧
        b'.pod.partnerState = PodSt.ofCode (bits v 123 121) ∧ b'.pod.partnerHealth = bits v 119 112 ∧ b'.pod.partnerR =
          (if bits v 123 121 = 3 ∨ bits v 123 121 = 5 then c.sliceFrom16 (bits v 111 96) else c.pod.partnerR) ∧
        b'.pod.through = c.pod.through ∧ b'.pod.lastHb = c.pod.lastHb)) ∧
      (c.pod.state = .standby → c.preferred = false → c.pod.lostOnce = false →
        (∀ r, bits v 95 92 = 1 → c.pod.silent = false → (c.pod.built.take 256).find? (fun x => x.slice % 65536 == bits v 91 76) = some r →
          (r.records % 2 ^ 24 = bits v 75 52 → r.digest = bits v 51 20 → got (fun b' => b'.ctr Reg.POD_TWIN_OK 0 = ctrAdd (c.ctr Reg.POD_TWIN_OK 0) 1 ∧
            b'.ctr Reg.POD_TWIN_DIV 0 = c.ctr Reg.POD_TWIN_DIV 0 ∧ b'.pod.state = .standby)) ∧
          (r.digest ≠ bits v 51 20 → bits v 19 16 = 0 → r.flags = 0 → r.outage = false → got (fun b' =>
            b'.ctr Reg.POD_TWIN_DIV 0 = ctrAdd (c.ctr Reg.POD_TWIN_DIV 0) 1 ∧ b'.regBit (evtRaw 0x00C) 5 = true ∧ b'.pod.state = .standby))) ∧
        (bits v 95 92 = 1 → c.pod.silent = false → (∀ x ∈ c.pod.built, x.slice % 65536 ≠ bits v 91 76) → got (fun b' =>
          b'.counters = c.counters ∧ b'.pod.twinWait = c.pod.twinWait ++
            [{ slice := bits v 91 76, records := bits v 75 52, digest := bits v 51 20, flags := BitVec.ofNat 4 (bits v 19 16) }])) ∧
        (bits v 95 92 = 5 → bit v 75 = false → got (fun b' => b'.pod.state = .takingOver ∧ b'.pod.byHandover = true ∧
          b'.pod.x = (c.sliceFrom16 (bits v 91 76)).getD 0)))) ∧
    (c.pod.state = .off ∨ c.tick.toNat % 128 ≠ 0 ∨ c.pod.hbSeen = true ∧ notBefore c.pod.lastHb (c.tick - 128) = true ∧ later c.tick c.pod.lastHb = true →
      CompletesB (.heartbeatMiss t) s s1 (fun b' => b' = c)) ∧
    (c.pod.state ≠ .off → c.tick.toNat % 128 = 0 → c.pod.hbSeen = false ∨ notBefore c.pod.lastHb (c.tick - 128) = false →
      (c.pod.missed + 1 ≠ 32 → CompletesB (.heartbeatMiss t) s s1 (fun b' => b' = ({ c with pod := { c.pod with missed := c.pod.missed + 1 } }).count Reg.POD_HB_MISSED 1)) ∧
      (c.pod.missed = 31 → c.pod.partnerLost = false → CompletesB (.heartbeatMiss t) s s1 (fun b' => b'.pod.partnerLost = true ∧
        b'.regBit (evtRaw 0x00C) 1 = true ∧ b'.ctr Reg.POD_HB_MISSED 0 = ctrAdd (c.ctr Reg.POD_HB_MISSED 0) 1 ∧
        (c.pod.state = .active → b'.pod.state = .active) ∧
        (c.pod.state = .standby → c.pod.partnerState = .active → b'.pod.state = .takingOver ∧ b'.pod.byHandover = false) ∧
        (c.pod.state = .yielding → b'.pod.state = .active))))

/-- Lease timers, health score, reversion request, self-tests and the watchdog of a Pod partner. At a multiple of 1,024
ticks an active partner, or a Bolov outside a Pod, sends a renew to every port it owns, at others and in other states
nothing. At a multiple of 128 it claims every live port without an owner; an owned port gets none (R268). Every 1,024 ticks
in a Pod the health score becomes 255 less the sum of the penalties, at least 0 (R272); at others nothing happens. A
preferred partner that has been a fit standby for the hold time requests reversion, and repeats it no sooner than 2^28 ticks
later (R274). A self-test in standby counts passed, or failed with POD_SELFTEST_FAIL and event 7; a crypto check also sets
kat_fail; in other states, during a quote for the crypto unit, with no interval unit free or no built entry left for theirs it does
nothing. A built entry that is read again passes where its slice check matches (R276, R362). A kick restarts the watchdog, and it expires once its period has passed without one (R272).
[spec/14_pod_failover.md] -/
def Obligations.PodUpkeep : Prop :=
  ∀ (s : State) (t : Tick) (test : Fin 4) (ok : Bool) (reads : List LineRead) (p : Nat),
    let s1 := reachB t s
    let c := s1.b
    let sends := fun (op : Nat) (b' : Bolov) => ∃ k, (b'.port p).commands = (c.port p).commands ++ List.replicate (k + 1) { op := 6, arg := op, payload := payloadLease c.leaseId }
    let home := c.pod.state = .active ∨ c.pod.state = .off
    (c.tick.toNat % 1024 ≠ 0 ∨ ¬ home → CompletesB (.podLeaseRenewTimer t) s s1 (fun b' => b' = c)) ∧
    (c.tick.toNat % 1024 = 0 → home → CompletesB (.podLeaseRenewTimer t) s s1 (fun b' => b' = { c with ports := b'.ports } ∧
      (p ∈ fkeys c.ports → (c.port p).owner = true → sends 1 b') ∧ ((c.port p).owner = false → b'.port p = c.port p))) ∧
    (c.tick.toNat % 128 ≠ 0 → home → CompletesB (.podClaimTimer t) s s1 (fun b' => b' = c)) ∧
    (c.tick.toNat % 128 = 0 → home → CompletesB (.podClaimTimer t) s s1 (fun b' => b' = { c with ports := b'.ports } ∧
      (p ∈ c.livePorts → (c.port p).leaseOwned = false → sends 0 b') ∧ ((c.port p).leaseOwned = true ∨ p ∉ c.livePorts → b'.port p = c.port p))) ∧
    (c.pod.state = .pairing ∨ c.pod.state = .fenced ∨ c.pod.state = .yielding → CompletesB (.podClaimTimer t) s s1 (fun b' => b' = c)) ∧
    (c.pod.fenceIn = false → c.tick.toNat % 1024 ≠ 0 ∨ c.pod.state = .off → CompletesB (.healthCompute t) s s1 (fun b' => b' = c)) ∧
    (c.pod.fenceIn = false → c.tick.toNat % 1024 = 0 → c.pod.state ≠ .off → CompletesB (.healthCompute t) s s1 (fun b' => b'.pod.health = 255 - c.penalties.foldl (· + ·) 0 ∧
      (255 - c.penalties.foldl (· + ·) 0 ≥ fld (c.reg Reg.POD_HEALTH_CFG) 31 24 → c.pod.partnerBelow = none → b' = { c with pod := b'.pod } ∧ b'.pod.below = none ∧ b'.pod.state = c.pod.state))) ∧
    (let fit := c.regBit Reg.POD_CTRL 3 && c.regBit Reg.POD_CTRL 1 && c.pod.state == .standby && !c.pod.silent;
     let hold := max 1 (c.regFld Reg.POD_REVERT_HOLD 15 0) * 320000000;
     (fit = false ∨ c.pod.fitSince = none ∨ (∃ u, c.pod.fitSince = some u ∧ c.up < u + hold) ∨ (∃ u, c.pod.requestAt = some u ∧ c.up < u + 2 ^ 28) →
       CompletesB (.reversionRequest t) s s1 (fun b' => b' = c)) ∧
     (∀ u, fit = true → c.pod.fitSince = some u → u + hold ≤ c.up → c.pod.requestAt = none ∨ (∃ r, c.pod.requestAt = some r ∧ r + 2 ^ 28 ≤ c.up) →
       CompletesB (.reversionRequest t) s s1 (fun b' => b' = { c with pod := { c.pod with handover := some (0, true, 1), requestAt := some c.up } }))) ∧
    (let a := c.withFlaws reads;
     let runs := test = 1 ∨ test = 2 ∧ c.sec.quote = none ∨ test = 3 ∧ (∃ u, c.isActive u = false);
     let failed := { a with pod := { a.pod with testsFailed := a.pod.testsFailed + 1 } }.count Reg.POD_SELFTEST_FAIL 1;
     (c.pod.state ≠ .standby ∨ test = 2 ∧ c.sec.quote.isSome = true ∨ test = 3 ∧ (∀ u, c.isActive u = true) ∨
         test = 0 ∧ (∀ e ∈ c.tarn.entries, e.kind = 2 → e.pos < c.pod.retest) → CompletesB (.standbySelftest test ok reads t) s s1 (fun b' => b' = a)) ∧
     (c.pod.state = .standby → runs → ok = true → CompletesB (.standbySelftest test ok reads t) s s1 (fun b' => b' = { a with pod := { a.pod with testsOk := a.pod.testsOk + 1 } })) ∧
     (c.pod.state = .standby → runs → ok = false → CompletesB (.standbySelftest test ok reads t) s s1 (fun b' =>
       b' = (if test = 2 then (failed.setRegBit Reg.SEC_STATUS 25 true).raise 0x00F 2 else failed).raise 0x00C 7)) ∧
     (∀ e, c.pod.state = .standby → test = 0 → (∀ l, CleanLine l a) →
       c.tarn.entries.find? (fun e => e.kind == 2 && e.written && decide (c.pod.retest ≤ e.pos)) = some e →
       (∀ x ∈ c.tarn.entries, x.pos = e.pos → x = e) →
       (fld (e.words.getLastD 0) 31 0 = sliceCheck e.words → CompletesB (.standbySelftest test ok reads t) s s1 (fun b' =>
         b' = { a with pod := { a.pod with retest := e.pos + 1, testsOk := a.pod.testsOk + 1 } })) ∧
       (fld (e.words.getLastD 0) 31 0 ≠ sliceCheck e.words → CompletesB (.standbySelftest test ok reads t) s s1 (fun b' =>
         b' = ({ a with pod := { a.pod with retest := e.pos + 1, testsFailed := a.pod.testsFailed + 1 } }.count
           Reg.POD_SELFTEST_FAIL 1).raise 0x00C 7)))) ∧
    CompletesB .wdogKick s s (fun b' => b' = { s.b with pod := { s.b.pod with wdogAt := s.b.up, wdogExpired := false } }) ∧
    (let due := c.pod.wdogAt + max 1 (c.regFld Reg.POD_WDOG 15 0) * 320000;
     (due ≤ c.up → CompletesB (.wdogExpiry t) s s1 (fun b' => b' = { c with pod := { c.pod with wdogExpired := true } })) ∧
     (c.up < due → CompletesB (.wdogExpiry t) s s1 (fun b' => b' = c)))

/-- Starts of the monitor's converters: by the host, in common, by timer, after PWM edges, and the start-up delay. With the
monitor off, or on a guard converter, a start does nothing (R300). A start of a busy converter counts in MON_Cn_MISS with
event 4 and queues nothing (R290). An accepted start takes the next start sequence; with no enabled slot nothing else
happens; else the first enabled slot in rising number that is neither invalid nor in conflict begins, with a start-up delay
where the converter was powered down (R281, R288). An invalid slot that stands alone only leaves its record (R282). A common
start reaches converters with src 3, a timer start comes at its period, a PWM start delay_us after a chosen edge, once for an edge
(R289); at other times they do nothing. A PWM edge that is due changes the level, whether the monitor is enabled or not (R285). The start-up delay ends after 250 us (R288).
No pin is driven while nothing is converted; a current source drives its pin with the programmed current (R282, R284).
[spec/15_monitor.md, spec/16_guard.md] -/
def Obligations.MonitorStarts : Prop :=
  ∀ (s : State) (n : Fin 4) (t : Tick),
    let s1 := reachB t s
    let c := s1.b
    let no := fun (a : Bolov) => a.monOn = false ∨ a.isGuard n = true
    let missed := fun (a b' : Bolov) => b' = (a.count (Reg.MON_C_MISS n) 1).raise 0x00D 4
    let begun := fun (a b' : Bolov) => (b'.conv n).seq = (a.conv n).seq + 1 ∧ (∀ m : Fin 4, m ≠ n → b'.conv m = a.conv m) ∧
      (a.slotsOf n = [] → (b'.conv n).running = false ∧ b'.queues = a.queues ∧ b'.mon.last = a.mon.last) ∧
      (∀ k l, a.slotsOf n = k :: l → a.slotInvalid k = false → a.slotConflict n k = false →
        (b'.conv n).running = true ∧ (b'.conv n).slot = k ∧ (b'.conv n).powered = true ∧ (b'.conv n).began = a.up ∧ b'.queues = a.queues ∧
        ((a.conv n).powered = true → (b'.conv n).startup = (a.conv n).startup ∧
          (b'.conv n).settleFrom = if (a.conv n).startup.isSome then none else some a.up) ∧
        ((a.conv n).powered = false → (b'.conv n).startup = some a.up ∧ (b'.conv n).settleFrom = none)) ∧
      (∀ k, a.slotsOf n = [k] → a.slotInvalid k = true → (a.conv n).guardOn = false → (b'.conv n).running = false ∧
        fget 0 b'.mon.last k = word64 [(16, ((a.conv n).seq + 1).toNat), (3, 6), (3, 0), (42, 0)] ∧
        (a.qRoom 5 = true → b'.queues[5].records = a.queues[5].records ++ [[word64 [(4, k), (2, n), (10, 0), (48, a.tick.toNat)], fget 0 b'.mon.last k]]))
    let idle := fun (a : Bolov) => a.monOn = true ∧ a.isGuard n = false ∧ (a.conv n).running = false
    let busy := fun (a : Bolov) => a.monOn = true ∧ a.isGuard n = false ∧ (a.conv n).running = true
    (no s.b → CompletesB (.monConverterGo n) s s (fun b' => b' = s.b)) ∧
    (busy s.b → CompletesB (.monConverterGo n) s s (missed s.b)) ∧
    (idle s.b → CompletesB (.monConverterGo n) s s (begun s.b)) ∧
    ((∀ k, s.b.convSrc k ≠ 3) → CompletesB .monCommonGo s s (fun b' => b' = s.b)) ∧
    (s.b.convSrc n = 3 → (∀ k, k ≠ n → s.b.convSrc k ≠ 3) → (busy s.b → CompletesB .monCommonGo s s (missed s.b)) ∧
      (idle s.b → CompletesB .monCommonGo s s (begun s.b))) ∧
    (c.convSrc n ≠ 1 ∨ c.up < (c.conv n).timerFrom + max 1 (min 60000 (c.regFld (Reg.MON_C_START n) 15 0)) * 320000 →
      CompletesB (.monTimerStart n t) s s1 (fun b' => b' = c)) ∧
    (c.convSrc n = 1 → (c.conv n).timerFrom + max 1 (min 60000 (c.regFld (Reg.MON_C_START n) 15 0)) * 320000 ≤ c.up → n ≠ 0 ∨ c.regBit Reg.MON_CTRL 29 = false →
      (idle c → CompletesB (.monTimerStart n t) s s1 (fun b' => begun c b' ∧ (b'.conv n).timerFrom = c.up)) ∧
      (busy c → CompletesB (.monTimerStart n t) s s1 (missed (c.modConv n (fun x => { x with timerFrom := c.up }))))) ∧
    (c.domOn 76 = false ∨ c.regBit Reg.MON_PWM 31 = false ∨ (∃ e l, c.mon.edges = e :: l ∧ c.up < e.1 + max 100 (c.regFld Reg.MON_PWM 15 0) * 160) →
      CompletesB (.monPwmEdge t) s s1 (fun b' => b' = c)) ∧
    (c.domOn 76 = true → c.regBit Reg.MON_PWM 31 = true → (∀ k, (c.conv k).running = false ∨ c.slotChop (c.conv k).slot = false) →
      c.mon.edges = [] ∨ (∃ e l, c.mon.edges = e :: l ∧ e.1 + max 100 (c.regFld Reg.MON_PWM 15 0) * 160 ≤ c.up) →
      CompletesB (.monPwmEdge t) s s1 (fun b' => b'.mon.level = !c.mon.level ∧ b'.mon.edges.head? = some (c.up, !c.mon.level) ∧
        b'.mon.convs = c.mon.convs ∧ b' = { c with mon := b'.mon })) ∧
    (c.convSrc n ≠ 2 ∨ (c.conv n).pwmFrom = some c.up ∨ (∀ e ∈ c.mon.edges, c.pwmChosen n e.2 = false ∨ e.1 + c.regFld (Reg.MON_C_DELAY n) 15 0 * 320 ≠ c.up) →
      CompletesB (.monPwmDelayStart n t) s s1 (fun b' => b' = c)) ∧
    (c.convSrc n = 2 → (c.conv n).pwmFrom ≠ some c.up → (∃ e ∈ c.mon.edges, c.pwmChosen n e.2 = true ∧ e.1 + c.regFld (Reg.MON_C_DELAY n) 15 0 * 320 = c.up) →
      (idle c → CompletesB (.monPwmDelayStart n t) s s1 (begun c)) ∧ (busy c → CompletesB (.monPwmDelayStart n t) s s1
        (missed (c.modConv n (fun x => { x with pwmFrom := some c.up }))))) ∧
    (∀ u, (c.conv n).startup = some u → (c.conv n).running = true →
      (u + 80000 ≤ c.up → CompletesB (.monStartupDelayEnd n t) s s1 (fun b' => b'.conv n = { c.conv n with startup := none, settleFrom := some c.up } ∧
        (∀ m : Fin 4, m ≠ n → b'.conv m = c.conv m) ∧ b' = { c with mon := { c.mon with convs := b'.mon.convs } })) ∧
      (c.up < u + 80000 → CompletesB (.monStartupDelayEnd n t) s s1 (fun b' => b' = c))) ∧
    ((c.conv n).startup = none → CompletesB (.monStartupDelayEnd n t) s s1 (fun b' => b' = c)) ∧
    ((∀ m, (c.conv m).running = false ∧ (c.conv m).guardOn = false) → ∀ p, c.monPin p = .highZ) ∧
    ((∀ m : Fin 4, m ≠ n → (c.conv m).running = false ∧ (c.conv m).guardOn = false) → (c.conv n).running = true →
      c.slotInvalid (c.conv n).slot = false → c.slotChop (c.conv n).slot = false →
      c.slotSrc (c.conv n).slot = 1 ∨ c.slotSrc (c.conv n).slot = 2 →
      c.monPin (Fin.ofNat 16 (c.regFld (Reg.MON_SLOT_CONV (c.conv n).slot) 29 26)) =
        .current (max 1 (min 1000 (c.regFld (Reg.MON_SLOT_CONV (c.conv n).slot) 20 11))))

/-- Conversions publish settled, early, faulty and aborted results; writes restart settling; guard converters publish to
LAST only. With no guard converter: nothing is published before the slot has settled, nor early before four settling times
or after settling, nor by force on an idle converter, nor for a fault of a slot without a source or within 5 us of a switch.
The last slot of a sequence that settles publishes status 0, settled, with code round(2^23 x 2^gain x V / 2.5 V) for the
internal reference, V between the pins of its route, departing from it by at most 15 ppm of full scale, 4 uV / 2^gain and
0.05% of the reading, saturated at 2^23 - 1 with overrange, and clears its broken bit (R286, R292, R294); timeout or force
publish it unsettled with status 1 (R291). A fault publishes status 2 or 3 with code 0 and sets the broken bit, with an
event where it was clear: a current below 90% of the programmed one is status 2, a pin nearer than 0.40 V to VDD_ANA or a voltage
source above 6 mA status 3 (R292). Clearing en of the converting slot publishes status 7 (R294). A slot write takes its bits
and restarts the settling of a conversion of the slot (R291), or ends it with status 6 where the slot now drives a pin twice
(the model's reading, log entry 190). A guard converter's output goes to MON_SLOTk_LAST and not to
the queue, and comes again one period later; after a fault it waits 10 ms (R300). [spec/15_monitor.md, spec/16_guard.md] -/
def Obligations.MonitorResults : Prop :=
  ∀ (s : State) (n : Fin 4) (k : Fin 16) (t : Tick) (pins : MonPins) (err : Int) (sense : ExcSense) (conv : Bool) (v : Word),
    let s1 := reachB t s
    let c := s1.b
    let quiet := fun (a : Bolov) => ∀ m, a.isGuard m = false ∧ (a.conv m).guardOn = false ∧ (a.conv m).guardFault = none
    let diff := fun (a : Bolov) => pins[Fin.ofNat 16 (a.regFld (Reg.MON_SLOT_ROUTE k) 27 24)] -
      (if a.regBit (Reg.MON_SLOT_ROUTE k) 5 then 0 else pins[Fin.ofNat 16 (a.regFld (Reg.MON_SLOT_ROUTE k) 23 20)])
    let ideal := fun (a : Bolov) => (2 * (diff a * (2 ^ (23 + a.slotGain k) : Nat)) + 2500000000) / 5000000000
    let bound := fun (a : Bolov) => (((15 * 2 ^ 23 + 500 * (ideal a).natAbs) * (2 ^ a.slotGain k * 2500000000) + 4000 * 2 ^ 23 * 1000000) / (1000000 * (2 ^ a.slotGain k * 2500000000)) : Nat)
    let code := fun (a : Bolov) => ideal a + max (-(bound a : Int)) (min (bound a : Int) err)
    let src := c.slotSrc k
    let weak := src ≠ 0 ∧ src ≠ 3 ∧ sense.current < 900 * max 1 (min 1000 (c.regFld (Reg.MON_SLOT_CONV k) 20 11))
    let tight := (src ≠ 0 ∧ src ≠ 3 ∧ ¬ weak ∧ sense.room < 400000000) ∨ src = 3 ∧ 6000000 < sense.current
    let last := fun (a : Bolov) => (a.conv n).running = true ∧ (a.conv n).slot = k ∧ ∀ j ∈ a.slotsOf n, j ≤ k.val
    let publishes := fun (a : Bolov) (status : Nat) (settled ovf : Bool) (cd : Int) (b' : Bolov) => (b'.conv n).running = false ∧ (∀ m : Fin 4, m ≠ n → b'.conv m = a.conv m) ∧
      fget 0 b'.mon.last k = word64 [(16, (a.conv n).seq.toNat), (3, status), (1, b2n settled), (1, b2n ovf), (1, b2n (a.slotChop k && a.mon.level)), (18, 0), (24, satSigned 24 cd)] ∧
      (a.qRoom 5 = true → b'.queues[5].records = a.queues[5].records ++ [[word64 [(4, k), (2, n), (10, 0), (48, a.tick.toNat)], fget 0 b'.mon.last k]]) ∧
      (a.qRoom 5 = false → b'.queues[5] = a.queues[5] ∧ b'.ctr Reg.MON_RESULT_LOST 0 = ctrAdd (a.ctr Reg.MON_RESULT_LOST 0) 1)
    (quiet c →
      ((c.conv n).running = false ∨ c.convSettled n = false → CompletesB (.monConversionSettled n pins err t) s s1 (fun b' => b' = c)) ∧
      (last c → c.convSettled n = true → c.regBit (Reg.MON_SLOT_ROUTE k) 11 = false →
        (code c < 2 ^ 23 → -(2 ^ 23) < code c → CompletesB (.monConversionSettled n pins err t) s s1 (fun b' => publishes c 0 true false (code c) b' ∧ b'.mon.broken.getLsbD k = false)) ∧
        (2 ^ 23 ≤ code c → c.slotBurnout k = false → CompletesB (.monConversionSettled n pins err t) s s1 (publishes c 0 true true (2 ^ 23 - 1))) ∧
        (2 ^ 23 ≤ code c → c.slotBurnout k = true → CompletesB (.monConversionSettled n pins err t) s s1 (fun b' => publishes c 4 true true 0 b' ∧ b'.mon.broken.getLsbD k = true))) ∧
      (c.convSettled n = true ∨ c.up < (c.conv n).began + 4 * c.settleTicks (c.conv n).slot ∨ (c.conv n).running = false →
        CompletesB (.monSettleTimeout n pins err t) s s1 (fun b' => b' = c)) ∧
      (last c → c.convSettled n = false → (c.conv n).began + 4 * c.settleTicks (c.conv n).slot ≤ c.up → c.regBit (Reg.MON_SLOT_ROUTE k) 11 = false →
        code c < 2 ^ 23 → -(2 ^ 23) < code c → CompletesB (.monSettleTimeout n pins err t) s s1 (publishes c 1 false false (code c))) ∧
      (c.up < (c.conv n).excAt + 1600 ∨ (c.conv n).running = false ∨ (c.conv n).slot = k ∧ ¬ weak ∧ ¬ tight →
        CompletesB (.monExcitationFault n sense t) s s1 (fun b' => b' = c)) ∧
      (last c → (c.conv n).excAt + 1600 ≤ c.up → ∀ st, st = 2 ∧ weak ∨ st = 3 ∧ tight →
        CompletesB (.monExcitationFault n sense t) s s1 (fun b' => publishes c st false false 0 b' ∧ b'.mon.broken.getLsbD k = true ∧
        (c.mon.broken.getLsbD k = false → b'.regBit (evtRaw 0x00D) (st - 2) = true)))) ∧
    (quiet s.b →
      ((s.b.conv n).running = false → CompletesB (.monForce n pins err) s s (fun b' => b' = s.b)) ∧
      (last s.b → s.b.regBit (Reg.MON_SLOT_ROUTE k) 11 = false → code s.b < 2 ^ 23 → -(2 ^ 23) < code s.b →
        CompletesB (.monForce n pins err) s s (publishes s.b 1 false false (code s.b))) ∧
      (let addr := if conv then Reg.MON_SLOT_CONV k else Reg.MON_SLOT_ROUTE k;
       let mask : Word := if conv then 0xFFFFFFFC else 0xBFFFFFE0;
       ((∀ m, (s.b.conv m).running = false ∨ (s.b.conv m).slot ≠ k) → CompletesB (.monSlotWrite k conv v) s s (fun b' => b' = s.b.setReg addr (v &&& mask))) ∧
       let a := s.b.setReg addr (v &&& mask);
       ((s.b.conv n).running = true → (s.b.conv n).slot = k → (∀ m, m ≠ n → (s.b.conv m).running = false ∨ (s.b.conv m).slot ≠ k) →
         conv = true ∨ bit v.toNat 31 = true →
         ((s.b.conv n).startup = none → a.slotInvalid k = false → a.slotConflict n k = false →
           CompletesB (.monSlotWrite k conv v) s s (fun b' => b'.reg addr = v &&& mask ∧ (b'.conv n).running = true ∧
             (b'.conv n).settleFrom = some s.b.up ∧ b'.queues = s.b.queues)) ∧
         (a.slotInvalid k = true → (∀ j ∈ a.slotsOf n, j ≤ k.val) → CompletesB (.monSlotWrite k conv v) s s (fun b' =>
           b'.reg addr = v &&& mask ∧ (b'.conv n).running = false ∧ fld (fget 0 b'.mon.last k) 47 45 = 6 ∧
           b'.regBit (evtRaw 0x00D) 3 = true)))) ∧
      (last s.b → (∀ m, m ≠ n → (s.b.conv m).running = false) → CompletesB (.monDisableAbort (some k)) s s (fun b' => publishes s.b 7 false false 0 b' ∧ b'.slotEn k = false)) ∧
      (last s.b → (∀ m, m ≠ n → (s.b.conv m).running = false) → s.b.monOn = true → CompletesB (.monDisableAbort none) s s (fun b' =>
        (b'.conv n).running = false ∧ b'.monOn = false ∧ fld (fget 0 b'.mon.last k) 47 45 = 7 ∧ b'.regBit Reg.MON_CTRL 29 = s.b.regBit Reg.MON_CTRL 29))) ∧
    ((c.conv n).guardOn = false ∨ c.up < (c.conv n).guardNext → CompletesB (.guardConvOutput n pins err t) s s1 (fun b' => b' = c)) ∧
    ((c.conv n).guardOn = true → (c.conv n).guardNext ≤ c.up → (c.conv n).slot = k → c.regBit (Reg.MON_SLOT_ROUTE k) 11 = false → code c < 2 ^ 23 → -(2 ^ 23) < code c →
      CompletesB (.guardConvOutput n pins err t) s s1 (fun b' => fld (fget 0 b'.mon.last k) 47 44 = 1 ∧ fld (fget 0 b'.mon.last k) 23 0 = satSigned 24 (code c) ∧
        fget 0 b'.mon.lastAt k = c.up ∧ b'.queues = c.queues ∧ (b'.conv n).guardNext = (c.conv n).guardNext + periodUs (c.slotRate k) * 320 ∧
        b' = { c with mon := b'.mon })) ∧
    ((c.conv n).guardFault = none ∨ (∃ u, (c.conv n).guardFault = some u ∧ c.up < u + 3200000) → CompletesB (.guardConvRestart n t) s s1 (fun b' => b' = c)) ∧
    (∀ u, (c.conv n).guardFault = some u → u + 3200000 ≤ c.up → c.isGuard n = true → c.monOn = true → c.slotsOf n = [k.val] → c.slotChop k = false → c.convSrc n = 0 →
      (c.conv n).guardOn = false → (c.conv n).running = false → c.slotInvalid k = false → c.slotConflict n k = false → CompletesB (.guardConvRestart n t) s s1 (fun b' =>
        (b'.conv n).guardOn = true ∧ (b'.conv n).slot = k ∧ (b'.conv n).guardFault = none ∧ b' = { c with mon := b'.mon } ∧
        (b'.conv n).guardNext = c.up + (if (c.conv n).powered then 0 else 80000) + c.settleTicks k))

/-- The Guard's rules, inputs, interlock loop and heartbeat: what each finds, and the outputs that trip of it. p_ok of an
output holds while every enabled P rule that governs it is clear and the core's value is fresh; it is written at once after
an evaluation and by GUARD_P_OK_WRITE, by no core in recovery (R301, R302). A window rule is clear exactly while its slot
has a valid record at most stale_ms old and LO x 2^-8 <= code x gain x 2^-32 + offset x 2^-8 <= HI x 2^-8. A value not
written for 10 ms is stale: p_ok reads 0 and p_lost is raised. A sample of an enabled input is in window or counts towards
its filter of 10 samples for each 0.1 ms (R298). After every one of these and after the loop opens or closes, each output is
looked at: bit 2 of what fails is P, 1 H, 0 the loop; a condition that fails anew sets its cause, the first cause where none
was set, and takes the permit away with the trip event and a log entry of kind 0x0A (R297, R305); nothing else of the Bolov
changes. Recovery of a condition restores no permit. [spec/16_guard.md] -/
def Obligations.GuardConditionsTrip : Prop :=
  ∀ (s : State) (fl : Bool) (t : Tick),
    let s1 := reachB t s
    let c := s1.b
    let failing := fun (a : Bolov) (g : Fin 4) => BitVec.ofNat 3 (pack [
      (1, b2n !(a.grd.pAlive && a.grd.pOk.getLsbD g)),
      (1, b2n ((List.range 4).any fun i => (a.reg (Reg.GRD_H_CFG i)).getLsbD 31 && (a.reg (Reg.GRD_H_CFG i)).getLsbD (24 + g) && !a.grd.hOk.getLsbD i)),
      (1, b2n !a.grd.ilk)])
    let checked := fun (a b' : Bolov) =>
      (∀ g : Fin 4, let fresh := failing a g &&& ~~~a.grd.fails[g]
        b'.grd.fails[g] = failing a g ∧
        (failing a g ≠ 0 → b'.grd.clearSince[g] = none) ∧
        (failing a g = 0 → b'.grd.clearSince[g] = some (a.grd.clearSince[g].getD a.up)) ∧
        (fresh = 0 → b'.grd.on.getLsbD g = a.grd.on.getLsbD g ∧ b'.grd.causes[g] = a.grd.causes[g] ∧ b'.grd.first[g] = a.grd.first[g]) ∧
        (fresh ≠ 0 → b'.grd.on.getLsbD g = false ∧ b'.grd.causes[g] = a.grd.causes[g] ||| (fresh.setWidth 6 <<< 3) ∧
          b'.grd.first[g] = (if a.grd.causes[g] ≠ 0 then a.grd.first[g] else if fresh.getLsbD 2 then 1 else if fresh.getLsbD 1 then 2 else 3))) ∧
      (let n : Nat := (([0, 1, 2, 3] : List (Fin 4)).filter fun (g : Fin 4) => a.grd.on.getLsbD g && (failing a g &&& ~~~a.grd.fails[g]) != 0).length;
        (n = 0 → b' = { a with grd := { a.grd with fails := b'.grd.fails, clearSince := b'.grd.clearSince, causes := b'.grd.causes, first := b'.grd.first } }) ∧
        (0 < n → b'.regBit (evtRaw 0x00E) 0 = true ∧ (fl = true → b'.grd.logSeq = a.grd.logSeq + n) ∧
          (fl = false → b'.grd.log = a.grd.log ∧ b'.grd.logSeq = a.grd.logSeq ∧ b'.regBit Reg.GRD_STATUS 28 = true ∧ b'.regBit (evtRaw 0x00E) 6 = true))) ∧
      BRegsBut [evtRaw 0x00E, Reg.GRD_STATUS] a b' ∧
      b' = { a with regs := b'.regs, queues := b'.queues, counters := b'.counters, owed := b'.owed, logLost := b'.logLost,
                    grd := { a.grd with on := b'.grd.on, causes := b'.grd.causes, first := b'.grd.first, fails := b'.grd.fails, clearSince := b'.grd.clearSince,
                                        changedAt := b'.grd.changedAt, log := b'.grd.log, logSeq := b'.grd.logSeq, head := b'.grd.head, anchor := b'.grd.anchor } }
    let asked := fun (a : Bolov) (x : BitVec 16) (g : Nat) => (List.range 16).all fun r =>
      !((a.reg (Reg.GRD_P_CFG r)).getLsbD 31 && (a.reg (Reg.GRD_P_CFG r)).getLsbD (24 + g)) || x.getLsbD r
    let written := fun (a b' : Bolov) (x : BitVec 16) => ∃ p : BitVec 4, (∀ g, g < 4 → p.getLsbD g = asked a x g) ∧
      checked { a with grd := { a.grd with pClear := x, pOk := p, pAt := a.up, pAlive := true } } b'
    (c.sec.recovery = true → CompletesB (.guardRuleEval fl t) s s1 (fun b' => b' = c) ∧ CompletesB (.guardPOkWrite fl t) s s1 (fun b' => b' = c)) ∧
    (c.sec.recovery = false →
      CompletesB (.guardPOkWrite fl t) s s1 (fun b' => written c b' c.grd.pClear) ∧
      CompletesB (.guardRuleEval fl t) s s1 (fun b' => ∃ x : BitVec 16, written c b' x ∧
        ∀ r, r < 16 → let cfg := c.reg (Reg.GRD_P_CFG r)
          let valid := fun k => fld (fget 0 c.mon.last k) 47 44 = 1 ∧ c.up ≤ fget 0 c.mon.lastAt k + max 1 (fld cfg 9 0) * 320000
          let k := fld cfg 23 20
          let q : Int := signed 24 (fget 0 c.mon.last k).toNat * signed 32 (c.reg (Reg.GRD_SCALE_GAIN k)).toNat +
            signed 32 (c.reg (Reg.GRD_SCALE_OFFSET k)).toNat * 2 ^ 24
          (cfg.getLsbD 30 = false → (x.getLsbD r = true ↔ valid k ∧ signed 32 (c.reg (Reg.GRD_P r)).toNat * 2 ^ 24 ≤ q ∧ q ≤ signed 32 (c.reg (Reg.GRD_P r + 4)).toNat * 2 ^ 24)) ∧
          (cfg.getLsbD 30 = true → (x.getLsbD r = true ↔ valid k ∧ valid (fld cfg 19 16) ∧ valid (fld cfg 15 12) ∧
            dewClear (c.quantity k) (c.quantity (fld cfg 19 16)) (c.quantity (fld cfg 15 12)) (mkRat (signed 32 (c.reg (Reg.GRD_P r)).toNat) 256) = true)))) ∧
    (c.grd.pAlive = false ∨ c.up < c.grd.pAt + 3200000 → CompletesB (.guardPStale fl t) s s1 (fun b' => b' = c)) ∧
    (c.grd.pAlive = true → c.grd.pAt + 3200000 ≤ c.up → CompletesB (.guardPStale fl t) s s1 (fun b' =>
      checked ({ c with grd := { c.grd with pAlive := false } }.raise 0x00E 7) b')) ∧
    (∀ uv : Vector Int 4, CompletesB (.guardInSample uv fl t) s s1 (fun b' => ∃ (h : BitVec 4) (n : FMap Nat),
      checked { c with grd := { c.grd with hOk := h, hCount := n } } b' ∧
      ∀ i : Fin 4, let cfg := c.reg (Reg.GRD_H_CFG i)
        let inside := (fld cfg 15 8 : Int) * 10000 ≤ uv[i] ∧ uv[i] ≤ (fld cfg 23 16 : Int) * 10000
        let m := fget 0 c.grd.hCount i + 1
        (cfg.getLsbD 31 = false → h.getLsbD i = c.grd.hOk.getLsbD i ∧ fget 0 n i = fget 0 c.grd.hCount i) ∧
        (cfg.getLsbD 31 = true → inside → h.getLsbD i = true ∧ fget 0 n i = 0) ∧
        (cfg.getLsbD 31 = true → ¬ inside → fget 0 n i = min 200 m ∧
          h.getLsbD i = (c.grd.hOk.getLsbD i && decide (m < 10 * max 1 (min 20 (fld cfg 4 0))))))) ∧
    CompletesB (.ilkInOpen fl t) s s1 (fun b' => checked { c with grd := { c.grd with ilk := false } } b') ∧
    (fl = true → CompletesB (.ilkInClose t) s s1 (fun b' => checked { c with grd := { c.grd with ilk := true } } b'))

/-- Read-back, arm and off of the Guard's outputs, and the entry each arm or refusal leaves in the change log. A read-back
sample is stored; an output whose pin reads high 1 ms or more after its permit, or low 2 ms or more after its release, trips
with cause read-back and raises event 3 (R303). An arm is accepted exactly when a password is set, the pin reads high, no
condition fails and all have been clear for GRD_HOLD.seconds, 0 acting as 1 (R305): the output permits, its causes and first
cause clear, event 1; else arm_refused and event 2. Off trips whatever the state, with cause host off (R306). Outputs
outside the mask keep their state. Of an arm of one output the log takes one entry (R309): sequence, kind 0x07 or 0x08,
mask, session, seconds and nanoseconds, the offset of GRD_OUTg_STATE, its old and new value, and the hash of the entry
before; the head becomes the entry's own SHA-256 and a full log loses its oldest 256 entries, whose last hash is kept as the
anchor (R310). Without a flash that takes it the entry is lost with log_fault. [spec/16_guard.md] -/
def Obligations.GuardCommands : Prop :=
  ∀ (s : State) (fl : Bool) (t : Tick) (m : BitVec 4) (g : Fin 4),
    let s1 := reachB t s
    let c := s1.b
    let a := s.b
    let grd := fun (x : GuardState) (b' : Bolov) => { x with on := b'.grd.on, causes := b'.grd.causes, first := b'.grd.first, changedAt := b'.grd.changedAt, log := b'.grd.log, logSeq := b'.grd.logSeq, head := b'.grd.head, anchor := b'.grd.anchor }
    let frame := fun (x b' : Bolov) => BRegsBut [evtRaw 0x00E, Reg.GRD_STATUS] x b' ∧
      b' = { x with regs := b'.regs, queues := b'.queues, counters := b'.counters, owed := b'.owed, logLost := b'.logLost, grd := b'.grd }
    let outAs := fun (x b' : Bolov) (g : Fin 4) => b'.grd.on.getLsbD g = x.grd.on.getLsbD g ∧ b'.grd.causes[g] = x.grd.causes[g] ∧
      b'.grd.first[g] = x.grd.first[g] ∧ b'.grd.changedAt[g] = x.grd.changedAt[g]
    let wrong := fun (g : Fin 4) => m.getLsbD g = c.grd.on.getLsbD g ∧ c.grd.changedAt[g] + (if c.grd.on.getLsbD g then 320000 else 640000) ≤ c.up
    let ready := fun (g : Fin 4) => a.grd.password.isSome = true ∧ a.grd.readback.getLsbD g = true ∧ a.failsNow g = 0 ∧
      ∃ u, a.grd.clearSince[g] = some u ∧ u + max 1 (fld (a.reg Reg.GRD_HOLD) 7 0) * 320000000 ≤ a.up
    let entry := fun (kind old new : Nat) => [word64 [(32, a.grd.logSeq), (8, kind), (8, 2 ^ g.val), (16, if a.grd.opened then a.grd.session.toNat else 0)],
      BitVec.ofNat 64 (a.time.tod / 2 ^ 32 / 1000000000),
      word64 [(1, b2n a.time.todValid), (1, 0), (30, a.time.tod / 2 ^ 32 % 1000000000), (16, 0x040 + 4 * g.val), (16, 0)], word64 [(32, old), (32, new)]] ++
      (if a.grd.logSeq = 0 then [0, 0, 0, 0] else (List.range 4).map fun i => BitVec.ofNat 64 (a.grd.head.toNat / 2 ^ (64 * (3 - i))))
    let hashOf := fun (w : List W64) => sha256 (w.flatMap fun x => bytesOf 8 x.toNat)
    let logged := fun (w : List W64) (b' : Bolov) => b'.grd.logSeq = a.grd.logSeq + 1 ∧ b'.grd.head = hashOf w ∧
      (a.grd.log.length < 16384 → b'.grd.log = a.grd.log ++ [w] ∧ b'.grd.anchor = a.grd.anchor) ∧
      (16384 ≤ a.grd.log.length → b'.grd.log = a.grd.log.drop 256 ++ [w] ∧ b'.grd.anchor = hashOf (a.grd.log.getD 255 [])) ∧
      (a.qRoom 6 = true → b'.queues[6].records = a.queues[6].records ++ [w])
    let lost := fun (b' : Bolov) => b'.grd.log = a.grd.log ∧ b'.grd.logSeq = a.grd.logSeq ∧ b'.grd.head = a.grd.head ∧ b'.grd.anchor = a.grd.anchor ∧
      b'.regBit Reg.GRD_STATUS 28 = true ∧ b'.regBit (evtRaw 0x00E) 6 = true
    let state := fun (x : Bolov) => pack [(16, x.clearSeconds g), (3, x.grd.first[g]), (5, 0), (6, x.grd.causes[g].toNat), (2, 0)]
    CompletesB (.guardReadbackSample m fl t) s s1 (fun b' => b'.grd = { grd c.grd b' with readback := m } ∧ frame c b' ∧
      ∀ g : Fin 4, (¬ wrong g → outAs c b' g) ∧ (wrong g → b'.grd.on.getLsbD g = false ∧ b'.grd.causes[g] = c.grd.causes[g] ||| 4 ∧
        b'.grd.first[g] = (if c.grd.causes[g] = 0 then 4 else c.grd.first[g]) ∧ b'.regBit (evtRaw 0x00E) 3 = true ∧
        (c.grd.on.getLsbD g = true → b'.regBit (evtRaw 0x00E) 0 = true ∧ b'.grd.changedAt[g] = c.up))) ∧
    CompletesB (.guardArm m fl) s s (fun b' => b'.grd = grd a.grd b' ∧ frame a b' ∧
      ∀ g : Fin 4, (m.getLsbD g = false → outAs a b' g) ∧
        (m.getLsbD g = true → ready g → b'.grd.on.getLsbD g = true ∧ b'.grd.causes[g] = 0 ∧ b'.grd.first[g] = 0 ∧ b'.grd.changedAt[g] = a.up ∧ b'.regBit (evtRaw 0x00E) 1 = true) ∧
        (m.getLsbD g = true → ¬ ready g → outAs a b' g ∧ b'.regBit Reg.GRD_STATUS (4 + g) = true ∧ b'.regBit (evtRaw 0x00E) 2 = true)) ∧
    CompletesB (.guardOff m fl) s s (fun b' => b'.grd = grd a.grd b' ∧ frame a b' ∧
      ∀ g : Fin 4, (m.getLsbD g = false → outAs a b' g) ∧
        (m.getLsbD g = true → b'.grd.on.getLsbD g = false ∧ b'.grd.causes[g] = a.grd.causes[g] ||| 2 ∧ b'.grd.first[g] = (if a.grd.causes[g] = 0 then 5 else a.grd.first[g]) ∧
          (a.grd.on.getLsbD g = true → b'.regBit (evtRaw 0x00E) 0 = true ∧ b'.grd.changedAt[g] = a.up))) ∧
    (m = BitVec.ofNat 4 (2 ^ g.val) →
      (fl = true → ready g → CompletesB (.guardArm m fl) s s (logged (entry 0x07 (state a) (pack [(16, a.clearSeconds g), (16, 0)])))) ∧
      (fl = true → ¬ ready g → CompletesB (.guardArm m fl) s s (logged (entry 0x08 (state a) (state a)))) ∧
      (fl = false → CompletesB (.guardArm m fl) s s lost ∧ CompletesB (.guardOff m fl) s s lost))

/-- The Guard's password, sessions, lockout and locked registers. A write of GRD_PW_DATA adds four bytes, most significant
first, to a buffer of 64. Unlock posts 2 in a lockout, 4 with no password, 3 for a length outside 12 to 64; the right
password opens a session with the next number and clears the failures, a wrong one counts one, and the fifth begins a
lockout of 3,600 s, with events 4 and 5 (R307, R308). Every result clears the buffer. lock ends the session, as do 600 s
without a locked write. set_pw, in a session or while no password is set, stores the digest of the buffer under a fresh
salt; in a lockout it is refused, outside a session nothing changes but the buffer. The end of a lockout clears the
failures. A write to a locked register outside a session, with a password set, only sets locked_write; else an entry of kind
0x01 is appended and then the register takes the RW bits of the value, or, where the flash fails, nothing but log_fault
happens (R310, R312); an address that is not locked is not written. The digest is a free function of salt and password
(model's choice: the spec gives no salt). [spec/16_guard.md] -/
def Obligations.GuardSessions : Prop :=
  ∀ (s : State) (fl : Bool) (t : Tick) (v : Word) (w : BitVec 16),
    let s1 := reachB t s
    let c := s1.b
    let a := s.b
    let len := fld (a.reg Reg.GRD_PW_LEN) 6 0
    let given := (a.grd.buffer.take len).map BitVec.toNat
    let posts := fun (n : Nat) (b' : Bolov) => b' = { a with grd := { a.grd with result := n, buffer := [] } }
    let entry := fun (x : Bolov) (kind off old new : Nat) => [word64 [(32, x.grd.logSeq), (8, kind), (8, 0), (16, if x.grd.opened then x.grd.session.toNat else 0)],
      BitVec.ofNat 64 (x.time.tod / 2 ^ 32 / 1000000000), word64 [(1, b2n x.time.todValid), (1, 0), (30, x.time.tod / 2 ^ 32 % 1000000000), (16, off), (16, 0)],
      word64 [(32, old), (32, new)]] ++
      (if x.grd.logSeq = 0 then [0, 0, 0, 0] else (List.range 4).map fun i => BitVec.ofNat 64 (x.grd.head.toNat / 2 ^ (64 * (3 - i))))
    let logs := fun (x b' : Bolov) (kind off old new : Nat) => b'.grd.logSeq = x.grd.logSeq + 1 ∧ b'.grd.log.getLast? = some (entry x kind off old new) ∧
      b'.grd.head = sha256 ((entry x kind off old new).flatMap fun e => bytesOf 8 e.toNat)
    let grd := fun (x : GuardState) (b' : Bolov) => { x with log := b'.grd.log, logSeq := b'.grd.logSeq, head := b'.grd.head, anchor := b'.grd.anchor }
    let frame := fun (x b' : Bolov) => BRegsBut [evtRaw 0x00E, Reg.GRD_STATUS] x b' ∧
      b' = { x with regs := b'.regs, queues := b'.queues, counters := b'.counters, owed := b'.owed, logLost := b'.logLost, grd := b'.grd }
    let fault := fun (b' : Bolov) => b'.regBit Reg.GRD_STATUS 28 = true ∧ b'.regBit (evtRaw 0x00E) 6 = true
    let ends := fun (x b' : Bolov) (off : Nat) => frame x b' ∧ b'.grd = { grd x.grd b' with opened := false } ∧ (fl = true → logs x b' 0x05 off 0 0) ∧
      (fl = false → fault b' ∧ b'.grd.log = x.grd.log)
    let locked := w.toNat = 0xE028 ∨ w.toNat = 0xE02C ∨ (∃ i, i < 4 ∧ w.toNat = 0xE060 + 4 * i) ∨
      (∃ r, r < 16 ∧ (w.toNat = 0xE200 + 16 * r ∨ w.toNat = 0xE204 + 16 * r ∨ w.toNat = 0xE208 + 16 * r ∨ w.toNat = 0xE300 + 8 * r ∨ w.toNat = 0xE304 + 8 * r))
    CompletesB (.guardPwDataWrite v) s s (fun b' => b' = { a with grd := { a.grd with
      buffer := (a.grd.buffer ++ [v.extractLsb' 24 8, v.extractLsb' 16 8, v.extractLsb' 8 8, v.extractLsb' 0 8]).take 64 } }) ∧
    (a.grd.lockEnd ≠ none → CompletesB (.guardUnlock fl) s s (posts 2) ∧ CompletesB (.guardSetPw fl) s s (posts 2)) ∧
    (a.grd.lockEnd = none →
      (a.grd.password = none → CompletesB (.guardUnlock fl) s s (posts 4)) ∧
      (a.grd.password ≠ none → ¬ (12 ≤ len ∧ len ≤ 64) → CompletesB (.guardUnlock fl) s s (posts 3)) ∧
      (∀ salt d, a.grd.password = some (salt, d) → 12 ≤ len → len ≤ 64 →
        (Config.passwordDigest salt given = d → fl = true → CompletesB (.guardUnlock fl) s s (fun b' => frame a b' ∧
          b'.grd = { grd a.grd b' with session := a.grd.session + 1, opened := true, lockedAt := a.up, failures := 0, result := 0, buffer := [] } ∧
          logs { a with grd := { a.grd with session := a.grd.session + 1, opened := true } } b' 0x02 0x020 0 0)) ∧
        (Config.passwordDigest salt given = d → fl = false → CompletesB (.guardUnlock fl) s s (fun b' => frame a b' ∧ fault b' ∧
          b'.grd = { a.grd with result := 5, buffer := [] })) ∧
        (Config.passwordDigest salt given ≠ d → a.grd.failures < 4 → CompletesB (.guardUnlock fl) s s (fun b' => frame a b' ∧ b'.regBit (evtRaw 0x00E) 4 = true ∧
          b'.grd = { grd a.grd b' with failures := a.grd.failures + 1, result := 1, buffer := [] } ∧ (fl = true → logs a b' 0x03 0x020 0 0) ∧ (fl = false → fault b'))) ∧
        (Config.passwordDigest salt given ≠ d → 4 ≤ a.grd.failures → CompletesB (.guardUnlock fl) s s (fun b' => frame a b' ∧ b'.regBit (evtRaw 0x00E) 4 = true ∧
          b'.regBit (evtRaw 0x00E) 5 = true ∧ (fl = true → b'.grd.logSeq = a.grd.logSeq + 2) ∧ (fl = false → fault b') ∧
          b'.grd = { grd a.grd b' with failures := a.grd.failures + 1, result := 1, buffer := [], lockEnd := some (a.up + 3600 * 320000000) }))) ∧
      (a.grd.password ≠ none → a.grd.opened = false → CompletesB (.guardSetPw fl) s s (fun b' => b' = { a with grd := { a.grd with buffer := [] } })) ∧
      (a.grd.password = none ∨ a.grd.opened = true →
        (¬ (12 ≤ len ∧ len ≤ 64) → CompletesB (.guardSetPw fl) s s (posts 3)) ∧
        (12 ≤ len → len ≤ 64 → fl = true → CompletesB (.guardSetPw fl) s s (fun b' => frame a b' ∧ logs a b' 0x06 0x020 0 0 ∧
          b'.grd = { grd a.grd b' with salts := a.grd.salts + 1, password := some (a.grd.salts, Config.passwordDigest a.grd.salts given), result := 0, buffer := [] })) ∧
        (12 ≤ len → len ≤ 64 → fl = false → CompletesB (.guardSetPw fl) s s (fun b' => frame a b' ∧ fault b' ∧ b'.grd = { a.grd with result := 5, buffer := [] })))) ∧
    (a.grd.opened = false → CompletesB (.guardLock fl) s s (fun b' => b' = a)) ∧
    (a.grd.opened = true → CompletesB (.guardLock fl) s s (fun b' => ends a b' 0x020)) ∧
    (c.grd.opened = false ∨ c.up < c.grd.lockedAt + 600 * 320000000 → CompletesB (.guardSessionTimeout fl t) s s1 (fun b' => b' = c)) ∧
    (c.grd.opened = true → c.grd.lockedAt + 600 * 320000000 ≤ c.up → CompletesB (.guardSessionTimeout fl t) s s1 (fun b' => ends c b' 0)) ∧
    ((∀ u, c.grd.lockEnd = some u → c.up < u) → CompletesB (.guardLockoutEnd t) s s1 (fun b' => b' = c)) ∧
    (∀ u, c.grd.lockEnd = some u → u ≤ c.up → CompletesB (.guardLockoutEnd t) s s1 (fun b' => b' = { c with grd := { c.grd with lockEnd := none, failures := 0 } })) ∧
    (¬ locked → CompletesB (.guardLockedWrite w v fl) s s (fun b' => b' = a)) ∧
    (locked → a.grd.password ≠ none → a.grd.opened = false → CompletesB (.guardLockedWrite w v fl) s s (fun b' => b' = a.setRegBit Reg.GRD_STATUS 27 true)) ∧
    (locked → a.grd.password = none ∨ a.grd.opened = true →
      (fl = false → CompletesB (.guardLockedWrite w v fl) s s (fun b' => frame a b' ∧ fault b' ∧ b'.grd = a.grd)) ∧
      (fl = true → CompletesB (.guardLockedWrite w v fl) s s (fun b' => b'.reg w.toNat = v &&& bolovRw w.toNat ∧ b'.grd.lockedAt = a.up ∧ a.grd.logSeq < b'.grd.logSeq ∧
        BRegsBut [w.toNat, evtRaw 0x00E, Reg.GRD_STATUS, evtRaw 0x00D] a b' ∧ b'.time = a.time ∧ b'.ports = a.ports ∧ b'.sec = a.sec ∧ b'.pod = a.pod ∧
        b'.grd.password = a.grd.password ∧ b'.grd.opened = a.grd.opened ∧ b'.grd.session = a.grd.session ∧
        (a.grd.log.length < 16384 → ∃ l, b'.grd.log = a.grd.log ++ entry a 0x01 (w.toNat - 0xE000) (a.reg w.toNat).toNat (v &&& bolovRw w.toNat).toNat :: l))))

/-- A write of 1 to a bit of GRD_CTRL.off trips that output with cause host off, in every state. For every state, session or
none, permitting or not: GUARD_OFF with bit g of the mask set, and a write of GRD_CTRL with bit 4 + g set, whatever else it
writes, leave output g without its permit, cause host off set, and, where no cause stood, first cause 5; an output that
permitted raises the trip event (R305). The write that arms the same output in one is no exception (R311). [R306] -/
def Obligations.OffIsNeverRefused : Prop :=
  ∀ (s : State) (fl : Bool) (m : BitVec 4) (v : Word) (g : Fin 4),
    let a := s.b
    let tripped := fun (b' : Bolov) => b'.grd.on.getLsbD g = false ∧ (b'.grd.causes[g]).getLsbD 1 = true ∧ (a.grd.causes[g] = 0 → b'.grd.first[g] = 5) ∧
      (a.grd.on.getLsbD g = true → b'.regBit (evtRaw 0x00E) 0 = true)
    (m.getLsbD g = true → CompletesB (.guardOff m fl) s s tripped) ∧
    (v.getLsbD (4 + g) = true → CompletesB (.registerWrite 0x00E020 v fl) s s tripped)

/-- Addresses, settings and answers of the I3C target: every CCC of R315, and the in-band interrupts. ENTDAA to a target
with no address answers provisional ID, BCR 0x06 and DCR 0x00 and, if it wins, takes the address; SETDASA to its static
address 0x50 + ADDR_SEL takes one; SETNEWDA changes it; RSTDAA drops it (R314, R315). ENEC and DISEC act on ENINT alone.
SETMWL and SETMRL hold lengths to 16 to 4,096 bytes. The GETs answer a target that holds an address, GETSTATUS with the
protocol flag, which it clears, and the IBI sources owed up to 15. RSTACT 0x00 does nothing; 0x01 resets the target but for
its straps, address and owed IBIs; ENTHDR0 enters HDR-DDR. A direct CCC finds no target without an address; an unsupported
one is answered by nothing. An owed IBI goes out with ENINT = 1 and an address held, in the order Guard, pages by rising
number, remote window, quads, bin overflows: mandatory byte and payload, cut to the size of SETMRL; a page with an empty
pending set withdraws its IBI; a NACK leaves it owed (R323). Every command but ENTHDR0, IBI_REQUEST and one that finds no
target ends HDR-DDR; nothing but the target and the owed IBIs changes. [spec/17_control_interface.md] -/
def Obligations.I3cTargetCommands : Prop :=
  ∀ (s : State) (w k d : Bool) (v st : BitVec 7) (e : Byte) (n : BitVec 16) (pl : Option Byte),
    let b := s.b
    let x : I3cState := { b.i3c with hdr := false }
    let with' := fun (i : I3cState) (b' : Bolov) => b' = { b with i3c := i }
    let bytesBE := fun (m val : Nat) => (List.range m).map (fun i => BitVec.ofNat 8 (val / 256 ^ (m - 1 - i)))
    let pid := 0x2E6B * 2 ^ 33 + 2 ^ 32 + crc32c (bytesOf 8 b.sec.unit.toNat) % 2 ^ 32
    let stat : BitVec 7 := BitVec.ofNat 7 (0x50 + b.i3c.addrSel.toNat)
    let held := b.i3c.dyn.isSome = true
    let meets := !d || b.i3c.dyn.isSome
    let len := max 16 (min 4096 n.toNat)
    let owed := b.owed.length + (if b.binIbi.isSome then 1 else 0)
    let ibiOf := fun (p : Nat) => BitVec.ofNat 8 (if p = 0x040 then 0x1D else if 0x020 ≤ p ∧ p < 0x040 then 0x1E else p) ::
      ((if 0x020 ≤ p ∧ p < 0x040 then [BitVec.ofNat 8 (p - 0x020)] else []) ++ bytesBE 4 (b.pendingSet p).toNat).take b.i3c.ibiPayload
    (held → CompletesB (.entdaa v w) s s (with' x)) ∧
    (¬ held → CompletesB (.entdaa v w) s s (with' { x with reply := bytesBE 6 pid ++ [6#8, 0#8], dyn := if w then some v else none })) ∧
    (¬ held → st = stat → CompletesB (.setdasa st v) s s (with' { x with dyn := some v })) ∧
    (held ∨ st ≠ stat → CompletesB (.setdasa st v) s s (with' x)) ∧
    (held → CompletesB (.setnewda v) s s (with' { x with dyn := some v })) ∧
    CompletesB .rstdaa s s (with' { x with dyn := none }) ∧
    (meets = true →
      CompletesB (.enec d e) s s (with' { x with enInt := b.i3c.enInt || e.getLsbD 0 }) ∧
      CompletesB (.disec d e) s s (with' { x with enInt := b.i3c.enInt && !e.getLsbD 0 }) ∧
      CompletesB (.setmwl d n) s s (with' { x with mwl := len }) ∧
      CompletesB (.setmrl d n pl) s s (with' { x with mrl := len, ibiPayload := (pl.map BitVec.toNat).getD b.i3c.ibiPayload }) ∧
      CompletesB (.rstactNone d) s s (with' x) ∧
      CompletesB (.rstactTargetReset d) s s (with' { addrSel := b.i3c.addrSel, dyn := b.i3c.dyn }) ∧
      CompletesB (.cccUnsupported d) s s (with' (if d then { x with reply := [] } else x))) ∧
    (meets = false → ∀ c ∈ [Instr.enec d e, .disec d e, .setmwl d n, .setmrl d n pl, .rstactNone d, .rstactTargetReset d], CompletesB c s s (fun b' => b' = b)) ∧
    (held →
      CompletesB .getpid s s (with' { x with reply := bytesBE 6 pid }) ∧
      CompletesB .getbcr s s (with' { x with reply := [6#8] }) ∧
      CompletesB .getdcr s s (with' { x with reply := [0#8] }) ∧
      CompletesB .getmxds s s (with' { x with reply := [0#8, 0#8] }) ∧
      CompletesB .getmwl s s (with' { x with reply := bytesBE 2 b.i3c.mwl }) ∧
      CompletesB .getmrl s s (with' { x with reply := bytesBE 2 b.i3c.mrl ++ [BitVec.ofNat 8 b.i3c.ibiPayload] }) ∧
      CompletesB .getstatus s s (with' { x with reply := [0#8, BitVec.ofNat 8 ((if b.i3c.protoErr then 32 else 0) + min 15 owed)], protoErr := false }) ∧
      CompletesB .enthdr0 s s (with' { b.i3c with hdr := true })) ∧
    (¬ held → CompletesB .enthdr0 s s (with' x) ∧
      ∀ c ∈ [Instr.setnewda v, .getpid, .getbcr, .getdcr, .getmxds, .getmwl, .getmrl, .getstatus], CompletesB c s s (fun b' => b' = b)) ∧
    (let next := (0x00E :: (List.range 18).filter (· != 0x00E) ++ [0x040] ++ (List.range 32).map (0x020 + ·)).find? fun p => b.owed.contains p;
      (b.i3c.enInt = false ∨ ¬ held → CompletesB (.ibiRequest k) s s (fun b' => b' = b)) ∧
      (b.i3c.enInt = true → held →
        (∀ p, next = some p →
          (b.pendingSet p = 0 → CompletesB (.ibiRequest k) s s (fun b' => b' = { b with owed := b.owed.filter (· != p) })) ∧
          (b.pendingSet p ≠ 0 → k = true → CompletesB (.ibiRequest k) s s (fun b' => b' = b)) ∧
          (b.pendingSet p ≠ 0 → k = false → CompletesB (.ibiRequest k) s s (fun b' => b' = { b with
            owed := b.owed.filter (· != p), i3c := { b.i3c with ibi := ibiOf p } }))) ∧
        (next = none →
          (b.binIbi = none ∨ k = true → CompletesB (.ibiRequest k) s s (fun b' => b' = b)) ∧
          (∀ y, b.binIbi = some y → k = false → CompletesB (.ibiRequest k) s s (fun b' => b' = { b with
            binIbi := none, i3c := { b.i3c with ibi := 0x1F#8 :: (bytesBE 2 y.1 ++ bytesBE 2 (min 0xFFFF y.2)).take b.i3c.ibiPayload } })))))

/-- Register transfers of the host, wide values and their latches, event clears and enables, unmapped and unpowered
registers. A write transfer with address a takes MWL bytes in all and writes one register for every four bytes, at a, a + 4
and on, wrapping at 0xFF_FFFC; the pointer follows; a partial register and bytes beyond MWL count as a protocol error each,
with event 0; an address that is not a multiple of 4 is ignored and counts as one; HDR-DDR does the same with 16-bit words,
and nothing outside its mode (R316, R317). A read answers MRL bytes at most: whole registers with their effects, then bytes
of a register that keeps its effects and the pointer. An unmapped address reads 0 and counts in GLB_UNMAPPED; a block that
is off ignores writes (R321). A plain RW register takes its RW bits; RATE_REGION is staged (R9); a read of a _LO latches the
higher parts for its own path; a write of a writable _LO is held and takes effect with the _HI, the reset value standing in
for none (R318). EVT_CLR clears bits, EVT_EN sets enables; a page left with a pending event owes an IBI with ibi_en (R322).
`writeReg` and `readReg` are the model's one register access; REGISTER_WRITE is that access itself.
[spec/17_control_interface.md, spec/00_scope.md, spec/18_configuration_commit.md] -/
def Obligations.RegisterTransfers : Prop :=
  ∀ (s : State) (a : BitVec 24) (l : List Byte) (v : Word) (fl : Bool) (reads : List LineRead) (p : Path) (n : Nat) (w0 w1 : BitVec 16) (ws : List (BitVec 16)) (pg : BitVec 12),
    let b := s.b
    let sdr : Bolov := { b with i3c := { b.i3c with hdr := false } }
    let err := fun (x : Bolov) => ({ x with i3c := { x.i3c with protoErr := true } }.count Reg.GLB_PROTO_ERR 1).raise 0x000 0
    let at' := fun (k : Nat) (x : Bolov) => { x with i3c := { x.i3c with pointer := k } }
    let wrote := fun (x : Bolov) (l : List Byte) =>
      let m := l.take (b.i3c.mwl - 3)
      let y := (List.range (m.length / 4)).foldl (fun x i => at' ((a.toNat + 4 * (i + 1)) % 2 ^ 24)
        (x.writeReg ((a.toNat + 4 * i) % 2 ^ 24) (m.getD (4 * i) 0 ++ m.getD (4 * i + 1) 0 ++ m.getD (4 * i + 2) 0 ++ m.getD (4 * i + 3) 0) fl reads)) (at' a.toNat x)
      let y1 := if m.length % 4 = 0 then y else err y
      if b.i3c.mwl < 3 + l.length then err y1 else y1
    let be4 := fun (x : Word) => [x.extractLsb' 24 8, x.extractLsb' 16 8, x.extractLsb' 8 8, x.extractLsb' 0 8]
    let did := fun (x : Bolov) (n : Nat) =>
      let m := min n b.i3c.mrl
      let r := (List.range (m / 4)).foldl (fun (r : List Byte × Bolov) _ =>
        let y := r.2.readReg .host r.2.i3c.pointer reads
        (r.1 ++ be4 y.1, at' ((r.2.i3c.pointer + 4) % 2 ^ 24) y.2)) ([], x)
      { r.2 with i3c := { r.2.i3c with reply := r.1 ++ (be4 (r.2.readReg .host r.2.i3c.pointer reads).1).take (m % 4) } }
    let addr := [a.extractLsb' 16 8, a.extractLsb' 8 8, a.extractLsb' 0 8]
    let mapped := pg.toNat ≤ 0x012 ∨ (0x020 ≤ pg.toNat ∧ pg.toNat ≤ 0x040) ∨ (0x041 ≤ pg.toNat ∧ pg.toNat ≤ 0x046)
    let owes := fun (b' : Bolov) => b'.owed =
      if (b'.reg (evtRaw pg.toNat) &&& b'.reg (evtEn pg.toNat)) ≠ 0 ∧ (b.reg (evtCtrl pg.toNat)).getLsbD 0 = true ∧ pg.toNat ∉ b.owed then b.owed ++ [pg.toNat] else b.owed
    let evtFrame := fun (k : Nat) (b' : Bolov) => BRegsBut [k] b b' ∧ b' = { b with regs := b'.regs, owed := b'.owed }
    let unmapped := b.count Reg.GLB_UNMAPPED 1
    (a.toNat % 4 = 0 →
      CompletesB (.i3cRegisterWrite (addr ++ l) fl reads) s s (fun b' => b' = wrote sdr l) ∧
      (3 ≤ b.i3c.mwl → CompletesB (.i3cSetPointer a) s s (fun b' => b' = at' a.toNat sdr)) ∧
      (b.i3c.hdr = true → w0.toNat % 256 * 2 ^ 16 + w1.toNat = a.toNat → CompletesB (.hdrDdrWrite (w0 :: w1 :: ws) fl reads) s s
        (fun b' => b' = wrote b (ws.flatMap fun w => [w.extractLsb' 8 8, w.extractLsb' 0 8])))) ∧
    (a.toNat % 4 ≠ 0 → CompletesB (.i3cRegisterWrite (addr ++ l) fl reads) s s (fun b' => b' = err sdr) ∧ CompletesB (.i3cSetPointer a) s s (fun b' => b' = err sdr)) ∧
    CompletesB (.i3cRegisterRead n reads) s s (fun b' => b' = did sdr n) ∧
    (b.i3c.hdr = true → CompletesB (.hdrDdrRead n reads) s s (fun b' => b' = did b (2 * n))) ∧
    (b.i3c.hdr = false → CompletesB (.hdrDdrRead n reads) s s (fun b' => b' = b) ∧ CompletesB (.hdrDdrWrite ws fl reads) s s (fun b' => b' = b)) ∧
    (bolovRow a.toNat = none → b.readReg .host a.toNat reads = (0, unmapped) ∧
      ∀ c ∈ [Instr.registerWrite a v fl, .wideHiWrite a v fl, .wideLoRead p a], CompletesB c s s (fun b' => b' = unmapped)) ∧
    (∀ r, bolovRow a.toNat = some r →
      (0x020 ≤ a.toNat % 0x1000 → b.pageOn (a.toNat / 0x1000) = false → b.readReg .host a.toNat reads = (0, b) ∧
        ∀ c ∈ [Instr.registerWrite a v fl, .wideHiWrite a v fl, .wideLoRead p a], CompletesB c s s (fun b' => b' = b)) ∧
      (a.toNat % 0x1000 < 0x020 ∨ b.pageOn (a.toNat / 0x1000) = true →
        (a.toNat = Reg.GLB_SCRATCH ∨ a.toNat / 0x1000 = 0x001 → r.kind = .plain → a.toNat % 0x1000 ≠ 0x018 → CompletesB (.registerWrite a v fl) s s (fun b' =>
          (∀ i, i < 32 → (b'.reg a.toNat).getLsbD i = if r.rw.testBit i then v.getLsbD i else (b.reg a.toNat).getLsbD i && !(v.getLsbD i && r.w1c.testBit i)) ∧
          BRegsBut [a.toNat] b b' ∧ (a.toNat % 0x1000 ≠ 0x014 → b' = { b with regs := b'.regs }))) ∧
        (∀ k, k < 64 → a.toNat = 0x008200 + 4 * k → CompletesB (.registerWrite a v fl) s s (fun b' => fget none b'.cmt.staged.regs a.toNat = some v ∧ BRegsBut [] b b' ∧
          b' = { b with regs := b'.regs, cmt := { b.cmt with staged := { b.cmt.staged with regs := b'.cmt.staged.regs } } })) ∧
        (r.kind = .lo ∧ r.rw = 0 ∨ r.kind = .mid ∨ r.kind = .ctrLo ∨ r.kind = .ctrHi ∨ r.kind = .hi ∧ r.rw = 0 → CompletesB (.registerWrite a v fl) s s (fun b' => b' = b)) ∧
        (r.kind = .lo → r.rw ≠ 0 → a.toNat ≠ Reg.SORT_S0 → CompletesB (.registerWrite a v fl) s s (fun b' =>
          fget none b'.heldLo a.toNat = some v ∧ (∀ k, k ≠ a.toNat → fget none b'.heldLo k = fget none b.heldLo k) ∧ b' = { b with heldLo := b'.heldLo })) ∧
        (a.toNat = Reg.RMT_FC_TICK + 4 → CompletesB (.wideHiWrite a v fl) s s (fun b' => BRegsBut [Reg.RMT_FC_TICK, Reg.RMT_FC_TICK + 4] b b' ∧ b' = { b with regs := b'.regs } ∧
          b'.reg Reg.RMT_FC_TICK = (fget none b.heldLo Reg.RMT_FC_TICK).getD 0 ∧ b'.reg (Reg.RMT_FC_TICK + 4) = v &&& 0xFFFF#32)) ∧
        (r.kind = .lo ∨ r.kind = .ctrLo → CompletesB (.wideLoRead p a) s s (fun b' =>
          let whole := if r.kind = .lo then b.wideView a.toNat else (b.shownCtr a.toNat r.sel).shown
          (b.readReg p a.toNat reads).1 = BitVec.ofNat 32 whole ∧ b'.latched p (a.toNat + 4) = BitVec.ofNat 32 (whole / 2 ^ 32) ∧
          ((bolovRow (a.toNat + 4)).map RegRow.kind = some .mid → b'.latched p (a.toNat + 8) = BitVec.ofNat 32 (whole / 2 ^ 64)) ∧
          (∀ q k, (q ≠ p ∨ k ≠ a.toNat + 4 ∧ k ≠ a.toNat + 8) → b'.latched q k = b.latched q k) ∧
          b' = { b with hostLatch := b'.hostLatch, coreLatch := b'.coreLatch })))) ∧
    (mapped → CompletesB (.evtClrWrite pg v) s s (fun b' => b'.reg (evtRaw pg.toNat) = b.reg (evtRaw pg.toNat) &&& ~~~v ∧ owes b' ∧ evtFrame (evtRaw pg.toNat) b') ∧
      CompletesB (.evtEnWrite pg v) s s (fun b' => b'.reg (evtEn pg.toNat) = v ∧ owes b' ∧ evtFrame (evtEn pg.toNat) b')) ∧
    (¬ mapped → CompletesB (.evtClrWrite pg v) s s (fun b' => b' = unmapped) ∧ CompletesB (.evtEnWrite pg v) s s (fun b' => b' = unmapped))

/-- The privileged queues' pop, push and clear, and the table windows' fetches, staged writes and immediate writes. A pop
removes the head of a host-bound queue; from an empty one it sets empty_pop. A push appends the buffer of a queue bound for
the Bolov; on a full one it sets full_push. A pop or push against the direction sets wrong_dir; clear discards every record
and keeps the reservations (R325, R326). A window's fetch shows the newest staged value with staged = 1, else the entry in
force: of the region map, the steering table (lane i mod 16), the overflow enables (0), the masks (all ones), the contexts
and the marks; an index past the table acts as 0 (R328). TW_INDEX fetches; a read of TW_DATA0 advances the index, wrapping,
and fetches; a write of it stages an entry of the first three tables, or writes the enables or masks at once, and advances
without a fetch; staged and poisoned read 0. A write to the mark table sets ro_write and does nothing. The contexts stage at
most 8,192 entries; one more sets full. Stated for lines that hold no error and no poison and stand in no tracker entry
(`CleanLine`) and, for the contexts, no walk and no merge running. [spec/17_control_interface.md, spec/18_configuration_commit.md,
spec/13_memory_integrity.md] -/
def Obligations.QueuesAndTableWindows : Prop :=
  ∀ (s : State) (q : Fin 8) (w : Fin 6) (v : Word),
    let b := s.b
    let recs := b.queues[q].records
    let only := fun (r : List (List W64)) (b' : Bolov) => b' = { b with queues := b.queues.set q { b.queues[q] with records := r } }
    let flag := fun (a i : Nat) (b' : Bolov) => b' = b.setRegBit a i true
    let toBolov := q = 0 ∨ q = 3
    let words := if q = 0 then 8 else 4
    let buffer := (List.range words).map fun k => b.reg (0x12140 + 0x100 * q + 8 * k) ++ b.reg (0x12144 + 0x100 * q + 8 * k)
    let c := b.cmt
    let size := fun (w : Fin 6) => ([4096, 256, 262144, 2048, 64, 64] : List Nat).getD w 0
    let act := fun (i : Nat) => if i < size w then i else 0
    let whole := ∀ l, CleanLine l b
    let still := b.sort.walk = none ∧ c.toMerge = []
    let waits := c.busy = true ∧ c.switched = false
    let ctxWaits := c.busy = true ∧ c.reached = false
    let shown := fun (i : Nat) (b' : Bolov) => ∃ (val : Nat) (st : Bool),
      b' = { b with windows := b.windows.set w { index := b'.windows[w].index, data := Vector.ofFn fun k => BitVec.ofNat 32 (val / 2 ^ (32 * k.val)), staged := st, poisoned := false } } ∧
      (w = 0 → (∀ x, fget none c.staged.regionMap i = some x → val = x.toNat ∧ st = true) ∧
        (∀ x, fget none c.staged.regionMap i = none → waits → fget none c.copy.regionMap i = some x → val = x.toNat ∧ st = true) ∧
        (fget none c.staged.regionMap i = none → (¬ waits ∨ fget none c.copy.regionMap i = none) → val = (fget (0x0100#16) b.sort.cfg.regionMap i).toNat ∧ st = false)) ∧
      (w = 1 → (∀ x, fget none c.staged.steering i = some x → val = x.toNat ∧ st = true) ∧
        (∀ x, fget none c.staged.steering i = none → waits → fget none c.copy.steering i = some x → val = x.toNat ∧ st = true) ∧
        (fget none c.staged.steering i = none → (¬ waits ∨ fget none c.copy.steering i = none) → val = b.sort.cfg.lane i ∧ st = false)) ∧
      (w = 2 → still → (∀ x, fget none c.staged.contexts i = some x → val = ((x.2 &&& ctxWritable) ||| (b.ctx i &&& ~~~ctxWritable)).toNat ∧ st = true) ∧
        (∀ x, fget none c.staged.contexts i = none → ctxWaits → fget none c.copy.contexts i = some x → val = ((x.2 &&& ctxWritable) ||| (b.ctx i &&& ~~~ctxWritable)).toNat ∧ st = true) ∧
        (fget none c.staged.contexts i = none → (¬ ctxWaits ∨ fget none c.copy.contexts i = none) → val = (b.ctx i).toNat ∧ st = false)) ∧
      (w = 3 → val = (fget 0 b.sort.overflowEn i).toNat ∧ st = false) ∧
      (w = 4 → val = ((fget none b.tarn.masks (i / 4)).getD (BitVec.allOnes 256)).toNat / 2 ^ (64 * (i % 4)) % 2 ^ 64 ∧ st = false) ∧
      (w = 5 → val = (b.mark i).entry b.tarn.hist ∧ st = false)
    let i := act b.windows[w].index
    let val := b.windows[w].data[3] ++ b.windows[w].data[2] ++ b.windows[w].data[1] ++ v
    let next := fun (b' : Bolov) => b'.windows = b.windows.set w { index := (i + 1) % size w, data := b.windows[w].data.set 0 v, staged := false, poisoned := false }
    (toBolov → CompletesB (.pqPop q) s s (flag (0x12108 + 0x100 * q) 29)) ∧
    (¬ toBolov → recs = [] → CompletesB (.pqPop q) s s (flag (0x12108 + 0x100 * q) 31)) ∧
    (∀ r l, ¬ toBolov → recs = r :: l → CompletesB (.pqPop q) s s (only l)) ∧
    (¬ toBolov → CompletesB (.pqPush q) s s (flag (0x12108 + 0x100 * q) 29)) ∧
    (toBolov → (if q = 0 then 16 else 64) ≤ recs.length → CompletesB (.pqPush q) s s (flag (0x12108 + 0x100 * q) 30)) ∧
    (toBolov → recs.length < (if q = 0 then 16 else 64) → CompletesB (.pqPush q) s s (only (recs ++ [buffer]))) ∧
    CompletesB (.pqClear q) s s (only []) ∧
    (whole → (w = 2 → still) →
      CompletesB (.twIndexWrite w v []) s s (fun b' => shown (act (v.toNat % 2 ^ 18)) b' ∧ b'.windows[w].index = v.toNat % 2 ^ 18) ∧
      CompletesB (.twData0Read w []) s s (fun b' => shown ((i + 1) % size w) b' ∧ b'.windows[w].index = (i + 1) % size w)) ∧
    (w = 5 → CompletesB (.twData0Write w v) s s (flag 0x46024 27)) ∧
    (w = 0 → CompletesB (.twData0Write w v) s s (fun b' => next b' ∧ fget none b'.cmt.staged.regionMap i = some (v.setWidth 16 &&& 0x1FF#16) ∧
      (∀ k, k ≠ i → fget none b'.cmt.staged.regionMap k = fget none c.staged.regionMap k) ∧
      b' = { b with windows := b'.windows, cmt := { c with staged := { c.staged with regionMap := b'.cmt.staged.regionMap } } })) ∧
    (w = 1 → CompletesB (.twData0Write w v) s s (fun b' => next b' ∧ fget none b'.cmt.staged.steering i = some (v.setWidth 8 &&& 0x0F#8) ∧
      (∀ k, k ≠ i → fget none b'.cmt.staged.steering k = fget none c.staged.steering k) ∧
      b' = { b with windows := b'.windows, cmt := { c with staged := { c.staged with steering := b'.cmt.staged.steering } } })) ∧
    (whole → w = 2 → (fget none c.staged.contexts i ≠ none ∨ c.staged.contexts.length < 8192) → CompletesB (.twData0Write w v) s s (fun b' => next b' ∧
      (∃ slot, fget none b'.cmt.staged.contexts i = some (slot, val &&& ctxWritable)) ∧ (∀ k, k ≠ i → fget none b'.cmt.staged.contexts k = fget none c.staged.contexts k) ∧
      b' = { b with windows := b'.windows, mere := b'.mere, cmt := { c with slot := b'.cmt.slot, staged := { c.staged with contexts := b'.cmt.staged.contexts } } })) ∧
    (w = 2 → fget none c.staged.contexts i = none → 8192 ≤ c.staged.contexts.length → CompletesB (.twData0Write w v) s s (fun b' => next b' ∧
      b' = { (b.setRegBit 0x43024 28 true) with windows := b'.windows })) ∧
    (whole → w = 3 → CompletesB (.twData0Write w v) s s (fun b' => next b' ∧ fget 0 b'.sort.overflowEn i = v ∧ (∀ k, k ≠ i → fget 0 b'.sort.overflowEn k = fget 0 b.sort.overflowEn k) ∧
      b' = { b with windows := b'.windows, mere := b'.mere, sort := { b.sort with overflowEn := b'.sort.overflowEn } })) ∧
    (whole → w = 4 → CompletesB (.twData0Write w v) s s (fun b' => next b' ∧
      (let mask := fun (x : Bolov) (j : Nat) => (fget none x.tarn.masks j).getD (BitVec.allOnes 256);
        (∀ j, j ≠ i / 4 → mask b' j = mask b j) ∧
        (∀ n : Nat, n < 256 → (mask b' (i / 4)).getLsbD n = if n / 64 = i % 4 then val.getLsbD (n % 64) else (mask b (i / 4)).getLsbD n)) ∧
      b' = { b with windows := b'.windows, mere := b'.mere, tarn := { b.tarn with masks := b'.tarn.masks } }))

/-- Requests to Jilek registers: queued, issued, answered at issue, timed out and re-sent; the host's fast commands. A write
of RMT_REQ queues a request with the next sequence number; with 256 waiting it sets req_full and raises event 2 (R330). A
port issues its oldest waiting request if fewer than 8 are outstanding, REMOTE_RSP has room and none has timed out: with the
lease not owned it is answered 4, with the link down 5, with a bad op or address 6, else it goes out as CONFIG with its tag
(R110); a record is reserved. Requests that timed out are sent again once no other is outstanding, or answered 5. A request
with no response RMT_TIMEOUT ticks (at least 256) after its frame has timed out; with once = 1 or its tries spent it ends
with 3, counts and raises event 0. An answer is posted when no earlier request of its port waits; its record has the layout
of R331. Stated for a queue whose requests are unanswered and have distinct sequence numbers. A go of RMT_FC_CMD is refused
with 1 (opcode, argument or reserved bits), 2 (TEST_PULSE before w + 96 + D), 3 (release while hold is required) or 4 (no
port), with event 1, else every named port that is owned and on gets the command and the others count as skipped (R332); a
go while busy does nothing. [spec/17_control_interface.md, spec/06_links.md, spec/18_configuration_commit.md] -/
def Obligations.RemoteRequests : Prop :=
  ∀ (s : State) (v : Word) (p : Fin 128) (q : BitVec 16) (t : Tick) (pre post : List Request) (r : Request),
    let s1 := reachB t s
    let c := s1.b
    let a := s.b
    let rmt := fun (l : List Request) (x b' : Bolov) => b'.rmt = { x.rmt with requests := l }
    let record := fun (r : Request) (res : Nat) => [word64 [(16, r.seq.toNat), (3, res), (7, r.port), (2, r.op), (4, min 15 r.attempts), (16, r.addr.toNat), (16, 0)],
      word64 [(32, if r.op = 2 then 0 else r.data.toNat), (32, 0)]]
    let answered := fun (r : Request) (res : Nat) (x b' : Bolov) =>
      ((∀ y ∈ pre, y.port ≠ r.port) → rmt (pre ++ post) x b' ∧ b'.queues = x.queues.set 7 { records := x.queues[7].records ++ [record r res], reserved := x.queues[7].reserved - 1 }) ∧
      ((∃ y ∈ pre, y.port = r.port) → rmt (pre ++ { r with answer := some (record r res) } :: post) x b' ∧ b'.queues = x.queues) ∧
      b'.port r.port = { x.port r.port with commands := (x.port r.port).commands.filter (fun k => k.request != some r.seq) } ∧
      (∀ k : Nat, k ≠ r.port → b'.port k = x.port k) ∧ b' = { x with rmt := b'.rmt, queues := b'.queues, ports := b'.ports }
    let config := fun (r : Request) => ({ op := 0x9, arg := 0, request := some r.seq, payload := pack [(8, r.seq.toNat), (2, r.op), (2, 0), (16, r.addr.toNat), (4, 0), (32, if r.op = 2 then 0 else r.data.toNat), (32, 0)] } : PortCmd)
    let sent := fun (r : Request) (x b' : Bolov) => rmt (pre ++ { r with issued := true, timedOut := false, sentAt := none, attempts := r.attempts + 1 } :: post) x b' ∧
      b'.port r.port = { x.port r.port with commands := (x.port r.port).commands ++ [config r] } ∧ (∀ k : Nat, k ≠ r.port → b'.port k = x.port k) ∧
      b' = { x with rmt := b'.rmt, ports := b'.ports }
    let fits := c.rmt.requests = pre ++ r :: post ∧ (∀ y ∈ pre ++ r :: post, y.answer = none) ∧ (∀ y ∈ pre ++ post, y.seq ≠ r.seq)
    let up := c.txOn p = true ∧ ((c.port p).rx = .ready ∨ (c.port p).rx = .data)
    let mine := c.rmt.requests.filter fun y => y.port == p.val && y.answer.isNone
    let out := mine.filter fun y => y.issued
    let late := out.filter fun y => y.timedOut
    let reserve := fun (x : Bolov) => { x with queues := x.queues.set 7 { x.queues[7] with reserved := x.queues[7].reserved + 1 } }
    let feId := r.op = 1 ∧ r.addr.toNat = 0x3008 ∧ ((c.port p).owner = false ∨ up)
    let x1 := if feId then { reserve c with cmt := { c.cmt with staged := { c.cmt.staged with feIds := fset none c.cmt.staged.feIds p (some (r.data.setWidth 16)) } } } else reserve c
    let named := (List.range 128).filter fun k => (a.reg (0x40040 + 4 * (k / 32))).getLsbD (k % 32)
    let can := named.filter fun k => (a.port k).owner && a.txOn k
    let tick : Tick := BitVec.ofNat 48 ((a.reg 0x40058).toNat + 2 ^ 32 * (a.reg 0x4005C).toNat)
    let op := v.toNat / 2 ^ 24 % 16
    let arg := v.toNat / 2 ^ 16 % 256
    let b0 := a.setReg Reg.RMT_FC_CMD (v &&& 0x0FFF0000#32)
    let fc : PortCmd := { op := op, arg := arg, fc := true, payload := if op = 4 then tick.toNat * 2 ^ 48 else (a.reg 0x40054).toNat * 2 ^ 64 }
    let refused := fun (n k : Nat) (b' : Bolov) => b' = ({ b0 with rmt := { b0.rmt with fcResult := n, fcSkipped := k } }).raise 0x040 1
    let bad := ¬ (op = 3 ∧ arg ≤ 4 ∨ (op = 4 ∨ op = 5 ∨ op = 8) ∧ arg = 0) ∨ v &&& 0x7000FFFF#32 ≠ 0
    let soon := op = 4 ∧ later (a.tick + BitVec.ofNat 48 (96 + (named.map a.downTicks).foldl max 0)) tick = true
    let hold := op = 3 ∧ arg = 4 ∧ (2 ≤ a.rate.stage ∨ a.protectedOpen = true)
    let waiting := (a.rmt.requests.filter fun y => y.answer.isNone).length
    (256 ≤ waiting → CompletesB (.rmtReqWrite v) s s (fun b' => b' = (a.setRegBit 0x40024 31 true).raise 0x040 2)) ∧
    (waiting < 256 → CompletesB (.rmtReqWrite v) s s (fun b' => b' = { a with rmt := { a.rmt with nextSeq := a.rmt.nextSeq + 1, requests := a.rmt.requests ++ [{ seq := a.rmt.nextSeq, port := v.toNat / 2 ^ 22 % 128, op := v.toNat / 2 ^ 30, once := v.getLsbD 29, addr := v.setWidth 16, data := a.reg 0x40030 }] } })) ∧
    (late ≠ [] → out.length ≠ late.length → CompletesB (.remoteRequestIssue p t) s s1 (fun b' => b' = c)) ∧
    (fits → r.port = p.val → r.issued = true → r.timedOut = true → (∀ y ∈ pre ++ post, y.port = p.val → y.issued = false) →
      (up → CompletesB (.remoteRequestIssue p t) s s1 (sent r c)) ∧ (¬ up → CompletesB (.remoteRequestIssue p t) s s1 (answered r 5 c))) ∧
    (late = [] → (∀ y ∈ mine, y.issued = true) ∨ 8 ≤ out.length ∨ c.qRoom 7 = false → CompletesB (.remoteRequestIssue p t) s s1 (fun b' => b' = c)) ∧
    (fits → r.port = p.val → r.issued = false → late = [] → (∀ y ∈ pre, y.port = p.val → y.issued = true) → out.length < 8 → c.qRoom 7 = true →
      ((c.port p).owner = false → CompletesB (.remoteRequestIssue p t) s s1 (answered { r with issued := true } 4 x1)) ∧
      ((c.port p).owner = true → ¬ up → CompletesB (.remoteRequestIssue p t) s s1 (answered { r with issued := true } 5 x1)) ∧
      ((c.port p).owner = true → up → r.op = 0 ∨ r.op = 3 ∨ r.addr.toNat % 4 ≠ 0 → CompletesB (.remoteRequestIssue p t) s s1 (answered { r with issued := true } 6 x1)) ∧
      ((c.port p).owner = true → up → r.op ≠ 0 → r.op ≠ 3 → r.addr.toNat % 4 = 0 → CompletesB (.remoteRequestIssue p t) s s1 (sent r x1))) ∧
    ((∀ y ∈ c.rmt.requests, y.seq = q → y.answer ≠ none ∨ y.timedOut = true ∨ ∀ u, y.sentAt = some u → c.up < u + max 256 ((c.reg 0x40028).toNat % 2 ^ 16)) → CompletesB (.remoteRequestTimeout q t) s s1 (fun b' => b' = c)) ∧
    (fits → r.seq = q → r.timedOut = false → (∃ u, r.sentAt = some u ∧ u + max 256 ((c.reg 0x40028).toNat % 2 ^ 16) ≤ c.up) →
      (r.once = true ∨ (c.reg 0x40020).toNat % 16 < r.attempts → CompletesB (.remoteRequestTimeout q t) s s1 (answered r 3 ((c.count Reg.RMT_TIMEOUTS 1).raise 0x040 0))) ∧
      (r.once = false → r.attempts ≤ (c.reg 0x40020).toNat % 16 → CompletesB (.remoteRequestTimeout q t) s s1 (fun b' =>
        b' = { c with rmt := { c.rmt with requests := pre ++ { r with timedOut := true, sentAt := none } :: post } }))) ∧
    ((a.rmt.fcBusy = true → CompletesB (.rmtFcGo v) s s (fun b' => b' = b0)) ∧
      (a.rmt.fcBusy = false →
        (bad → CompletesB (.rmtFcGo v) s s (refused 1 0)) ∧
        (¬ bad → soon → CompletesB (.rmtFcGo v) s s (refused 2 0)) ∧
        (¬ bad → hold → CompletesB (.rmtFcGo v) s s (refused 3 0)) ∧
        (¬ bad → ¬ soon → ¬ hold → can = [] → CompletesB (.rmtFcGo v) s s (refused 4 named.length)) ∧
        (¬ bad → ¬ soon → ¬ hold → can ≠ [] → CompletesB (.rmtFcGo v) s s (fun b' =>
          b'.rmt = { a.rmt with fcBusy := true, fcBegun := false, fcResult := 0, fcSkipped := named.length - can.length } ∧
          (∀ k ∈ can, b'.port k = { a.port k with commands := (a.port k).commands ++ [fc] }) ∧ (∀ k, k ∉ can → b'.port k = a.port k) ∧
          b'.trg = (if op = 4 then { a.trg with testPulses := (tick, a.up) :: a.trg.testPulses } else a.trg) ∧
          b' = { b0 with rmt := b'.rmt, ports := b'.ports, trg := b'.trg }))))

/-- A commit at the Bolov: go and its refusals, discard, the target tick, repeats of COMMIT, the context merge, completion.
go takes CMT_TARGET, raised to a slice start with align = 1 (of the run, while the engine runs), and is refused, with result, CMT_REFUSED and event 1, for the
lowest of: busy, a target before w + 96 + D, one after w + 2^28, an unanswered remote request (R336). Else busy is set, the
staged set is copied and emptied, epoch e + 1 is pending, event 0 is raised and COMMIT goes out on every port in data whose
lease is owned (R337). discard, while not busy, drops all that is staged but the copies of TP_FE_ID. At T the merge begins
and event 2 is raised; with the engine stopped the slice-aligned items switch too: epoch, region map, steering, staged
registers (R335). COMMIT goes out again to ports without a report at T + 256 and every 1,024 ticks until CMT_WAIT. The merge
gives a context the staged fields and the new epoch and keeps its delivered counter, and ta, dt and status with keep_cal
(R340). A commit whose target, switch, merge and reports (or CMT_WAIT) are over completes: busy clears, late and missing
Jileks are counted, CMT_DONE rises, event 3, event 4 if any, and its report is issued (R343). In every other case these
events change nothing. A switch and a merge count as changes for a quote in production (R360).
Stated for lines that hold no error, store no poison and stand in no tracker entry (`CleanLine`). [spec/18_configuration_commit.md,
spec/17_control_interface.md] -/
def Obligations.CommitsAtTheBolov : Prop :=
  ∀ (s : State) (t : Tick),
    let s1 := reachB t s
    let c := s1.b
    let a := s.b
    let evt := fun (i : Nat) (b' : Bolov) => b'.regBit (evtRaw 0x011) i = true
    let ends := fun (x b' : Bolov) => b' = { x with regs := b'.regs, queues := b'.queues, counters := b'.counters, owed := b'.owed, logLost := b'.logLost, cmt := b'.cmt }
    let cp := (fkeys a.ports).filter fun k => (a.port k).rx == .data && ((a.port k).owner || a.pod.state == .standby)
    let d := (cp.map a.downTicks).foldl max 0
    let t0 : Tick := BitVec.ofNat 48 ((a.reg Reg.CMT_TARGET).toNat + 2 ^ 32 * (a.reg (Reg.CMT_TARGET + 4)).toNat)
    let first : Int := (a.sort.nextSlice : Int) - (-(t0 - a.sort.nextStart).toInt) / (a.sliceLen : Int)
    let T : Tick := if (a.reg Reg.CMT_CTRL).getLsbD 1 && a.sort.running then a.sort.nextStart + BitVec.ofInt 48 (((first.toNat : Int) - a.sort.nextSlice) * a.sliceLen)
      else if (a.reg Reg.CMT_CTRL).getLsbD 1 && later t0 a.s0 then a.s0 + BitVec.ofNat 48 ((tickDiff t0 a.s0 + a.sliceLen - 1) / a.sliceLen * a.sliceLen)
      else if (a.reg Reg.CMT_CTRL).getLsbD 1 then a.s0 else t0
    let why := if a.cmt.busy then 1 else if later (a.tick + BitVec.ofNat 48 (96 + d)) T then 2 else if later T (a.tick + BitVec.ofNat 48 (2 ^ 28)) then 3
      else if a.rmt.requests.any (fun r => r.answer.isNone) then 4 else 0
    let sent := fun (x b' : Bolov) (l : List Nat) (e : BitVec 4) (T : Tick) => ∀ k, b'.port k = { x.port k with commands := (x.port k).commands ++ List.replicate (if (x.port k).owner then l.count k else 0) { op := 2, arg := e.toNat, payload := T.toNat * 2 ^ 48 } }
    let due := c.cmt.busy = true ∧ c.cmt.reached = false ∧ notBefore c.tick c.cmt.t = true
    let begins := fun (b' : Bolov) => evt 2 b' ∧ b'.cmt.reached = true ∧ b'.cmt.mergeAt = c.up ∧ b'.cmt.keepCal = (c.reg Reg.CMT_CTRL).getLsbD 0 ∧
      b'.cmt.toMerge = c.cmt.copy.contexts.filterMap (fun e => e.2.map fun v => (e.1, v.1, v.2)) ∧ b'.cmt.total = b'.cmt.toMerge.length ∧
      b'.cmt.mergeEnd = (if b'.cmt.toMerge = [] then some c.cmt.t else none) ∧ b'.cmt.copy = c.cmt.copy ∧ b'.cmt.busy = true ∧ b'.cmt.t = c.cmt.t
    let clean := ∀ l, CleanLine l c
    let noted := fun (n : Nat) => { c.sec with quote := c.sec.quote.map fun q => { q with changes := q.changes + n } }
    let waits := c.cmt.copy.contexts.filterMap (fun e => e.2.map fun v => (e.1, v.1, v.2)) ≠ []
    let since := if notBefore c.tick c.cmt.t then (c.tick - c.cmt.t).toNat else 0
    let wait := max 1024 ((c.reg Reg.CMT_WAIT).toNat % 2 ^ 16)
    let again := c.cmt.busy = true ∧ c.cmt.reached = true ∧ 256 ≤ since ∧ (since - 256) % 1024 = 0 ∧ since < wait
    let merging := c.cmt.reached = true ∧ c.cmt.mergeEnd = none
    let done := c.cmt.busy = true ∧ c.cmt.reached = true ∧ c.cmt.switched = true ∧ c.cmt.mergeEnd ≠ none ∧ ((∀ x ∈ c.cmt.ports, x.report ≠ none) ∨ wait ≤ since)
    let late := (c.cmt.ports.filter fun x => x.report.any fun r => r.2).length
    let missing := (c.cmt.ports.filter fun x => x.report.isNone).length
    let report := [word64 [(8, 4), (8, 4 + late + missing), (4, c.cmt.pending.toNat), (4, (c.cmt.pending - 1).toNat), (1, if 0 < c.cmt.merged then 1 else 0),
        (1, if c.cmt.keepCal then 1 else 0), (8, late), (8, missing), (22, 0)],
      word64 [(16, 0), (48, c.cmt.t.toNat)], word64 [(16, c.cmt.poisoned), (48, c.cmt.firstSlice)],
      word64 [(16, c.cmt.merged), (48, (if c.cmt.merged = 0 then c.cmt.t else c.cmt.mergeEnd.getD c.cmt.t).toNat)]] ++
      (c.cmt.ports.filter fun x => x.report.all fun r => r.2).map fun x => word64 [(7, x.port), (1, if x.report = none then 1 else 0), (8, 0),
        (48, (x.report.map fun r => r.1.toNat).getD 0)]
    (why ≠ 0 → CompletesB .cmtGo s s (fun b' => b' = (({ a with cmt := { a.cmt with result := why } }).count Reg.CMT_REFUSED 1).raise 0x011 1)) ∧
    (why = 0 → CompletesB .cmtGo s s (fun b' => evt 0 b' ∧ sent a b' cp (a.sort.cfg.epoch + 1) T ∧ BRegsBut [Reg.CMT_TARGET, Reg.CMT_TARGET + 4, evtRaw 0x011] a b' ∧
      b'.reg Reg.CMT_TARGET = T.setWidth 32 ∧ b'.reg (Reg.CMT_TARGET + 4) = (T >>> 32).setWidth 32 ∧
      b'.cmt = { a.cmt with busy := true, t := T, pending := a.sort.cfg.epoch + 1, result := 0, staged := {}, copy := a.cmt.staged, ports := cp.map (fun k => ⟨k, none⟩), reached := false, switched := false, toMerge := [], total := 0, merged := 0, poisoned := 0, mergeEnd := none, sentAt := a.up } ∧
      ends { a with ports := b'.ports } b')) ∧
    (a.cmt.busy = true → CompletesB .cmtDiscard s s (fun b' => b' = a)) ∧
    (a.cmt.busy = false → CompletesB .cmtDiscard s s (fun b' => b' = { a with cmt := { a.cmt with staged := { feIds := a.cmt.staged.feIds } } })) ∧
    (¬ due → CompletesB (.commitTargetReached t) s s1 (fun b' => b' = c)) ∧
    (due → c.sort.running = true → CompletesB (.commitTargetReached t) s s1 (fun b' => begins b' ∧ b'.cmt.switched = c.cmt.switched ∧ (waits → b'.sec = noted 1) ∧ (¬ waits → b'.sec = c.sec) ∧ ends { c with sec := b'.sec } b' ∧ BRegsBut [evtRaw 0x011] c b')) ∧
    (due → c.sort.running = false → c.cmt.switched = false → clean → CompletesB (.commitTargetReached t) s s1 (fun b' => begins b' ∧ b'.cmt.switched = true ∧
      b'.sort.cfg.epoch = c.cmt.pending ∧ b'.sort.oldCfgs = ⟨c.tick, c.up, c.sort.cfg⟩ :: c.sort.oldCfgs ∧ (waits → b'.sec = noted 2) ∧ (¬ waits → b'.sec = noted 1) ∧
      (∀ e, fget (0x0100#16) b'.sort.cfg.regionMap e = (newestOf c.cmt.copy.regionMap e).getD (fget (0x0100#16) c.sort.cfg.regionMap e)) ∧
      (∀ e, fget none b'.sort.cfg.steering e = match newestOf c.cmt.copy.steering e with | some v => some (v.setWidth 4) | none => fget none c.sort.cfg.steering e) ∧
      (∀ k, 0x20 ≤ k % 0x1000 → b'.reg k = match newestOf c.cmt.copy.regs k with | some v => (c.reg k &&& ~~~ commitMask k) ||| (v &&& commitMask k) | none => c.reg k) ∧
      b'.sort.cfg.classExempt = (b'.reg Reg.RATE_CLASS_EXEMPT).setWidth 16 ∧ b'.sort.cfg.laneEn = (b'.reg Reg.OUT_LANE_EN).setWidth 16 ∧
      b'.sort.cfg.streamId = (b'.reg Reg.OUT_STREAM_ID).setWidth 16 ∧ b'.sort.cfg.cal = (b'.reg Reg.OUT_CTRL).getLsbD 0 ∧
      b'.sort.slices = c.sort.slices ∧ b'.sort.contexts = c.sort.contexts ∧ b'.ports = c.ports ∧ b'.time = c.time ∧ b'.grd = c.grd)) ∧
    (again → CompletesB (.commitResend t) s s1 (fun b' => sent c b' ((c.cmt.ports.filter fun x => x.report.isNone).map CmtPort.port) c.cmt.pending c.cmt.t ∧
      b' = { c with ports := b'.ports, cmt := { c.cmt with sentAt := c.up } })) ∧
    (¬ again → CompletesB (.commitResend t) s s1 (fun b' => b' = c)) ∧
    (¬ merging → CompletesB (.contextMergeEnd [] t) s s1 (fun b' => b' = c)) ∧
    (merging → clean → CompletesB (.contextMergeEnd [] t) s s1 (fun b' => b'.cmt.mergeEnd = some c.tick ∧ b'.cmt.lastMergeEnd = c.tick ∧ b'.cmt.toMerge = [] ∧
      b'.cmt.merged = c.cmt.merged + c.cmt.toMerge.length ∧ b'.cmt.poisoned = c.cmt.poisoned ∧ b' = { c with cmt := b'.cmt, mere := b'.mere, sort := { c.sort with contexts := b'.sort.contexts } } ∧
      (∀ i, (∀ e ∈ c.cmt.toMerge, e.1 ≠ i) → b'.ctx i = c.ctx i) ∧
      (∀ pre post i slot v, c.cmt.toMerge = pre ++ (i, slot, v) :: post → (∀ e ∈ post, e.1 ≠ i) →
        (b'.ctx i).extractLsb' 0 40 = (c.ctx i).extractLsb' 0 40 ∧ (b'.ctx i).extractLsb' 44 4 = c.cmt.pending ∧
        (b'.ctx i).extractLsb' 48 1 = v.extractLsb' 48 1 ∧ (b'.ctx i).extractLsb' 49 3 = 0#3 ∧ (b'.ctx i).extractLsb' 52 44 = v.extractLsb' 52 44 ∧
        (c.cmt.keepCal = true → (b'.ctx i).extractLsb' 96 32 = (c.ctx i).extractLsb' 96 32 ∧ (b'.ctx i).extractLsb' 40 4 = (c.ctx i).extractLsb' 40 4) ∧
        (c.cmt.keepCal = false → (b'.ctx i).extractLsb' 96 32 = v.extractLsb' 96 32 ∧
          (b'.ctx i).extractLsb' 40 4 = if v.extractLsb' 40 4 = 5#4 then 5#4 else 0#4)))) ∧
    (¬ done → CompletesB (.commitComplete t) s s1 (fun b' => b' = c)) ∧
    (done → CompletesB (.commitComplete t) s s1 (fun b' => b'.cmt = { c.cmt with busy := false, copy := {}, lastLate := late, lastMissing := missing } ∧ evt 3 b' ∧
      (0 < late + missing → evt 4 b') ∧ ends { c with notices := b'.notices } b' ∧ BRegsBut [evtRaw 0x011] c b' ∧ ((c.ctr Reg.CMT_DONE 0).val < maxCount → (b'.ctr Reg.CMT_DONE 0).val = (c.ctr Reg.CMT_DONE 0).val + 1) ∧
      (c.ek4 = true → b'.notices = c.notices) ∧ (c.ek4 = false → b'.notices = c.notices ++ [⟨report, none⟩])))

/-- HOST_CMD records are taken in order and answered once each: status, quotes, certificate, trial, confirm, advance,
decommission. A command is carried out when it heads HOST_CMD and HOST_RSP has room; its response repeats tag, code and
offset, holds a place reserved when the command was taken, and follows the responses before it (R325, R357). In recovery
mode all but five codes are answered 6; after DECOMMISSION all but GET_STATUS 5; with the crypto domain off QUOTE_START,
UPDATE_END and GUARD_RESET 6 (model's choice, log entry 108); an unknown code 2. GET_STATUS returns SEC_STATUS and a fresh
nonce, zero in recovery or with the domain off. QUOTE_START while not personalised is refused, while one is made busy;
QUOTE_READY posts 8,408 bytes whose body is that of R359, or status 1 after three restarts, which take three switches or merges (R360). QUOTE_READ and CERT_READ
return 48 bytes. SET_TRIAL needs a valid slot; CONFIRM makes the running trial slot active; ADVANCE raises the counter,
never lowers it, refused above sec_ver or on an unconfirmed slot; DECOMMISSION needs 0xDEC0 and overwrites both keys with
ones; SEC_CTRL.recover waits for the next warm reset. Without a waiting command of its code a command changes nothing.
[spec/19_security_identity.md, spec/17_control_interface.md, spec/20_power_reset_radiation.md] -/
def Obligations.HostCommandsAndQuotes : Prop :=
  ∀ (s : State) (t : Tick) (fl rs : Bool),
    let s1 := reachB t s
    let c := s1.b
    let cmds : List (Instr × Nat) := [(.getStatus t, 0x01), (.quoteStart t, 0x10), (.quoteRead t, 0x11), (.certRead t, 0x20), (.updateBegin t, 0x30),
      (.updateData t, 0x31), (.updateEnd t, 0x32), (.setTrial t, 0x33), (.confirm t, 0x34), (.advance t, 0x35), (.guardReset fl t, 0x40), (.tokenData t, 0x41), (.decommission t, 0x50)]
    let code := fun (r : List W64) => fld (r.getD 0 0) 47 40
    let arg := fun (r : List W64) => fld (r.getD 1 0) 31 0
    let off := fun (r : List W64) => fld (r.getD 0 0) 31 0
    let head := fun (r : List W64) (l : List (List W64)) => c.queues[0].records = r :: l ∧ c.qRoom 1 = true
    let taken := fun (l : List (List W64)) => { c with queues := (c.queues.set 0 { c.queues[0] with records := l }).set 1 { c.queues[1] with reserved := c.queues[1].reserved + 1 } }
    let resp := fun (r : List W64) (st : Nat) (data : List Nat) (w : List W64) => w.length = 8 ∧
      w.getD 0 0 = word64 [(16, fld (r.getD 0 0) 63 48), (8, code r), (8, st), (32, off r)] ∧
      ∀ i, i < data.length → i < 48 → (w.getD (2 + i / 8) 0).toNat / 256 ^ (7 - i % 8) % 256 = data.getD i 0 % 256
    let posts := fun (r : List W64) (st : Nat) (data : List Nat) (Q : List W64 → Prop) (x b' : Bolov) => ∃ w, resp r st data w ∧ Q w ∧
      (x.sec.answers = [] → b'.sec = x.sec ∧ b'.queues = x.queues.set 1 { records := x.queues[1].records ++ [w], reserved := x.queues[1].reserved - 1 }) ∧
      (x.sec.answers.head? = some none → b'.sec = { x.sec with answers := x.sec.answers ++ [some w] } ∧ b'.queues = x.queues) ∧
      b' = { x with sec := b'.sec, queues := b'.queues }
    let ans := fun (r : List W64) (st : Nat) (x b' : Bolov) => posts r st [] (fun _ => True) x b'
    let fine := fun (n : Nat) => (c.sec.recovery = false ∨ n ∈ [0x01, 0x30, 0x31, 0x32, 0x33]) ∧ (c.sec.lifecycle ≠ 2 ∨ n = 0x01) ∧ (c.domOn 79 = true ∨ n ∉ [0x10, 0x32, 0x40])
    let live := c.sec.recovery = false ∧ c.domOn 79 = true
    let ns := fun (q : QuoteRun) => q.tod / 2 ^ 32
    let body := fun (q : QuoteRun) => bytesOf 4 0x51540001 ++ bytesOf 8 c.sec.unit.toNat ++ bytesOf 32 c.sec.imageDigest.toNat ++ bytesOf 32 c.configDigest.toNat ++
      bytesOf 32 q.head.toNat ++ bytesOf 4 q.logSeq ++ [c.sec.secVer, c.sec.counter, 0, 0] ++ bytesOf 8 (ns q / 1000000000) ++
      bytesOf 4 ((if q.todValid then 2 ^ 31 else 0) + ns q % 1000000000) ++ bytesOf 4 (c.sec.quoteSeq + 1) ++ (((q.cmd.drop 2).take 6).flatMap fun w => bytesOf 8 w.toNat).take 32 ++ [0, 0, 0, 0]
    (c.queues[0].records = [] ∨ c.qRoom 1 = false → CompletesB (.unknownHostCmd t) s s1 (fun b' => b' = c) ∧ ∀ k ∈ cmds, CompletesB k.1 s s1 (fun b' => b' = c)) ∧
    (∀ r l, head r l →
      (∀ k ∈ cmds, code r ≠ k.2 → CompletesB k.1 s s1 (fun b' => b' = c)) ∧
      (∀ k ∈ cmds, code r = k.2 →
        CompletesB (.unknownHostCmd t) s s1 (fun b' => b' = c) ∧
        (c.sec.recovery = true → k.2 ∉ [0x01, 0x30, 0x31, 0x32, 0x33] → CompletesB k.1 s s1 (ans r 6 (taken l))) ∧
        (c.sec.recovery = false ∨ k.2 ∈ [0x01, 0x30, 0x31, 0x32, 0x33] → c.sec.lifecycle = 2 → k.2 ≠ 0x01 → CompletesB k.1 s s1 (ans r 5 (taken l))) ∧
        (c.sec.recovery = false ∨ k.2 = 0x32 → c.sec.lifecycle ≠ 2 → c.domOn 79 = false → k.2 ∈ [0x10, 0x32, 0x40] → CompletesB k.1 s s1 (ans r 6 (taken l)))) ∧
      ((∀ k ∈ cmds, code r ≠ k.2) → CompletesB (.unknownHostCmd t) s s1 (ans r (if c.sec.recovery then 6 else if c.sec.lifecycle = 2 then 5 else 2) (taken l))) ∧
      (code r = 0x01 → CompletesB (.getStatus t) s s1 (fun b' => ∃ n : BitVec 256, (live → n = Config.entropy c.sec.draws) ∧ (¬ live → n = 0) ∧
        posts r 0 (bytesOf 32 n.toNat) (fun w => fld (w.getD 1 0) 31 0 = c.secStatus) { (taken l) with sec := { c.sec with draws := c.sec.draws + 1, nonce := if c.sec.recovery = false && c.domOn 79 then some n else none } } b')) ∧
      (code r = 0x10 → fine 0x10 →
        (c.sec.lifecycle ≠ 1 → CompletesB (.quoteStart t) s s1 (ans r 5 (taken l))) ∧
        (c.sec.lifecycle = 1 → c.sec.quote ≠ none → CompletesB (.quoteStart t) s s1 (ans r 1 (taken l))) ∧
        (c.sec.lifecycle = 1 → c.sec.quote = none → CompletesB (.quoteStart t) s s1 (fun b' => b' = { (taken l) with sec := { c.sec with
          quote := some ⟨r, c.up, c.time.tod, c.time.todValid, c.grd.head, c.grd.logSeq, if c.cmt.reached = true ∧ c.cmt.mergeEnd = none then 1 else 0⟩, answers := c.sec.answers ++ [none] } }))) ∧
      (code r = 0x11 → fine 0x11 →
        (c.sec.quoteBytes = [] → CompletesB (.quoteRead t) s s1 (fun b' => ∃ st, ans r st (taken l) b')) ∧
        (c.sec.quoteBytes ≠ [] → c.sec.quoteBytes.length ≤ off r → CompletesB (.quoteRead t) s s1 (ans r 3 (taken l))) ∧
        (off r < c.sec.quoteBytes.length → CompletesB (.quoteRead t) s s1 (posts r 0 (((c.sec.quoteBytes.map BitVec.toNat).drop (off r)).take 48) (fun _ => True) (taken l)))) ∧
      (code r = 0x20 → fine 0x20 →
        (c.sec.lifecycle ≠ 1 → CompletesB (.certRead t) s s1 (ans r 5 (taken l))) ∧
        (c.sec.lifecycle = 1 → 8672 ≤ off r → CompletesB (.certRead t) s s1 (ans r 3 (taken l))) ∧
        (c.sec.lifecycle = 1 → off r < 8672 → CompletesB (.certRead t) s s1 (posts r 0 ((((List.range 8672).map fun i => (fget 0xFF c.sec.flash (0x1000000 + i)).toNat).drop (off r)).take 48) (fun _ => True) (taken l)))) ∧
      (code r = 0x33 → fine 0x33 →
        (1 < arg r → CompletesB (.setTrial t) s s1 (ans r 3 (taken l))) ∧
        (arg r ≤ 1 → c.sec.valid.getLsbD (arg r) = false → CompletesB (.setTrial t) s s1 (ans r 5 (taken l))) ∧
        (arg r ≤ 1 → c.sec.valid.getLsbD (arg r) = true → CompletesB (.setTrial t) s s1 (ans r 0 { (taken l) with sec := { c.sec with trial := some (arg r), tried := false } }))) ∧
      (code r = 0x34 → fine 0x34 →
        (c.sec.trialRuns = true → CompletesB (.confirm t) s s1 (ans r 0 { (taken l) with sec := { c.sec with active := c.sec.running, trial := none, tried := false, trialRuns := false } })) ∧
        (c.sec.trialRuns = false → CompletesB (.confirm t) s s1 (fun b' => ∃ st, ans r st (taken l) b'))) ∧
      (code r = 0x35 → fine 0x35 →
        (c.sec.secVer < arg r ∨ c.sec.trialRuns = true → CompletesB (.advance t) s s1 (ans r 5 (taken l))) ∧
        (arg r ≤ c.sec.secVer → c.sec.trialRuns = false → CompletesB (.advance t) s s1 (ans r 0 { (taken l) with sec := { c.sec with counter := max c.sec.counter (arg r) } }))) ∧
      (code r = 0x50 → fine 0x50 →
        (arg r ≠ 0xDEC0 → CompletesB (.decommission t) s s1 (ans r 3 (taken l))) ∧
        (arg r = 0xDEC0 → CompletesB (.decommission t) s s1 (ans r 0 { (taken l) with sec := { c.sec with lifecycle := 2, deviceRsa := BitVec.allOnes 3072, deviceSlh := BitVec.allOnes 768 } })))) ∧
    (c.sec.quote = none → CompletesB (.quoteReady rs t) s s1 (fun b' => b' = c)) ∧
    (∀ q, c.sec.quote = some q → c.sec.answers = [none] →
      (rs = true → 3 ≤ q.changes → CompletesB (.quoteReady rs t) s s1 (fun b' => ∃ w, resp q.cmd 1 [] w ∧
        b' = { c with sec := { c.sec with quote := none, answers := [] }, queues := c.queues.set 1 { records := c.queues[1].records ++ [w], reserved := c.queues[1].reserved - 1 } })) ∧
      (rs = false ∨ q.changes < 3 → CompletesB (.quoteReady rs t) s s1 (fun b' => ∃ (w : List W64) (z : List Nat), resp q.cmd 0 [] w ∧ fld (w.getD 1 0) 63 32 = 8408 ∧ z.length = 8240 ∧
        b'.sec = { c.sec with quote := none, answers := [], quoteSeq := c.sec.quoteSeq + 1, quoteBytes := (body q ++ z).map (BitVec.ofNat 8) } ∧
        b'.queues[1] = { records := c.queues[1].records ++ [w], reserved := c.queues[1].reserved - 1 } ∧ b'.regBit (evtRaw 0x00F) 0 = true ∧ BRegsBut [evtRaw 0x00F] c b' ∧
        b' = { c with regs := b'.regs, queues := b'.queues, counters := b'.counters, owed := b'.owed, logLost := b'.logLost, sec := b'.sec }))) ∧
    CompletesB .secRecover s s (fun b' => b' = { s.b with sec := { s.b.sec with recoverNext := true } })

/-- Firmware update, token, Guard reset and the boot sequence. UPDATE_BEGIN with a slot above 1 or a length outside 1 to 8
MiB is answered 3, naming the running slot 5; else the slot is erased and marked invalid. UPDATE_DATA of 1 to 48 bytes at
rising offsets within the length is written; other lengths are answered 3, others 5 (R357). UPDATE_END answers 0 and marks
the slot valid with event 1 where it verifies (R354), else 4. TOKEN_DATA writes 48 bytes into the token. GUARD_RESET with a
token of this unit, log head, nonce and both vendor signatures clears password, failures and lockout, restores every locked
register and trips every output; else it logs kind 0x03 and is answered 4 (R361). Boot logs kind 0x0B, takes a trial slot
not yet tried, else the active slot, runs the first of it and the other that verifies, marks a trial tried before it jumps,
and ends in recovery with event 3 where neither verifies, the known-answer tests fail or recovery was asked for (R355,
R356); a trial slot tried before fails with event 4. `slotVerifies` is R354 over the flash. Stated for commands that
recovery, lifecycle and domains allow. [spec/19_security_identity.md, spec/16_guard.md] -/
def Obligations.UpdatesTokensAndBoot : Prop :=
  ∀ (s : State) (t : Tick) (fl kat : Bool) (ms : BitVec 12),
    let s1 := reachB t s
    let c := s1.b
    let code := fun (r : List W64) => fld (r.getD 0 0) 47 40
    let arg := fun (r : List W64) => fld (r.getD 1 0) 31 0
    let off := fun (r : List W64) => fld (r.getD 0 0) 31 0
    let len := fun (r : List W64) => fld (r.getD 1 0) 63 32
    let data := fun (r : List W64) => (((r.drop 2).take 6).flatMap fun w => bytesOf 8 w.toNat).map (BitVec.ofNat 8)
    let part := fun (r : List W64) => (data r).take (len r)
    let taken := fun (l : List (List W64)) => { c with queues := (c.queues.set 0 { c.queues[0] with records := l }).set 1 { c.queues[1] with reserved := c.queues[1].reserved + 1 } }
    let ans := fun (r : List W64) (st : Nat) (x b' : Bolov) => ∃ w : List W64, w.length = 8 ∧ w.getD 0 0 = word64 [(16, fld (r.getD 0 0) 63 48), (8, code r), (8, st), (32, off r)] ∧
      (x.sec.answers = [] → b'.sec = x.sec ∧ b'.queues = x.queues.set 1 { records := x.queues[1].records ++ [w], reserved := x.queues[1].reserved - 1 }) ∧
      (x.sec.answers.head? = some none → b'.sec = { x.sec with answers := x.sec.answers ++ [some w] } ∧ b'.queues = x.queues) ∧
      b' = { x with sec := b'.sec, queues := b'.queues }
    let flash := fun (x : Bolov) (a : Nat) => fget 0xFF x.sec.flash a
    let tok := (List.range 8312).map fun i => (fget 0 c.sec.token i).toNat
    let good := (∃ n, c.sec.nonce = some n ∧ tok.take 72 = bytesOf 8 c.sec.unit.toNat ++ bytesOf 32 c.grd.head.toNat ++ bytesOf 32 n.toNat) ∧
      Config.vendorRsaVerify c.sec.vendorRsa (tok.take 72) ((tok.drop 72).take 384) = true ∧ Config.vendorSlhVerify c.sec.vendorSlh (tok.take 72) (tok.drop 456) = true
    let free := c.sec.lifecycle ≠ 2 ∧ c.domOn 79 = true
    (∀ r l, c.queues[0].records = r :: l → c.qRoom 1 = true → free →
      (code r = 0x30 →
        (1 < arg r ∨ len r = 0 ∨ 0x800000 < len r → CompletesB (.updateBegin t) s s1 (ans r 3 (taken l))) ∧
        (arg r ≤ 1 → len r ≠ 0 → len r ≤ 0x800000 →
          (arg r = c.sec.running → c.sec.recovery = false → CompletesB (.updateBegin t) s s1 (ans r 5 (taken l))) ∧
          (arg r ≠ c.sec.running ∨ c.sec.recovery = true → CompletesB (.updateBegin t) s s1 (fun b' => ∃ x, ans r 0 x b' ∧
            (∀ a, flash x a = if arg r * 0x800000 ≤ a ∧ a < arg r * 0x800000 + 0x800000 then 0xFF#8 else flash c a) ∧
            x = { (taken l) with sec := { c.sec with flash := x.sec.flash, update := some ⟨arg r, len r, 0⟩, valid := c.sec.valid &&& ~~~BitVec.ofNat 2 (2 ^ arg r) } })))) ∧
      (code r = 0x31 →
        (len r = 0 ∨ 48 < len r → CompletesB (.updateData t) s s1 (ans r 3 (taken l))) ∧
        (1 ≤ len r → len r ≤ 48 → c.sec.update = none → CompletesB (.updateData t) s s1 (ans r 5 (taken l))) ∧
        (∀ u, 1 ≤ len r → len r ≤ 48 → c.sec.update = some u →
          (off r < u.next ∨ u.length < off r + len r → CompletesB (.updateData t) s s1 (ans r 5 (taken l))) ∧
          (u.next ≤ off r → off r + len r ≤ u.length → CompletesB (.updateData t) s s1 (fun b' => ∃ x, ans r 0 x b' ∧
            (∀ i, i < (part r).length → flash x (u.slot * 0x800000 + off r + i) = (part r).getD i 0) ∧
            (∀ a, a < u.slot * 0x800000 + off r ∨ u.slot * 0x800000 + off r + (part r).length ≤ a → flash x a = flash c a) ∧
            x = { (taken l) with sec := { c.sec with flash := x.sec.flash, update := some { u with next := off r + len r } } })))) ∧
      (code r = 0x32 →
        (c.sec.update = none → CompletesB (.updateEnd t) s s1 (fun b' => ∃ st, ans r st (taken l) b')) ∧
        (∀ u, c.sec.update = some u →
          (c.slotVerifies u.slot = false → CompletesB (.updateEnd t) s s1 (ans r 4 { (taken l) with sec := { c.sec with update := none } })) ∧
          (c.slotVerifies u.slot = true → CompletesB (.updateEnd t) s s1 (ans r 0 (({ (taken l) with sec := { c.sec with update := none, valid := setBit c.sec.valid u.slot true } }).raise 0x00F 1))))) ∧
      (code r = 0x41 → c.sec.recovery = false →
        (8312 ≤ off r → CompletesB (.tokenData t) s s1 (ans r 3 (taken l))) ∧
        (off r < 8312 → CompletesB (.tokenData t) s s1 (fun b' => ∃ x, ans r 0 x b' ∧
          (∀ i, i < (data r).length → off r + i < 8312 → fget 0 x.sec.token (off r + i) = (data r).getD i 0) ∧ (∀ a, a < off r ∨ off r + (data r).length ≤ a → fget 0 x.sec.token a = fget 0 c.sec.token a) ∧
          x = { (taken l) with sec := { c.sec with token := x.sec.token } }))) ∧
      (code r = 0x40 → c.sec.recovery = false →
        (good → CompletesB (.guardReset fl t) s s1 (fun b' => ∃ x, ans r 0 x b' ∧ x.sec = c.sec ∧ x.grd.password = none ∧ x.grd.failures = 0 ∧ x.grd.lockEnd = none ∧ x.grd.opened = false ∧
          x.grd.on = 0 ∧ (∀ a, guardLocked a = true → x.reg a = bolovReset a) ∧ (fl = true → c.grd.logSeq < x.grd.logSeq ∧ (x.grd.log.getLast?.map fun w => fld (w.getD 0 0) 31 24) = some 0x06) ∧
          x.ports = c.ports ∧ x.time = c.time ∧ x.sort = c.sort)) ∧
        (¬ good → CompletesB (.guardReset fl t) s s1 (fun b' => ∃ x, ans r 4 x b' ∧ x.sec = c.sec ∧ x.grd.password = c.grd.password ∧ x.grd.on = c.grd.on ∧
          (fl = true → x.grd.logSeq = c.grd.logSeq + 1 ∧ (x.grd.log.getLast?.map fun w => fld (w.getD 0 0) 31 24) = some 0x03) ∧ BRegsBut [evtRaw 0x00E, Reg.GRD_STATUS] c x ∧
          x.ports = c.ports ∧ x.time = c.time ∧ x.sort = c.sort)))) ∧
    CompletesB (.bootSequence kat ms fl t) s s1 (fun b' =>
      let stale := c.sec.trial.isSome && c.sec.tried
      let fail := kat = false ∨ c.sec.recoverNext = true
      let first := if stale then c.sec.active else c.sec.trial.getD c.sec.active
      let trial := !stale && c.sec.trial.isSome
      b'.sec.bootMs = ms.toNat ∧ b'.sec.recoverNext = false ∧ b'.sec.flash = c.sec.flash ∧ b'.sec.counter = c.sec.counter ∧ b'.sec.active = c.sec.active ∧
      (fl = true → b'.grd.logSeq = c.grd.logSeq + 1 ∧ (b'.grd.log.getLast?.map fun w => fld (w.getD 0 0) 31 24) = some 0x0B) ∧
      (fl = false → b'.regBit Reg.GRD_STATUS 28 = true) ∧
      (fail ∨ c.slotVerifies first = false ∧ c.slotVerifies (1 - first) = false → b'.sec.recovery = true ∧ b'.sec.trialRuns = false ∧ b'.sec.valid = 0 ∧ b'.regBit (evtRaw 0x00F) 3 = true) ∧
      (¬ fail → c.slotVerifies first = true → b'.sec.recovery = false ∧ b'.sec.running = first ∧ b'.sec.trialRuns = trial ∧ b'.sec.valid = setBit 0 first true ∧
        (trial = true → b'.sec.tried = true) ∧ b'.sec.secVer = (flash c (first * 0x800000 + 12)).toNat) ∧
      (¬ fail → c.slotVerifies first = false → c.slotVerifies (1 - first) = true → b'.sec.recovery = false ∧ b'.sec.running = 1 - first ∧ b'.sec.trialRuns = false ∧
        b'.sec.valid = setBit 0 (1 - first) true) ∧
      (¬ fail → stale = true → b'.sec.trial = none ∧ b'.regBit Reg.SEC_STATUS 26 = true ∧ b'.regBit (evtRaw 0x00F) 4 = true) ∧
      (fail ∨ stale = false → b'.sec.trial = c.sec.trial) ∧
      BRegsBut [evtRaw 0x00E, evtRaw 0x00F, Reg.GRD_STATUS, Reg.SEC_STATUS] c b' ∧
      b' = { c with regs := b'.regs, queues := b'.queues, counters := b'.counters, owed := b'.owed, logLost := b'.logLost, grd := b'.grd, sec := b'.sec })

/-- Resets of the Bolov and what they keep, power domains, supply, temperature and the end of bring-up. A power-on, pin or
brown-out reset keeps OTP, flash and boot state, the Guard's locked registers, password, failures, lockout time, session
number and log; every output is off with cause and first cause reset, queues, counters, ports and every other register stand
at reset, POD_CTRL.pref and POD_LEASE_ID as strap and identity give them (R279, R370). A warm reset keeps besides the tick,
the dynamic address, owed IBIs, Mere remaps and the bad groups, with cause 3 (R371). A write of PWR_DOM_ONk gives each
domain its bit; one whose switching off R368 refuses stays on, with dom_refused and event 1. A quad off takes its ports out
of data, a bank off loses its contexts, a GDDR6 channel off takes Tarn off, the monitor off stops its converters, the timing
port off begins holdover with src = PTP; a lane off cuts its frame. A domain works while the bit is written and
PWR_DOM_STATE shows it. PWR_DOM_STATE follows when a domain has switched; one that has come on starts: a lane with idle
blocks, the monitor as after reset, the crypto domain with its known-answer tests, of which a failure sets kat_fail (R362). VDD_CORE below 720 mV sets
vcore_low, with event 2 at a change (R366); a rise of the junction above 105 C raises event 3. Bring-up by strap 1 or 2 ends
once in READY, outside recovery mode and Tarn training and once every port is off, has reached data or has had its 10 ms,
with event 0, and lists the powered ports that never reached data (R372). [spec/20_power_reset_radiation.md,
spec/16_guard.md, spec/17_control_interface.md] -/
def Obligations.PowerAndResetsOfTheBolov : Prop :=
  ∀ (s : State) (t : Tick) (cause : Fin 3) (br : BitVec 2) (sel : BitVec 3) (pref : Bool) (k : Fin 3) (v : Word) (d : Fin 80) (mv tj : BitVec 12) (kat : Bool),
    let s1 := reachB t s
    let c := s1.b
    let a := s.b
    let fresh := fun (b' : Bolov) (cause : Nat) (br : BitVec 2) (sel : BitVec 3) (pref : Bool) =>
      b'.up = 0 ∧ b'.counters = [] ∧ b'.ports = [] ∧ (∀ q : Fin 8, b'.queues[q] = {}) ∧ b'.heldLo = [] ∧ b'.notices = [] ∧
      (∀ x, guardLocked x = true → b'.reg x = a.reg x) ∧
      (∀ x, guardLocked x = false → x ≠ Reg.POD_CTRL → x ≠ Reg.POD_LEASE_ID → b'.reg x = bolovReset x) ∧
      (b'.reg Reg.POD_CTRL).getLsbD 1 = pref ∧ b'.reg Reg.POD_LEASE_ID = word32 [(16, 0), (1, if pref then 1 else 0), (15, a.sec.unit.toNat / 2 ^ 19 % 2 ^ 15)] ∧
      b'.grd.on = 0 ∧ b'.grd.opened = false ∧ (∀ g : Fin 4, b'.grd.causes[g] = 1 ∧ b'.grd.first[g] = 6) ∧
      b'.grd.password = a.grd.password ∧ b'.grd.failures = a.grd.failures ∧ b'.grd.lockEnd = a.grd.lockEnd.map (fun u => u - a.up) ∧ b'.grd.session = a.grd.session ∧
      b'.grd.log = a.grd.log ∧ b'.grd.logSeq = a.grd.logSeq ∧ b'.grd.head = a.grd.head ∧ b'.grd.anchor = a.grd.anchor ∧
      b'.sec.unit = a.sec.unit ∧ b'.sec.lifecycle = a.sec.lifecycle ∧ b'.sec.counter = a.sec.counter ∧ b'.sec.vendorRsa = a.sec.vendorRsa ∧ b'.sec.vendorSlh = a.sec.vendorSlh ∧
      b'.sec.deviceRsa = a.sec.deviceRsa ∧ b'.sec.deviceSlh = a.sec.deviceSlh ∧ b'.sec.flash = a.sec.flash ∧ b'.sec.active = a.sec.active ∧ b'.sec.trial = a.sec.trial ∧
      b'.sec.tried = a.sec.tried ∧ b'.sec.nonce = none ∧ b'.sec.quote = none ∧ b'.sec.answers = [] ∧
      b'.pwr = { bringup := br, pref := pref, cause := BitVec.ofNat 3 cause } ∧ b'.i3c.addrSel = sel ∧ b'.sort.running = false ∧ b'.sort.contexts = [] ∧ b'.tarn.ready = false ∧ b'.cmt = {}
    let refused := fun (d : Nat) => (32 ≤ d ∧ d < 48 ∧ (a.reg Reg.OUT_LANE_EN).getLsbD (d - 32) = true) ∨ d = 62 ∨ d = 63 ∨ ((48 ≤ d ∧ d < 62 ∨ 72 ≤ d ∧ d < 76) ∧ a.sort.running = true) ∨
      (d = 76 ∧ (a.reg Reg.GRD_CONV).toNat % 16 ≠ 0) ∨ (d = 78 ∧ (a.reg Reg.POD_CTRL).getLsbD 0 = true) ∨ (d = 79 ∧ a.sec.quote ≠ none)
    let bit' := fun (d : Nat) => v.getLsbD (d % 32) = true
    let goesOff := fun (d : Nat) => d / 32 = k ∧ d < 80 ∧ a.domBit d = true ∧ ¬ bit' d ∧ ¬ refused d
    let low := decide (mv.toNat < 720)
    let hot := fun (x : BitVec 12) => (1680 : Int) < x.toInt
    let brought := fun (p : Nat) => c.domOn (p / 4) = false ∨ (c.port p).beenData = true ∨ ((c.reg (0x20100 + 0x1000 * (p / 4) + 0x40 * (p % 4))).getLsbD 0 = true ∧ (c.port p).txAt + 3200000 < c.up)
    let up := (c.pwr.bringup = 1 ∨ c.pwr.bringup = 2) ∧ c.pwr.ready = false ∧ c.sec.recovery = false ∧ c.tarn.training = false ∧ ∀ p, p < 128 → brought p
    let goesOn := c.pwr.domState.getLsbD d = false ∧ c.domBit d = true
    let follows := fun (b' : Bolov) => ∀ i, i < 80 → b'.pwr.domState.getLsbD i = if i = d.val then c.domBit d else c.pwr.domState.getLsbD i
    let shows := fun (b' : Bolov) => { c with pwr := { c.pwr with domState := b'.pwr.domState } }
    CompletesB (.bolovPowerOnReset cause br sel pref) s s (fun b' => fresh b' cause br sel pref ∧ b'.tick = 0 ∧ b'.i3c.dyn = none ∧ b'.owed = [] ∧ b'.binIbi = none ∧
      b'.mere.remap = [] ∧ b'.mere.badGroups = [] ∧ b'.sec.recoverNext = false ∧ b'.time.refLock = false) ∧
    CompletesB .rstactWarmReset s s (fun b' => fresh b' 3 a.pwr.bringup a.i3c.addrSel a.pwr.pref ∧ b'.tick = a.tick ∧ b'.i3c.dyn = a.i3c.dyn ∧ b'.owed = a.owed ∧ b'.binIbi = a.binIbi ∧
      b'.mere.remap = a.mere.remap ∧ b'.mere.spares = a.mere.spares ∧ b'.mere.badGroups = a.mere.badGroups ∧ b'.sec.recoverNext = a.sec.recoverNext ∧ b'.time.refLock = a.time.refLock) ∧
    CompletesB (.pwrDomWrite k v) s s (fun b' =>
      (∀ d : Nat, d < 80 → d / 32 = k → (bit' d → b'.domBit d = true) ∧ (¬ bit' d → refused d → b'.domBit d = a.domBit d) ∧ (¬ bit' d → ¬ refused d → b'.domBit d = false)) ∧
      (∀ d : Nat, d < 80 → d / 32 ≠ k → b'.domBit d = a.domBit d) ∧ (∀ d : Nat, b'.domOn d = (b'.domBit d && a.pwr.domState.getLsbD d)) ∧
      (∀ n : Fin 16, goesOff (32 + n) → b'.lanes[n].frame = none ∧ b'.lanes[n].blocks = [] ∧ b'.lanes[n].ranFrom = none) ∧
      ((∃ d, d < 80 ∧ d / 32 = k.val ∧ ¬ bit' d ∧ refused d ∧ a.domBit d = true) → b'.regBit Reg.PWR_STATUS 30 = true ∧ b'.regBit (evtRaw 0x002) 1 = true) ∧
      (∀ p : Nat, p < 128 → goesOff (p / 4) → (b'.port p).rx = .acquiring ∧ (b'.port p).publish = {}) ∧ (∀ p : Nat, ¬ goesOff (p / 4) ∨ 128 ≤ p → b'.port p = a.port p) ∧
      (∀ i, goesOff (48 + i / 65536) → i < 14 * 65536 → b'.ctx i = 0) ∧ (∀ i, (∀ n, n < 16 → goesOff (48 + n) → i / 65536 ≠ n) → b'.ctx i = a.ctx i) ∧
      ((∃ d, 64 ≤ d ∧ d < 72 ∧ goesOff d) → b'.tarn.ready = false ∧ b'.tarn.training = false) ∧
      (goesOff 76 → ∀ n : Fin 4, (b'.conv n).running = false ∧ (b'.conv n).guardOn = false) ∧
      (goesOff 77 → (a.reg Reg.TM_CTRL).toNat % 4 = 1 → b'.time.holdover = true) ∧
      b'.tick = a.tick ∧ b'.grd = a.grd ∧ b'.sec = a.sec ∧ b'.cmt = a.cmt ∧ b'.pwr = a.pwr ∧ b'.i3c = a.i3c ∧ b'.rmt = a.rmt) ∧
    (¬ goesOn ∨ ((d.val < 32 ∨ 48 ≤ d.val) ∧ d ≠ 76 ∧ (d ≠ 79 ∨ kat = true)) → CompletesB (.pwrDomainSwitched ⟨d, kat⟩ t) s s1 (fun b' => follows b' ∧ b' = shows b')) ∧
    (goesOn → d = 79 → kat = false → CompletesB (.pwrDomainSwitched ⟨d, kat⟩ t) s s1 (fun b' => follows b' ∧
      b' = (((shows b').count Reg.POD_SELFTEST_FAIL 1).setRegBit Reg.SEC_STATUS 25 true).raise 0x00F 2)) ∧
    (goesOn → d = 76 → CompletesB (.pwrDomainSwitched ⟨d, kat⟩ t) s s1 (fun b' => follows b' ∧ b'.mon = {} ∧ (∀ x, b'.reg x = if x / 0x1000 = 0x00D then bolovReset x else c.reg x) ∧
      b' = { (shows b') with mon := b'.mon, regs := b'.regs, counters := b'.counters })) ∧
    (∀ n : Fin 16, goesOn → d.val = 32 + n → CompletesB (.pwrDomainSwitched ⟨d, kat⟩ t) s s1 (fun b' => follows b' ∧ (∀ m : Fin 16, m ≠ n → b'.lanes[m] = c.lanes[m]) ∧
      b'.lanes[n].blocks = [idleBlock] ∧ b'.lanes[n].started = false ∧ b'.lanes[n].ranFrom = some c.up ∧ b'.lanes[n].enabledAt = c.lanes[n].enabledAt.map (fun _ => c.up) ∧
      b' = { (shows b') with lanes := b'.lanes })) ∧
    CompletesB (.vcoreLowChange mv t) s s1 (fun b' => (low = c.pwr.vcoreLow → b' = { c with pwr := { c.pwr with mv := mv } }) ∧
      (low ≠ c.pwr.vcoreLow → b' = ({ c with pwr := { c.pwr with mv := mv, vcoreLow := low } }).raise 0x002 2)) ∧
    CompletesB (.junctionAbove105 tj t) s s1 (fun b' => (hot tj ∧ ¬ hot c.pwr.tj → b' = ({ c with pwr := { c.pwr with tj := tj } }).raise 0x002 3) ∧
      (¬ hot tj ∨ hot c.pwr.tj → b' = { c with pwr := { c.pwr with tj := tj } })) ∧
    (¬ up → CompletesB (.bringupReady t) s s1 (fun b' => b' = c)) ∧
    (up → CompletesB (.bringupReady t) s s1 (fun b' => ∃ w : BitVec 128, b' = ({ c with pwr := { c.pwr with ready := true, absent := w } }).raise 0x002 0 ∧
      ∀ p, p < 128 → w.getLsbD p = (c.domOn (p / 4) && !(c.port p).beenData)))
end

