-- ==== Sys2Proof/Laws/Bits.lean ====
section
/-!
SUPPORT. The laws of bit fields: a bit reads what was written to it, and a write leaves the other bits alone.
-/

namespace Sys2Proof.Machine

theorem getLsbD_ofNat_two_pow (n i k : Nat) : (BitVec.ofNat n (2 ^ i)).getLsbD k = (decide (k < n) && decide (k = i)) := by
  simp only [BitVec.getLsbD_ofNat, Nat.testBit_two_pow]
  congr 1
  simp [eq_comm]

/-- Bit `k` of a word of which bit `i` was written. -/
theorem getLsbD_setBit {n : Nat} (w : BitVec n) (i k : Nat) (b : Bool) :
    (setBit w i b).getLsbD k = if k = i ∧ k < n then b else w.getLsbD k := by
  have hm : (2 ^ (i + 1 - i) - 1) * 2 ^ i = 2 ^ i := by
    rw [show i + 1 - i = 1 by omega]; simp
  simp only [setBit, setFld, hm]
  simp only [BitVec.getLsbD_or, BitVec.getLsbD_and, BitVec.getLsbD_not, getLsbD_ofNat_two_pow]
  by_cases hkn : k < n
  · by_cases hki : k = i
    · subst hki
      cases b
      · simp [hkn, b2n]
      · rw [show b2n true * 2 ^ k = 2 ^ k by simp [b2n], getLsbD_ofNat_two_pow]
        simp only [hkn]; simp
    · simp [hkn, hki]
  · have hw : w.getLsbD k = false := BitVec.getLsbD_of_ge _ _ (by omega)
    simp [hkn, hw]

theorem bit_toNat {n : Nat} (w : BitVec n) (i : Nat) : bit w.toNat i = w.getLsbD i := rfl

/-- A bit reads what was written to it. -/
theorem bit_setBit_same {n : Nat} (w : BitVec n) (i : Nat) (b : Bool) (h : i < n) : bit (setBit w i b).toNat i = b := by
  rw [bit_toNat, getLsbD_setBit]; simp [h]

/-- A write of one bit leaves every other bit alone. -/
theorem bit_setBit_other {n : Nat} (w : BitVec n) {i k : Nat} (b : Bool) (h : k ≠ i) :
    bit (setBit w i b).toNat k = bit w.toNat k := by
  rw [bit_toNat, getLsbD_setBit]; simp [h, bit_toNat]

/-- Writing a bit that already stands so changes nothing. -/
theorem setBit_self {n : Nat} (w : BitVec n) (i : Nat) (b : Bool) (h : bit w.toNat i = b) : setBit w i b = w := by
  apply BitVec.eq_of_getLsbD_eq
  intro k _
  rw [getLsbD_setBit]
  split
  · rename_i hk; rw [hk.1, ← h]; rfl
  · rfl

/-- A capped number is at most the cap. -/
theorem cap_le (m v : Nat) : cap m v ≤ m := by unfold cap; split <;> omega

theorem cap_of_le {m v : Nat} (h : v ≤ m) : cap m v = v := by unfold cap; split <;> omega

end Sys2Proof.Machine
end

