-- ==== Sys2Proof/Laws/Map.lean ====
section
/-!
SUPPORT. The laws of sparse maps: read after write, what a write leaves alone, and the canonical form kept.
-/

namespace Sys2Proof.Machine

theorem fget_finsert_same {α : Type} (d : α) (m : FMap α) (k : Nat) (v : α) : fget d (finsert m k v) k = v := by
  induction m with
  | nil => simp [finsert, fget]
  | cons e m ih =>
    obtain ⟨k', v'⟩ := e
    simp only [finsert]
    split
    · simp [fget]
    · split
      · simp [fget]
      · rename_i h1 h2
        simp [fget, h2, ih]

theorem fget_finsert_other {α : Type} (d : α) (m : FMap α) {k k2 : Nat} (v : α) (h : k2 ≠ k) :
    fget d (finsert m k v) k2 = fget d m k2 := by
  induction m with
  | nil => simp [finsert, fget, h]
  | cons e m ih =>
    obtain ⟨k', v'⟩ := e
    simp only [finsert]
    split
    · simp [fget, h]
    · split
      · rename_i h1 h2
        subst h2
        simp [fget, h]
      · simp only [fget, ih]

theorem fget_ferase_same {α : Type} (d : α) (m : FMap α) (k : Nat) : fget d (ferase m k) k = d := by
  induction m with
  | nil => rfl
  | cons e m ih =>
    obtain ⟨k', v'⟩ := e
    simp only [ferase, List.filter_cons] at *
    by_cases hk : k' = k
    · simp [hk, ih]
    · have : (k' != k) = true := by simp [hk]
      have hk' : ¬ k = k' := fun h => hk h.symm
      simp [this, fget, ih, hk']

theorem fget_ferase_other {α : Type} (d : α) (m : FMap α) {k k2 : Nat} (h : k2 ≠ k) :
    fget d (ferase m k) k2 = fget d m k2 := by
  induction m with
  | nil => rfl
  | cons e m ih =>
    obtain ⟨k', v'⟩ := e
    simp only [ferase, List.filter_cons] at *
    by_cases hk : k' = k
    · subst hk; simp [fget, h, ih]
    · have : (k' != k) = true := by simp [hk]
      simp [this, fget, ih]

/-- A key reads what was last written to it. -/
@[simp] theorem fget_fset_same {α : Type} [DecidableEq α] (d : α) (m : FMap α) (k : Nat) (v : α) :
    fget d (fset d m k v) k = v := by
  unfold fset
  split
  · rename_i h; rw [fget_ferase_same, h]
  · exact fget_finsert_same d m k v

/-- A write leaves every other key alone. -/
theorem fget_fset_other {α : Type} [DecidableEq α] (d d' : α) (m : FMap α) {k k2 : Nat} (v : α) (h : k2 ≠ k) :
    fget d' (fset d m k v) k2 = fget d' m k2 := by
  unfold fset
  split
  · exact fget_ferase_other d' m h
  · exact fget_finsert_other d' m v h

@[simp] theorem fget_fmod_same {α : Type} [DecidableEq α] (d : α) (m : FMap α) (k : Nat) (f : α → α) :
    fget d (fmod d m k f) k = f (fget d m k) := by simp [fmod]

theorem fget_fmod_other {α : Type} [DecidableEq α] (d : α) (m : FMap α) {k k2 : Nat} (f : α → α) (h : k2 ≠ k) :
    fget d (fmod d m k f) k2 = fget d m k2 := fget_fset_other d d m _ h

/-- Every entry of a map after a write is the new one or an old one. -/
theorem mem_fset {α : Type} [DecidableEq α] {d : α} {m : FMap α} {k : Nat} {v : α} {e : Nat × α}
    (h : e ∈ fset d m k v) : e = (k, v) ∨ e ∈ m := by
  have hi : ∀ m : FMap α, e ∈ finsert m k v → e = (k, v) ∨ e ∈ m := by
    intro m
    induction m with
    | nil => intro h; simpa [finsert] using h
    | cons x m ih =>
      obtain ⟨k', v'⟩ := x
      simp only [finsert]
      intro h
      split at h
      · simpa using h
      · split at h
        · rcases List.mem_cons.1 h with h | h
          · exact .inl h
          · exact .inr (List.mem_cons_of_mem _ h)
        · rcases List.mem_cons.1 h with h | h
          · exact .inr (h ▸ List.mem_cons_self)
          · rcases ih h with h | h
            · exact .inl h
            · exact .inr (List.mem_cons_of_mem _ h)
  unfold fset at h
  split at h
  · exact .inr (List.mem_filter.1 h).1
  · exact hi m h

/-- What a map reads is the default or an entry of it. -/
theorem fget_mem {α : Type} (d : α) (m : FMap α) (k : Nat) : fget d m k = d ∨ (k, fget d m k) ∈ m := by
  induction m with
  | nil => exact .inl rfl
  | cons x m ih =>
    obtain ⟨k', v'⟩ := x
    simp only [fget]
    split
    · rename_i h; subst h; exact .inr List.mem_cons_self
    · rcases ih with h | h
      · exact .inl h
      · exact .inr (List.mem_cons_of_mem _ h)

/-- A write keeps the canonical form. -/
theorem FMapWf_fset {α : Type} [DecidableEq α] (d : α) (m : FMap α) (k : Nat) (v : α) (h : FMapWf d m) :
    FMapWf d (fset d m k v) := by
  obtain ⟨hs, hd⟩ := h
  unfold fset
  split
  · refine ⟨?_, fun e he => hd e (List.mem_filter.1 he).1⟩
    exact List.Pairwise.sublist (List.Sublist.map _ List.filter_sublist) hs
  · rename_i hv
    constructor
    · clear hd
      induction m with
      | nil => simp [finsert]
      | cons x m ih =>
        obtain ⟨k', v'⟩ := x
        simp only [List.map_cons, List.pairwise_cons] at hs
        simp only [finsert]
        split
        · rename_i hk
          simp only [List.map_cons, List.pairwise_cons]
          refine ⟨?_, hs⟩
          intro a ha
          rcases List.mem_cons.1 ha with ha | ha
          · exact ha ▸ hk
          · exact Nat.lt_trans hk (hs.1 a ha)
        · split
          · rename_i hk; subst hk; simpa using hs
          · rename_i h1 h2
            simp only [List.map_cons, List.pairwise_cons]
            refine ⟨?_, ih hs.2⟩
            intro a ha
            obtain ⟨e, he, rfl⟩ := List.mem_map.1 ha
            have : e ∈ fset d m k v := by simp [fset, hv, he]
            rcases mem_fset this with h | h
            · simp [h]; omega
            · exact hs.1 _ (List.mem_map_of_mem h)
    · intro e he
      have : e ∈ fset d m k v := by simp [fset, hv, he]
      rcases mem_fset this with h | h
      · simpa [h] using hv
      · exact hd e h

/-- Leaving entries out keeps the canonical form. -/
theorem FMapWf_filter {α : Type} [DecidableEq α] (d : α) (m : FMap α) (p : Nat × α → Bool) (h : FMapWf d m) : FMapWf d (m.filter p) :=
  ⟨h.1.sublist (List.Sublist.map _ List.filter_sublist), fun e he => h.2 e (List.mem_filter.1 he).1⟩

theorem FMapWf_ferase {α : Type} [DecidableEq α] (d : α) (m : FMap α) (k : Nat) (h : FMapWf d m) : FMapWf d (ferase m k) :=
  FMapWf_filter d m _ h

theorem FMapWf_fmod {α : Type} [DecidableEq α] (d : α) (m : FMap α) (k : Nat) (f : α → α) (h : FMapWf d m) : FMapWf d (fmod d m k f) :=
  FMapWf_fset d m k _ h

end Sys2Proof.Machine
end

