-- ==== Sys2Proof/Laws/Bolov.lean ====
section
/-!
SUPPORT. The shared operations of the Bolov, each with everything it can do: registers, ports, counters and events.
-/

namespace Sys2Proof.Machine

@[simp] theorem Bolov.reg_setReg_same (a : Nat) (v : Word) (b : Bolov) : (b.setReg a v).reg a = v := by
  simp [Bolov.setReg, Bolov.reg]

theorem Bolov.reg_setReg_other {a k : Nat} (v : Word) (b : Bolov) (h : k ≠ a) : (b.setReg a v).reg k = b.reg k := by
  simp [Bolov.setReg, Bolov.reg, fget_fset_other _ _ _ _ h]

/-- A write of a register changes the registers alone. -/
theorem Bolov.setReg_eq (a : Nat) (v : Word) (b : Bolov) : b.setReg a v = { b with regs := (b.setReg a v).regs } := rfl

theorem Bolov.setRegBit_eq (a i : Nat) (v : Bool) (b : Bolov) :
    b.setRegBit a i v = { b with regs := (b.setRegBit a i v).regs } := rfl

@[simp] theorem Bolov.reg_setRegBit_same (a i : Nat) (v : Bool) (b : Bolov) :
    (b.setRegBit a i v).reg a = setBit (b.reg a) i v := by simp [Bolov.setRegBit]

theorem Bolov.reg_setRegBit_other {a k : Nat} (i : Nat) (v : Bool) (b : Bolov) (h : k ≠ a) :
    (b.setRegBit a i v).reg k = b.reg k := Bolov.reg_setReg_other _ _ h

theorem Bolov.regBit_setRegBit_same (a i : Nat) (v : Bool) (b : Bolov) (h : i < 32) :
    (b.setRegBit a i v).regBit a i = v := by simp [Bolov.regBit, bit_setBit_same _ _ _ h]

@[simp] theorem Bolov.port_modPort_same (p : Nat) (f : PortState → PortState) (b : Bolov) :
    (b.modPort p f).port p = f (b.port p) := by simp [Bolov.modPort, Bolov.port]

theorem Bolov.port_modPort_other {p k : Nat} (f : PortState → PortState) (b : Bolov) (h : k ≠ p) :
    (b.modPort p f).port k = b.port k := by simp [Bolov.modPort, Bolov.port, fget_fmod_other _ _ _ h]

theorem Bolov.modPort_eq (p : Nat) (f : PortState → PortState) (b : Bolov) :
    b.modPort p f = { b with ports := (b.modPort p f).ports } := rfl

/-- An owed IBI joins the list of owed ones and changes nothing else. -/
theorem Bolov.owe_eq (p : Nat) (b : Bolov) : b.owe p = { b with owed := (b.owe p).owed } := by
  unfold Bolov.owe; split <;> rfl

/-- A logged event changes the queues, the mark of a lost one and the counter of lost records. -/
theorem Bolov.logEvent_eq (p e : Nat) (b : Bolov) :
    b.logEvent p e = { b with queues := (b.logEvent p e).queues, logLost := (b.logEvent p e).logLost,
                              counters := (b.logEvent p e).counters } := by
  unfold Bolov.logEvent; split <;> rfl

/-- All that an event changes (R322): its page's EVT_RAW, the event log with its counter of losses, the IBIs owed. -/
theorem Bolov.raise_eq (p e : Nat) (b : Bolov) :
    b.raise p e = { b with regs := (b.raise p e).regs, queues := (b.raise p e).queues, owed := (b.raise p e).owed,
                           logLost := (b.raise p e).logLost, counters := (b.raise p e).counters } := by
  unfold Bolov.raise
  split
  · rfl
  · dsimp only
    split <;> split
    · rw [Bolov.owe_eq, Bolov.logEvent_eq]; rfl
    · rw [Bolov.logEvent_eq]; rfl
    · rw [Bolov.owe_eq]; rfl
    · rfl

theorem Bolov.regs_raise (p e : Nat) (b : Bolov) : (b.raise p e).regs = (b.setRegBit (evtRaw p) e true).regs ∨
    (b.raise p e).regs = b.regs ∧ b.regBit (evtRaw p) e = true := by
  unfold Bolov.raise
  split
  · rename_i h; exact .inr ⟨rfl, h⟩
  · left
    dsimp only
    split <;> split
    · rw [Bolov.owe_eq, Bolov.logEvent_eq]
    · rw [Bolov.logEvent_eq]
    · rw [Bolov.owe_eq]
    · rfl

/-- An event sets its bit of EVT_RAW. -/
theorem Bolov.reg_raise_same (p e : Nat) (b : Bolov) :
    (b.raise p e).reg (evtRaw p) = setBit (b.reg (evtRaw p)) e true := by
  rcases Bolov.regs_raise p e b with h | ⟨h, hb⟩
  · have := Bolov.reg_setRegBit_same (evtRaw p) e true b
    simpa [Bolov.reg, h] using this
  · rw [setBit_self _ _ _ hb]; simp [Bolov.reg, h]

/-- An event leaves every other register alone. -/
theorem Bolov.reg_raise_other {p k : Nat} (e : Nat) (b : Bolov) (hk : k ≠ evtRaw p) : (b.raise p e).reg k = b.reg k := by
  rcases Bolov.regs_raise p e b with h | ⟨h, _⟩
  · have := Bolov.reg_setRegBit_other e true b hk
    simpa [Bolov.reg, h] using this
  · simp [Bolov.reg, h]

/-- A count changes its counter, and where it saturates for the first time raises its page's counter_sat. -/
theorem Bolov.countAt_eq (lo cp n : Nat) (b : Bolov) :
    b.countAt lo cp n = { b with regs := (b.countAt lo cp n).regs, queues := (b.countAt lo cp n).queues,
                                 owed := (b.countAt lo cp n).owed, logLost := (b.countAt lo cp n).logLost,
                                 counters := (b.countAt lo cp n).counters } := by
  unfold Bolov.countAt
  dsimp only
  split
  · cases satEvent lo with
    | none => rfl
    | some e => dsimp only; rw [Bolov.raise_eq]
  · rfl

/-- A counter at less than its end counts and raises nothing. -/
theorem Bolov.countAt_quiet (lo cp n : Nat) (b : Bolov) (h : (b.ctr lo cp).sat = true ∨ (b.ctr lo cp).val + n < maxCount) :
    b.countAt lo cp n = { b with counters := fset {} b.counters (ctrKey lo cp) (ctrAdd (b.ctr lo cp) n) } := by
  unfold Bolov.countAt
  dsimp only
  split
  · rename_i hc
    rcases h with h | h
    · simp [h] at hc
    · have h1 : maxCount ≤ (b.ctr lo cp).val + n := by
        simp only [ctrAdd, Bool.and_eq_true, Bool.or_eq_true, decide_eq_true_eq, Bool.not_eq_true'] at hc
        rcases hc with ⟨h1 | h1, h2⟩
        · simp [h1] at h2
        · exact h1
      omega
  · rfl

@[simp] theorem onB_eq (s : State) (f : Bolov → Bolov) : onB s f = .next { s with b := f s.b } := rfl

@[simp] theorem atB_eq (t : Tick) (s : State) (f : Bolov → Bolov) :
    atB t s f = .next { reachB t s with b := f (reachB t s).b } := rfl

end Sys2Proof.Machine
end

