-- ==== Sys2Proof/Laws/Jilek.lean ====
section
/-!
SUPPORT. The shared operations of the Jilek, each with everything it can do: cells, tiles, registers and counters read
after they are written, and what a write leaves alone.
-/

namespace Sys2Proof.Machine

@[simp] theorem Jilek.cell_modCell_same (c : Nat) (f : CellState → CellState) (j : Jilek) :
    (j.modCell c f).cell c = f (j.cell c) := by simp [Jilek.modCell, Jilek.cell]

theorem Jilek.cell_modCell_other {c k : Nat} (f : CellState → CellState) (j : Jilek) (h : k ≠ c) :
    (j.modCell c f).cell k = j.cell k := by simp [Jilek.modCell, Jilek.cell, fget_fmod_other _ _ _ h]

/-- A change of a cell changes the cells alone. -/
theorem Jilek.modCell_eq (c : Nat) (f : CellState → CellState) (j : Jilek) :
    j.modCell c f = { j with cells := (j.modCell c f).cells } := rfl

@[simp] theorem Jilek.tile_modTile_same (t : Nat) (f : TileState → TileState) (j : Jilek) :
    (j.modTile t f).tile t = f (j.tile t) := by simp [Jilek.modTile, Jilek.tile]

theorem Jilek.tile_modTile_other {t k : Nat} (f : TileState → TileState) (j : Jilek) (h : k ≠ t) :
    (j.modTile t f).tile k = j.tile k := by simp [Jilek.modTile, Jilek.tile, fget_fmod_other _ _ _ h]

theorem Jilek.modTile_eq (t : Nat) (f : TileState → TileState) (j : Jilek) :
    j.modTile t f = { j with tiles := (j.modTile t f).tiles } := rfl

@[simp] theorem Jilek.reg_setReg_same (a : Nat) (v : Word) (j : Jilek) : (j.setReg a v).reg a = v := by
  simp [Jilek.setReg, Jilek.reg]

theorem Jilek.reg_setReg_other {a k : Nat} (v : Word) (j : Jilek) (h : k ≠ a) : (j.setReg a v).reg k = j.reg k := by
  simp [Jilek.setReg, Jilek.reg, fget_fset_other _ _ _ _ h]

@[simp] theorem Jilek.cell_setReg (a : Nat) (v : Word) (j : Jilek) (c : Nat) : (j.setReg a v).cell c = j.cell c := rfl
@[simp] theorem Jilek.tile_setReg (a : Nat) (v : Word) (j : Jilek) (t : Nat) : (j.setReg a v).tile t = j.tile t := rfl
@[simp] theorem Jilek.reg_modCell (c : Nat) (f : CellState → CellState) (j : Jilek) (a : Nat) :
    (j.modCell c f).reg a = j.reg a := rfl
@[simp] theorem Jilek.reg_modTile (t : Nat) (f : TileState → TileState) (j : Jilek) (a : Nat) :
    (j.modTile t f).reg a = j.reg a := rfl
@[simp] theorem Jilek.tile_modCell (c : Nat) (f : CellState → CellState) (j : Jilek) (t : Nat) :
    (j.modCell c f).tile t = j.tile t := rfl
@[simp] theorem Jilek.cell_modTile (t : Nat) (f : TileState → TileState) (j : Jilek) (c : Nat) :
    (j.modTile t f).cell c = j.cell c := rfl
@[simp] theorem Jilek.ctr_modCell (c : Nat) (f : CellState → CellState) (j : Jilek) (a : Nat) :
    (j.modCell c f).ctr a = j.ctr a := rfl
@[simp] theorem Jilek.ctr_modTile (t : Nat) (f : TileState → TileState) (j : Jilek) (a : Nat) :
    (j.modTile t f).ctr a = j.ctr a := rfl
@[simp] theorem Jilek.ctr_setReg (k : Nat) (v : Word) (j : Jilek) (a : Nat) : (j.setReg k v).ctr a = j.ctr a := rfl

@[simp] theorem Jilek.framers_modFramer_same (u : Fin 2) (f : Framer → Framer) (j : Jilek) :
    (j.modFramer u f).framers[u] = f j.framers[u] := by simp [Jilek.modFramer]

theorem Jilek.framers_modFramer_other {u v : Fin 2} (f : Framer → Framer) (j : Jilek) (h : v ≠ u) :
    (j.modFramer u f).framers[v] = j.framers[v] := by
  simp only [Jilek.modFramer, Fin.getElem_fin]
  exact Vector.getElem_set_ne _ _ (fun e => h (Fin.ext e.symm))

@[simp] theorem Jilek.modFramer_id (u : Fin 2) (j : Jilek) : j.modFramer u (fun f => f) = j := by
  simp [Jilek.modFramer]

/-- Two changes of one framer are one. -/
theorem Jilek.modFramer_modFramer (u : Fin 2) (f g : Framer → Framer) (j : Jilek) :
    (j.modFramer u f).modFramer u g = j.modFramer u (fun x => g (f x)) := by
  simp [Jilek.modFramer]

@[simp] theorem Jilek.linkOf_modFramer (u : Fin 2) (f : Framer → Framer) (j : Jilek) (t : Nat) :
    (j.modFramer u f).linkOf t = j.linkOf t := rfl

/-- A status word joins the queue of status words and nothing else (R106). -/
theorem Jilek.status_eq (code a b : Nat) (j : Jilek) :
    j.status code a b = { j with statuses := j.statuses ++ [controlWord sStatus (statusPayload code a b)] } := rfl

@[simp] theorem Jilek.cell_status (code a b : Nat) (j : Jilek) (c : Nat) : (j.status code a b).cell c = j.cell c := rfl
@[simp] theorem Jilek.tile_status (code a b : Nat) (j : Jilek) (t : Nat) : (j.status code a b).tile t = j.tile t := rfl
@[simp] theorem Jilek.reg_status (code a b : Nat) (j : Jilek) (k : Nat) : (j.status code a b).reg k = j.reg k := rfl
@[simp] theorem Jilek.ctr_status (code a b : Nat) (j : Jilek) (k : Nat) : (j.status code a b).ctr k = j.ctr k := rfl

/-- A count changes its counter and, at the first saturation, the queue of status words (R45, R102). -/
theorem Jilek.count_eq (a n : Nat) (j : Jilek) :
    j.count a n = { j with counters := (j.count a n).counters, statuses := (j.count a n).statuses } := by
  unfold Jilek.count
  dsimp only
  split <;> rfl

@[simp] theorem Jilek.ctr_count_same (a n : Nat) (j : Jilek) : (j.count a n).ctr a = ctrAdd (j.ctr a) n := by
  unfold Jilek.count
  dsimp only
  split <;> simp [Jilek.ctr, Jilek.status]

theorem Jilek.ctr_count_other {a k : Nat} (n : Nat) (j : Jilek) (h : k ≠ a) : (j.count a n).ctr k = j.ctr k := by
  unfold Jilek.count
  dsimp only
  split <;> simp [Jilek.ctr, Jilek.status, fget_fset_other _ _ _ _ h]

/-- No status word where the count does not saturate for the first time. -/
theorem Jilek.statuses_count (a n : Nat) (j : Jilek) (h : (j.ctr a).sat = true ∨ (j.ctr a).val + n < maxCount) :
    (j.count a n).statuses = j.statuses := by
  unfold Jilek.count
  dsimp only
  split
  · rename_i hc
    rcases h with h | h
    · simp [h] at hc
    · have h1 : maxCount ≤ (j.ctr a).val + n := by
        simp only [ctrAdd, Bool.and_eq_true, Bool.or_eq_true, decide_eq_true_eq, Bool.not_eq_true'] at hc
        rcases hc with ⟨h1 | h1, h2⟩
        · simp [h1] at h2
        · exact h1
      omega
  · rfl

/-- A command that acts on the Jilek answers a next state. -/
theorem onJ_next (s : State) (f : Jilek → Jilek) (h : s.j.inReset = false) : onJ s f = .next { s with j := f s.j } := by
  simp [onJ, h]

theorem onJ_inReset (s : State) (f : Jilek → Jilek) (h : s.j.inReset = true) : onJ s f = .next s := by
  simp [onJ, h]

/-- A command at the Jilek's tick `t` answers a next state where the Jilek is not held in reset at that tick. -/
theorem atJ_next (t : Tick) (s : State) (f : Jilek → Jilek) (h : (reachJ t s).j.inReset = false) :
    atJ t s f = .next { reachJ t s with j := f (reachJ t s).j } := onJ_next _ _ h

end Sys2Proof.Machine
end

