-- ==== Sys2Proof/Laws/Loops.lean ====
section
/-!
SUPPORT. What the loops do: an action on each of a row of cells, tiles or counters acts on each alone.
-/

namespace Sys2Proof.Machine

theorem forUpTo_zero {σ : Type} (f : Nat → σ → σ) (s : σ) : forUpTo 0 f s = s := rfl

theorem forUpTo_succ {σ : Type} (n : Nat) (f : Nat → σ → σ) (s : σ) : forUpTo (n + 1) f s = f n (forUpTo n f s) := by
  simp [forUpTo, List.range_succ]

theorem forAll_nil {α σ : Type} (f : α → σ → σ) (s : σ) : forAll [] f s = s := rfl

theorem forAll_cons {α σ : Type} (a : α) (l : List α) (f : α → σ → σ) (s : σ) : forAll (a :: l) f s = forAll l f (f a s) := rfl

/-- A property that every turn keeps holds after a loop. -/
theorem forUpTo_keeps {σ : Type} (P : σ → Prop) (n : Nat) (f : Nat → σ → σ) (s : σ) (hs : P s)
    (hf : ∀ i s, i < n → P s → P (f i s)) : P (forUpTo n f s) := by
  induction n with
  | zero => exact hs
  | succ n ih => rw [forUpTo_succ]; exact hf n _ (by omega) (ih (fun i s hi => hf i s (by omega)))

theorem forAll_keeps {α σ : Type} (P : σ → Prop) (l : List α) (f : α → σ → σ) (s : σ) (hs : P s)
    (hf : ∀ a s, a ∈ l → P s → P (f a s)) : P (forAll l f s) := by
  induction l generalizing s with
  | nil => exact hs
  | cons a l ih =>
    rw [forAll_cons]
    exact ih _ (hf a s List.mem_cons_self hs) (fun b s hb => hf b s (List.mem_cons_of_mem _ hb))

/-- A loop over the cells from `base` changes each of them alone. -/
theorem Jilek.cell_forUpTo (base n : Nat) (g : Nat → CellState → CellState) (j : Jilek) (c : Nat) :
    (forUpTo n (fun k => Jilek.modCell (base + k) (g k)) j).cell c =
      if base ≤ c ∧ c < base + n then g (c - base) (j.cell c) else j.cell c := by
  induction n with
  | zero =>
    rw [forUpTo_zero, if_neg (by omega)]
  | succ n ih =>
    rw [forUpTo_succ]
    by_cases h : c = base + n
    · subst h
      rw [Jilek.cell_modCell_same, ih, if_neg (by omega), if_pos (by omega)]
      congr 1
      omega
    · rw [Jilek.cell_modCell_other _ _ h, ih]
      by_cases h2 : base ≤ c ∧ c < base + n
      · rw [if_pos h2, if_pos (by omega)]
      · rw [if_neg h2, if_neg (by omega)]

theorem Jilek.forUpTo_modCell_eq (base n : Nat) (g : Nat → CellState → CellState) (j : Jilek) :
    forUpTo n (fun k => Jilek.modCell (base + k) (g k)) j =
      { j with cells := (forUpTo n (fun k => Jilek.modCell (base + k) (g k)) j).cells } := by
  induction n with
  | zero => rfl
  | succ n ih => rw [forUpTo_succ, ih]; rfl

/-- A loop over the tiles whose turns change their tile alone, as a function of the tile and of what no turn changes. -/
theorem Jilek.tiles_forUpTo (n : Nat) (f : Nat → Jilek → Jilek) (g : Nat → TileState → TileState) (j : Jilek)
    (hs : ∀ t tl, t < n → (f t { j with tiles := tl }).tile t = g t (({ j with tiles := tl } : Jilek).tile t))
    (ho : ∀ t k tl, t < n → k ≠ t → (f t { j with tiles := tl }).tile k = ({ j with tiles := tl } : Jilek).tile k)
    (he : ∀ t tl, t < n → f t { j with tiles := tl } = { j with tiles := (f t { j with tiles := tl }).tiles }) :
    (∀ k, (forUpTo n f j).tile k = if k < n then g k (j.tile k) else j.tile k) ∧
      forUpTo n f j = { j with tiles := (forUpTo n f j).tiles } := by
  induction n with
  | zero => exact ⟨fun k => by rw [if_neg (by omega)]; rfl, rfl⟩
  | succ n ih =>
    obtain ⟨h1, h2⟩ := ih (fun t tl ht => hs t tl (by omega)) (fun t k tl ht => ho t k tl (by omega)) (fun t tl ht => he t tl (by omega))
    rw [forUpTo_succ]
    generalize hj : forUpTo n f j = j' at *
    have e : j' = { j with tiles := j'.tiles } := h2
    rw [e]
    refine ⟨fun k => ?_, he n j'.tiles (by omega)⟩
    have hk : ∀ k, ({ j with tiles := j'.tiles } : Jilek).tile k = if k < n then g k (j.tile k) else j.tile k := by
      intro k
      have : ({ j with tiles := j'.tiles } : Jilek).tile k = j'.tile k := rfl
      rw [this, h1]
    by_cases h : k = n
    · subst h
      rw [hs k j'.tiles (by omega), hk, if_neg (by omega), if_pos (by omega)]
    · rw [ho n k j'.tiles (by omega) h, hk]
      by_cases h2 : k < n
      · rw [if_pos h2, if_pos (by omega)]
      · rw [if_neg h2, if_neg (by omega)]

end Sys2Proof.Machine
end

