-- ==== Sys2Proof/Laws/Lines.lean ====
section
/-!
SUPPORT. The shared operations over memory lines, output lanes and time at the Bolov, each with everything it can do.
-/

namespace Sys2Proof.Machine

/-! ### Lines that hold no error (R245 to R257) -/

theorem Bolov.takeFlaw_clean {a : Nat} {b : Bolov} (h : CleanLine a b) : b.takeFlaw a = (none, b) := by
  simp [Bolov.takeFlaw, h.1]

theorem Bolov.cleanRead_clean {a : Nat} {b : Bolov} (h : CleanLine a b) : b.cleanRead a = b := by
  simp [Bolov.cleanRead, h.2.2]

/-- A clean line read in any way changes nothing and delivers no inverted bit. -/
theorem Bolov.readLine_clean {a : Nat} {b : Bolov} (w n : Bool) (h : CleanLine a b) : b.readLine w n a = (b, 0) := by
  simp [Bolov.readLine, Bolov.takeFlaw_clean h, Bolov.cleanRead_clean h, h.2.1]

@[simp] theorem Bolov.readOnce_clean {a : Nat} {b : Bolov} (h : CleanLine a b) : b.readOnce a = b := by
  simp [Bolov.readOnce, Bolov.readLine_clean _ _ h]

@[simp] theorem Bolov.narrowWrite_clean {a : Nat} {b : Bolov} (h : CleanLine a b) : b.narrowWrite a = b := by
  simp [Bolov.narrowWrite, Bolov.readLine_clean _ _ h]

/-- A table whose first copy is clean is read from it and not lost. -/
theorem Bolov.tableRead_clean {a0 a1 : Nat} {b : Bolov} (h : CleanLine a0 b) : b.tableRead a0 a1 = (b, false) := by
  simp [Bolov.tableRead, Bolov.readOnce_clean h, h.2.1]

@[simp] theorem Bolov.withFlaws_nil (b : Bolov) : b.withFlaws [] = b := by simp [Bolov.withFlaws, Bolov.modMere]

/-- New errors stand in the lines and change nothing else. -/
theorem Bolov.withFlaws_eq (l : List LineRead) (b : Bolov) :
    b.withFlaws l = { b with mere := { b.mere with flaws := b.mere.flaws ++ l } } := rfl

/-- A full-line write of a clean line changes the memory integrity state alone. -/
theorem Bolov.fullWrite_eq (a : Nat) (b : Bolov) : b.fullWrite a = { b with mere := (b.fullWrite a).mere } := by
  unfold Bolov.fullWrite
  dsimp only
  split <;> rfl

/-! ### Lanes (R171 to R173) -/

@[simp] theorem Bolov.lane_modLane_same (n : Fin 16) (f : Lane → Lane) (b : Bolov) : (b.modLane n f).lanes[n] = f b.lanes[n] := by
  simp [Bolov.modLane]

theorem Bolov.lane_modLane_other {n k : Fin 16} (f : Lane → Lane) (b : Bolov) (h : k ≠ n) :
    (b.modLane n f).lanes[k] = b.lanes[k] := by
  have hv : (n : Nat) ≠ k := fun e => h (Fin.ext e.symm)
  simp only [Bolov.modLane, Fin.getElem_fin]
  rw [Vector.getElem_set_ne _ _ hv]

theorem Bolov.modLane_eq (n : Fin 16) (f : Lane → Lane) (b : Bolov) : b.modLane n f = { b with lanes := (b.modLane n f).lanes } := rfl

theorem Bolov.laneSend_eq (n : Fin 16) (bl : List (Byte × BitVec 56)) (b : Bolov) :
    b.laneSend n bl = { b with lanes := (b.laneSend n bl).lanes } := rfl

/-- Lines that return change the lane's frame and the sort engine's lines and slices. -/
theorem Bolov.linesBack_eq (n : Fin 16) (f : FrameOut) (k : Nat) (b : Bolov) :
    b.linesBack n f k = { b with
      lanes := (b.linesBack n f k).lanes
      sort := { b.sort with freeLines := (b.linesBack n f k).sort.freeLines, slices := (b.linesBack n f k).sort.slices } } := by
  unfold Bolov.linesBack
  dsimp only
  split <;> rfl

/-- A count of held blocks changes the lane, its counter and what a counter that saturates raises. -/
theorem Bolov.heldCount_eq (n : Fin 16) (b : Bolov) :
    b.heldCount n = { b with
      lanes := (b.heldCount n).lanes, regs := (b.heldCount n).regs, queues := (b.heldCount n).queues
      owed := (b.heldCount n).owed, logLost := (b.heldCount n).logLost, counters := (b.heldCount n).counters } := by
  unfold Bolov.heldCount
  dsimp only
  split
  · rw [Bolov.countAt_eq]; rfl
  · rfl

/-! ### Time (R14, R186, R204) -/

/-- All that the throttle pins change: themselves and their event. -/
theorem Bolov.throttle_eq (b : Bolov) :
    b.throttle = { b with
      rate := { b.rate with throttle := b.throttle.rate.throttle }, regs := b.throttle.regs, queues := b.throttle.queues
      owed := b.throttle.owed, logLost := b.throttle.logLost, counters := b.throttle.counters } := by
  unfold Bolov.throttle
  refine forUpTo_keeps (fun x : Bolov => x = { b with
    rate := { b.rate with throttle := x.rate.throttle }, regs := x.regs, queues := x.queues
    owed := x.owed, logLost := x.logLost, counters := x.counters }) 8 _ b rfl (fun g x _ h => ?_)
  dsimp only
  repeat' split
  all_goals first
    | exact h
    | (rw [Bolov.raise_eq]; rw [h]; rfl)

/-- All that running lanes change: the lanes, the lines and slices they give back, the counters of held blocks. -/
theorem Bolov.flow_eq (b : Bolov) :
    b.flow = { b with
      lanes := b.flow.lanes, sort := { b.sort with freeLines := b.flow.sort.freeLines, slices := b.flow.sort.slices }
      regs := b.flow.regs, queues := b.flow.queues
      owed := b.flow.owed, logLost := b.flow.logLost, counters := b.flow.counters } := by
  unfold Bolov.flow
  refine forAll_keeps (fun x : Bolov => x = { b with
    lanes := x.lanes, sort := { b.sort with freeLines := x.sort.freeLines, slices := x.sort.slices }
    regs := x.regs, queues := x.queues
    owed := x.owed, logLost := x.logLost, counters := x.counters }) _ _ b rfl (fun n x _ h => ?_)
  dsimp only
  split
  · rw [Bolov.linesBack_eq, Bolov.heldCount_eq]; rw [h]
  · rw [Bolov.heldCount_eq]; rw [h]

/-- All that passing time changes at the Bolov beside its counts of ticks and time of day. -/
theorem Bolov.advance_eq {n : Nat} (b : Bolov) (hn : n ≠ 0) :
    b.advance n = { b.pass n with
      lanes := (b.advance n).lanes
      sort := { b.sort with freeLines := (b.advance n).sort.freeLines, slices := (b.advance n).sort.slices }
      rate := { b.rate with throttle := (b.advance n).rate.throttle }
      regs := (b.advance n).regs, queues := (b.advance n).queues, owed := (b.advance n).owed
      logLost := (b.advance n).logLost, counters := (b.advance n).counters } := by
  unfold Bolov.advance
  rw [if_neg hn]
  have h1 := Bolov.throttle_eq (b.pass n)
  have h2 := Bolov.flow_eq (b.pass n).throttle
  have h3 := Bolov.throttle_eq (b.pass n).throttle.flow
  generalize (b.pass n).throttle.flow.throttle = z at *
  generalize (b.pass n).throttle.flow = y at *
  generalize (b.pass n).throttle = x at *
  have hs : z.sort = y.sort := by rw [h3]
  have hl : z.lanes = y.lanes := by rw [h3]
  rw [hs, hl]
  conv => lhs; rw [h3, h2, h1]
  rfl

end Sys2Proof.Machine
end

