-- ==== Sys2Proof/Laws/Only.lean ====
section
/-!
SUPPORT. How the claims' words for "nothing else changes" follow from the operations, and how they are chained.
-/

namespace Sys2Proof.Machine

theorem onlyCell_modCell (c : Nat) (f : CellState → CellState) (j : Jilek) : OnlyCell c j (j.modCell c f) :=
  ⟨fun _ h => Jilek.cell_modCell_other f j h, rfl⟩

theorem onlyCell_trans {c : Nat} {a b d : Jilek} (h : OnlyCell c a b) (h' : OnlyCell c b d) : OnlyCell c a d := by
  refine ⟨fun k hk => (h'.1 k hk).trans (h.1 k hk), ?_⟩
  rw [h'.2, h.2]

theorem onlyTile_modTile (t : Nat) (f : TileState → TileState) (j : Jilek) : OnlyTile t j (j.modTile t f) :=
  ⟨fun _ h => Jilek.tile_modTile_other f j h, rfl⟩

theorem onlyTile_trans {t : Nat} {a b d : Jilek} (h : OnlyTile t a b) (h' : OnlyTile t b d) : OnlyTile t a d := by
  refine ⟨fun k hk => (h'.1 k hk).trans (h.1 k hk), ?_⟩
  rw [h'.2, h.2]

/-- A command given by `atJ` completes on the Jilek. -/
theorem completesJ_atJ {c : Instr} {s : State} {t : Tick} {f : Jilek → Jilek} {P : Jilek → Prop}
    (hr : (reachJ t s).j.inReset = false) (he : exec c s = atJ t s f) (hp : P (f (reachJ t s).j)) : CompletesJ c s (reachJ t s) P :=
  ⟨_, he.trans (atJ_next t s f hr), hp⟩

theorem completesJ_onJ {c : Instr} {s : State} {f : Jilek → Jilek} {P : Jilek → Prop} (hr : s.j.inReset = false)
    (he : exec c s = onJ s f) (hp : P (f s.j)) : CompletesJ c s s P :=
  ⟨_, he.trans (onJ_next s f hr), hp⟩

theorem completesB_atB {c : Instr} {s : State} {t : Tick} {f : Bolov → Bolov} {P : Bolov → Prop}
    (he : exec c s = atB t s f) (hp : P (f (reachB t s).b)) : CompletesB c s (reachB t s) P :=
  ⟨_, he.trans (atB_eq t s f), hp⟩

theorem completesB_onB {c : Instr} {s : State} {f : Bolov → Bolov} {P : Bolov → Prop}
    (he : exec c s = onB s f) (hp : P (f s.b)) : CompletesB c s s P :=
  ⟨_, he.trans (onB_eq s f), hp⟩

end Sys2Proof.Machine
end

