-- ==== Sys2Proof/WellFormed.lean ====
section
/-!
DEFINITION. The commands whose data are ones the hardware can meet: a moment within its tick, a ring that turns, counts of
every ring, line addresses that exist.
-/

namespace Sys2Proof

/-- One tick in fs (R14). -/
def phaseOk (fs : Nat) : Bool := decide (fs < 3125000)

/-- A period in fs is not 0 (R47). -/
def periodOk (p : Nat) : Bool := decide (0 < p)

/-- A stamp's distance before its tick edge, in 2.5 ps: from 0 to 1,250 (R213). -/
def stampOk (f : Nat) : Bool := decide (f ≤ 1250)

/-- The slew after a lock, in 2.5 ps: at most one tick (R123). -/
def slewOk (s : Nat) : Bool := decide (s ≤ 1250)

/-- A line that exists: 16 Mere banks of 33,280 lines, the spares among them (R245), or a line of Tarn (R225); at least one fetch, and as many as R247
makes at most. -/
def LineRead.ok (r : LineRead) : Bool :=
  let tarn := decide (0x80000000 ≤ r.line)
  (decide (r.line < 16 * 65536 ∧ r.line % 65536 ≤ 33279) || (tarn && decide (r.line < 2 * 0x80000000))) && !r.fetches.isEmpty &&
    decide (r.fetches.length ≤ if tarn then 3 else 2)

/-- Every read of a list. -/
def readsOk (l : List LineRead) : Bool := l.all LineRead.ok

/-- The number of counted rings (R71, R87). -/
def countOk {α : Type} (n : Nat) (l : List α) : Bool := l.length == n

/-- A PTP time stamp: seconds of 48 bits and ns (R135). -/
def PtpMsg.ok (m : PtpMsg) : Bool := decide (m.time < 2 ^ 48 * 1000000000)

/-- A well-formed command. -/
def Instr.wellFormed : Instr → Bool
  | .discriminatorCrossing _ _ fs ta => phaseOk fs && periodOk ta
  | .oscBStart _ _ tb _ => periodOk tb
  | .nvLatch _ _ fs _ => phaseOk fs
  | .vernierOverrun _ _ fs => phaseOk fs
  | .trailingEdge _ _ fs _ => phaseOk fs
  | .totSaturation _ _ fs => phaseOk fs
  | .deadTimeEnd _ _ fs => phaseOk fs
  | .uplinkWordSlot _ _ fs => phaseOk fs
  | .calRunComplete _ _ counts => countOk 64 counts
  | .governorRecompute _ tileCounts mergeCounts => countOk 32 tileCounts && countOk 2 mergeCounts
  | .echoReplyReceived _ _ f _ => stampOk f
  | .isEdge _ _ _ _ f _ => stampOk f
  | .isGateClose _ _ f => stampOk f
  | .gateInEdge _ _ f => stampOk f
  | .tickPllLock _ slew => slewOk slew
  | .refclkReturn _ slew => slewOk slew
  | .ptpSyncReceived m _ _ => m.ok
  | .ptpFollowUpReceived m _ => m.ok
  | .ptpDelayRespReceived m _ _ => m.ok
  | .ptpAnnounceReceived m _ _ _ _ _ => m.ok
  | .calStagedMerge _ _ reads _ => readsOk reads
  | .inputQueueItem _ _ reads _ => readsOk reads
  | .frameBegin _ reads _ => readsOk reads
  | .replayEntryRead _ _ _ reads => readsOk reads
  | .mereScrubPass _ reads => readsOk reads
  | .tarnScrubPass _ reads => readsOk reads
  | .standbySelftest _ _ reads _ => readsOk reads
  | .i3cRegisterWrite _ _ reads => readsOk reads
  | .i3cRegisterRead _ reads => readsOk reads
  | .hdrDdrWrite _ _ reads => readsOk reads
  | .hdrDdrRead _ reads => readsOk reads
  | .twIndexWrite _ _ reads => readsOk reads
  | .twData0Read _ reads => readsOk reads
  | .contextMergeEnd reads _ => readsOk reads
  | _ => true

end Sys2Proof
end

