-- ==== Sys2Proof/Laws/PerInstr.lean ====
section
/-! SUPPORT. Statements about the commands as syntax, one lemma per constructor: none is needed. -/

namespace Sys2Proof

/-- A command that carries no data is well-formed. -/
theorem Instr.wellFormed_softTrigger : Instr.softTrigger.wellFormed = true := rfl

end Sys2Proof
end

