-- ==== Sys2Proof/Laws/State.lean ====
section
/-!
SUPPORT. One lemma per field per update of the two chips, true by rfl: no proof need unfold a record update.
-/

namespace Sys2Proof.Machine


@[simp] theorem Bolov.setReg_tick (a : Nat) (v : Word) (b : Bolov) : (b.setReg a v).tick = b.tick := rfl
@[simp] theorem Bolov.setReg_up (a : Nat) (v : Word) (b : Bolov) : (b.setReg a v).up = b.up := rfl
@[simp] theorem Bolov.setReg_counters (a : Nat) (v : Word) (b : Bolov) : (b.setReg a v).counters = b.counters := rfl
@[simp] theorem Bolov.setReg_hostLatch (a : Nat) (v : Word) (b : Bolov) : (b.setReg a v).hostLatch = b.hostLatch := rfl
@[simp] theorem Bolov.setReg_coreLatch (a : Nat) (v : Word) (b : Bolov) : (b.setReg a v).coreLatch = b.coreLatch := rfl
@[simp] theorem Bolov.setReg_heldLo (a : Nat) (v : Word) (b : Bolov) : (b.setReg a v).heldLo = b.heldLo := rfl
@[simp] theorem Bolov.setReg_owed (a : Nat) (v : Word) (b : Bolov) : (b.setReg a v).owed = b.owed := rfl
@[simp] theorem Bolov.setReg_logLost (a : Nat) (v : Word) (b : Bolov) : (b.setReg a v).logLost = b.logLost := rfl
@[simp] theorem Bolov.setReg_binIbi (a : Nat) (v : Word) (b : Bolov) : (b.setReg a v).binIbi = b.binIbi := rfl
@[simp] theorem Bolov.setReg_queues (a : Nat) (v : Word) (b : Bolov) : (b.setReg a v).queues = b.queues := rfl
@[simp] theorem Bolov.setReg_i3c (a : Nat) (v : Word) (b : Bolov) : (b.setReg a v).i3c = b.i3c := rfl
@[simp] theorem Bolov.setReg_windows (a : Nat) (v : Word) (b : Bolov) : (b.setReg a v).windows = b.windows := rfl
@[simp] theorem Bolov.setReg_rmt (a : Nat) (v : Word) (b : Bolov) : (b.setReg a v).rmt = b.rmt := rfl
@[simp] theorem Bolov.setReg_time (a : Nat) (v : Word) (b : Bolov) : (b.setReg a v).time = b.time := rfl
@[simp] theorem Bolov.setReg_ptp (a : Nat) (v : Word) (b : Bolov) : (b.setReg a v).ptp = b.ptp := rfl
@[simp] theorem Bolov.setReg_ports (a : Nat) (v : Word) (b : Bolov) : (b.setReg a v).ports = b.ports := rfl
@[simp] theorem Bolov.setReg_sort (a : Nat) (v : Word) (b : Bolov) : (b.setReg a v).sort = b.sort := rfl
@[simp] theorem Bolov.setReg_notices (a : Nat) (v : Word) (b : Bolov) : (b.setReg a v).notices = b.notices := rfl
@[simp] theorem Bolov.setReg_issued (a : Nat) (v : Word) (b : Bolov) : (b.setReg a v).issued = b.issued := rfl
@[simp] theorem Bolov.setReg_lanes (a : Nat) (v : Word) (b : Bolov) : (b.setReg a v).lanes = b.lanes := rfl
@[simp] theorem Bolov.setReg_trg (a : Nat) (v : Word) (b : Bolov) : (b.setReg a v).trg = b.trg := rfl
@[simp] theorem Bolov.setReg_rate (a : Nat) (v : Word) (b : Bolov) : (b.setReg a v).rate = b.rate := rfl
@[simp] theorem Bolov.setReg_isu (a : Nat) (v : Word) (b : Bolov) : (b.setReg a v).isu = b.isu := rfl
@[simp] theorem Bolov.setReg_pod (a : Nat) (v : Word) (b : Bolov) : (b.setReg a v).pod = b.pod := rfl
@[simp] theorem Bolov.setReg_mere (a : Nat) (v : Word) (b : Bolov) : (b.setReg a v).mere = b.mere := rfl
@[simp] theorem Bolov.setReg_tarn (a : Nat) (v : Word) (b : Bolov) : (b.setReg a v).tarn = b.tarn := rfl
@[simp] theorem Bolov.setReg_cmt (a : Nat) (v : Word) (b : Bolov) : (b.setReg a v).cmt = b.cmt := rfl
@[simp] theorem Bolov.setReg_pwr (a : Nat) (v : Word) (b : Bolov) : (b.setReg a v).pwr = b.pwr := rfl
@[simp] theorem Bolov.setReg_mon (a : Nat) (v : Word) (b : Bolov) : (b.setReg a v).mon = b.mon := rfl
@[simp] theorem Bolov.setReg_grd (a : Nat) (v : Word) (b : Bolov) : (b.setReg a v).grd = b.grd := rfl
@[simp] theorem Bolov.setReg_sec (a : Nat) (v : Word) (b : Bolov) : (b.setReg a v).sec = b.sec := rfl
@[simp] theorem Bolov.setReg_gateIn (a : Nat) (v : Word) (b : Bolov) : (b.setReg a v).gateIn = b.gateIn := rfl

@[simp] theorem Bolov.setRegBit_tick (a i : Nat) (v : Bool) (b : Bolov) : (b.setRegBit a i v).tick = b.tick := rfl
@[simp] theorem Bolov.setRegBit_up (a i : Nat) (v : Bool) (b : Bolov) : (b.setRegBit a i v).up = b.up := rfl
@[simp] theorem Bolov.setRegBit_counters (a i : Nat) (v : Bool) (b : Bolov) : (b.setRegBit a i v).counters = b.counters := rfl
@[simp] theorem Bolov.setRegBit_hostLatch (a i : Nat) (v : Bool) (b : Bolov) : (b.setRegBit a i v).hostLatch = b.hostLatch := rfl
@[simp] theorem Bolov.setRegBit_coreLatch (a i : Nat) (v : Bool) (b : Bolov) : (b.setRegBit a i v).coreLatch = b.coreLatch := rfl
@[simp] theorem Bolov.setRegBit_heldLo (a i : Nat) (v : Bool) (b : Bolov) : (b.setRegBit a i v).heldLo = b.heldLo := rfl
@[simp] theorem Bolov.setRegBit_owed (a i : Nat) (v : Bool) (b : Bolov) : (b.setRegBit a i v).owed = b.owed := rfl
@[simp] theorem Bolov.setRegBit_logLost (a i : Nat) (v : Bool) (b : Bolov) : (b.setRegBit a i v).logLost = b.logLost := rfl
@[simp] theorem Bolov.setRegBit_binIbi (a i : Nat) (v : Bool) (b : Bolov) : (b.setRegBit a i v).binIbi = b.binIbi := rfl
@[simp] theorem Bolov.setRegBit_queues (a i : Nat) (v : Bool) (b : Bolov) : (b.setRegBit a i v).queues = b.queues := rfl
@[simp] theorem Bolov.setRegBit_i3c (a i : Nat) (v : Bool) (b : Bolov) : (b.setRegBit a i v).i3c = b.i3c := rfl
@[simp] theorem Bolov.setRegBit_windows (a i : Nat) (v : Bool) (b : Bolov) : (b.setRegBit a i v).windows = b.windows := rfl
@[simp] theorem Bolov.setRegBit_rmt (a i : Nat) (v : Bool) (b : Bolov) : (b.setRegBit a i v).rmt = b.rmt := rfl
@[simp] theorem Bolov.setRegBit_time (a i : Nat) (v : Bool) (b : Bolov) : (b.setRegBit a i v).time = b.time := rfl
@[simp] theorem Bolov.setRegBit_ptp (a i : Nat) (v : Bool) (b : Bolov) : (b.setRegBit a i v).ptp = b.ptp := rfl
@[simp] theorem Bolov.setRegBit_ports (a i : Nat) (v : Bool) (b : Bolov) : (b.setRegBit a i v).ports = b.ports := rfl
@[simp] theorem Bolov.setRegBit_sort (a i : Nat) (v : Bool) (b : Bolov) : (b.setRegBit a i v).sort = b.sort := rfl
@[simp] theorem Bolov.setRegBit_notices (a i : Nat) (v : Bool) (b : Bolov) : (b.setRegBit a i v).notices = b.notices := rfl
@[simp] theorem Bolov.setRegBit_issued (a i : Nat) (v : Bool) (b : Bolov) : (b.setRegBit a i v).issued = b.issued := rfl
@[simp] theorem Bolov.setRegBit_lanes (a i : Nat) (v : Bool) (b : Bolov) : (b.setRegBit a i v).lanes = b.lanes := rfl
@[simp] theorem Bolov.setRegBit_trg (a i : Nat) (v : Bool) (b : Bolov) : (b.setRegBit a i v).trg = b.trg := rfl
@[simp] theorem Bolov.setRegBit_rate (a i : Nat) (v : Bool) (b : Bolov) : (b.setRegBit a i v).rate = b.rate := rfl
@[simp] theorem Bolov.setRegBit_isu (a i : Nat) (v : Bool) (b : Bolov) : (b.setRegBit a i v).isu = b.isu := rfl
@[simp] theorem Bolov.setRegBit_pod (a i : Nat) (v : Bool) (b : Bolov) : (b.setRegBit a i v).pod = b.pod := rfl
@[simp] theorem Bolov.setRegBit_mere (a i : Nat) (v : Bool) (b : Bolov) : (b.setRegBit a i v).mere = b.mere := rfl
@[simp] theorem Bolov.setRegBit_tarn (a i : Nat) (v : Bool) (b : Bolov) : (b.setRegBit a i v).tarn = b.tarn := rfl
@[simp] theorem Bolov.setRegBit_cmt (a i : Nat) (v : Bool) (b : Bolov) : (b.setRegBit a i v).cmt = b.cmt := rfl
@[simp] theorem Bolov.setRegBit_pwr (a i : Nat) (v : Bool) (b : Bolov) : (b.setRegBit a i v).pwr = b.pwr := rfl
@[simp] theorem Bolov.setRegBit_mon (a i : Nat) (v : Bool) (b : Bolov) : (b.setRegBit a i v).mon = b.mon := rfl
@[simp] theorem Bolov.setRegBit_grd (a i : Nat) (v : Bool) (b : Bolov) : (b.setRegBit a i v).grd = b.grd := rfl
@[simp] theorem Bolov.setRegBit_sec (a i : Nat) (v : Bool) (b : Bolov) : (b.setRegBit a i v).sec = b.sec := rfl
@[simp] theorem Bolov.setRegBit_gateIn (a i : Nat) (v : Bool) (b : Bolov) : (b.setRegBit a i v).gateIn = b.gateIn := rfl

@[simp] theorem Bolov.setReg64_tick (a v : Nat) (b : Bolov) : (b.setReg64 a v).tick = b.tick := rfl
@[simp] theorem Bolov.setReg64_up (a v : Nat) (b : Bolov) : (b.setReg64 a v).up = b.up := rfl
@[simp] theorem Bolov.setReg64_counters (a v : Nat) (b : Bolov) : (b.setReg64 a v).counters = b.counters := rfl
@[simp] theorem Bolov.setReg64_hostLatch (a v : Nat) (b : Bolov) : (b.setReg64 a v).hostLatch = b.hostLatch := rfl
@[simp] theorem Bolov.setReg64_coreLatch (a v : Nat) (b : Bolov) : (b.setReg64 a v).coreLatch = b.coreLatch := rfl
@[simp] theorem Bolov.setReg64_heldLo (a v : Nat) (b : Bolov) : (b.setReg64 a v).heldLo = b.heldLo := rfl
@[simp] theorem Bolov.setReg64_owed (a v : Nat) (b : Bolov) : (b.setReg64 a v).owed = b.owed := rfl
@[simp] theorem Bolov.setReg64_logLost (a v : Nat) (b : Bolov) : (b.setReg64 a v).logLost = b.logLost := rfl
@[simp] theorem Bolov.setReg64_binIbi (a v : Nat) (b : Bolov) : (b.setReg64 a v).binIbi = b.binIbi := rfl
@[simp] theorem Bolov.setReg64_queues (a v : Nat) (b : Bolov) : (b.setReg64 a v).queues = b.queues := rfl
@[simp] theorem Bolov.setReg64_i3c (a v : Nat) (b : Bolov) : (b.setReg64 a v).i3c = b.i3c := rfl
@[simp] theorem Bolov.setReg64_windows (a v : Nat) (b : Bolov) : (b.setReg64 a v).windows = b.windows := rfl
@[simp] theorem Bolov.setReg64_rmt (a v : Nat) (b : Bolov) : (b.setReg64 a v).rmt = b.rmt := rfl
@[simp] theorem Bolov.setReg64_time (a v : Nat) (b : Bolov) : (b.setReg64 a v).time = b.time := rfl
@[simp] theorem Bolov.setReg64_ptp (a v : Nat) (b : Bolov) : (b.setReg64 a v).ptp = b.ptp := rfl
@[simp] theorem Bolov.setReg64_ports (a v : Nat) (b : Bolov) : (b.setReg64 a v).ports = b.ports := rfl
@[simp] theorem Bolov.setReg64_sort (a v : Nat) (b : Bolov) : (b.setReg64 a v).sort = b.sort := rfl
@[simp] theorem Bolov.setReg64_notices (a v : Nat) (b : Bolov) : (b.setReg64 a v).notices = b.notices := rfl
@[simp] theorem Bolov.setReg64_issued (a v : Nat) (b : Bolov) : (b.setReg64 a v).issued = b.issued := rfl
@[simp] theorem Bolov.setReg64_lanes (a v : Nat) (b : Bolov) : (b.setReg64 a v).lanes = b.lanes := rfl
@[simp] theorem Bolov.setReg64_trg (a v : Nat) (b : Bolov) : (b.setReg64 a v).trg = b.trg := rfl
@[simp] theorem Bolov.setReg64_rate (a v : Nat) (b : Bolov) : (b.setReg64 a v).rate = b.rate := rfl
@[simp] theorem Bolov.setReg64_isu (a v : Nat) (b : Bolov) : (b.setReg64 a v).isu = b.isu := rfl
@[simp] theorem Bolov.setReg64_pod (a v : Nat) (b : Bolov) : (b.setReg64 a v).pod = b.pod := rfl
@[simp] theorem Bolov.setReg64_mere (a v : Nat) (b : Bolov) : (b.setReg64 a v).mere = b.mere := rfl
@[simp] theorem Bolov.setReg64_tarn (a v : Nat) (b : Bolov) : (b.setReg64 a v).tarn = b.tarn := rfl
@[simp] theorem Bolov.setReg64_cmt (a v : Nat) (b : Bolov) : (b.setReg64 a v).cmt = b.cmt := rfl
@[simp] theorem Bolov.setReg64_pwr (a v : Nat) (b : Bolov) : (b.setReg64 a v).pwr = b.pwr := rfl
@[simp] theorem Bolov.setReg64_mon (a v : Nat) (b : Bolov) : (b.setReg64 a v).mon = b.mon := rfl
@[simp] theorem Bolov.setReg64_grd (a v : Nat) (b : Bolov) : (b.setReg64 a v).grd = b.grd := rfl
@[simp] theorem Bolov.setReg64_sec (a v : Nat) (b : Bolov) : (b.setReg64 a v).sec = b.sec := rfl
@[simp] theorem Bolov.setReg64_gateIn (a v : Nat) (b : Bolov) : (b.setReg64 a v).gateIn = b.gateIn := rfl

@[simp] theorem Bolov.modQueue_tick (q : Fin 8) (f : Queue → Queue) (b : Bolov) : (b.modQueue q f).tick = b.tick := rfl
@[simp] theorem Bolov.modQueue_up (q : Fin 8) (f : Queue → Queue) (b : Bolov) : (b.modQueue q f).up = b.up := rfl
@[simp] theorem Bolov.modQueue_regs (q : Fin 8) (f : Queue → Queue) (b : Bolov) : (b.modQueue q f).regs = b.regs := rfl
@[simp] theorem Bolov.modQueue_counters (q : Fin 8) (f : Queue → Queue) (b : Bolov) : (b.modQueue q f).counters = b.counters := rfl
@[simp] theorem Bolov.modQueue_hostLatch (q : Fin 8) (f : Queue → Queue) (b : Bolov) : (b.modQueue q f).hostLatch = b.hostLatch := rfl
@[simp] theorem Bolov.modQueue_coreLatch (q : Fin 8) (f : Queue → Queue) (b : Bolov) : (b.modQueue q f).coreLatch = b.coreLatch := rfl
@[simp] theorem Bolov.modQueue_heldLo (q : Fin 8) (f : Queue → Queue) (b : Bolov) : (b.modQueue q f).heldLo = b.heldLo := rfl
@[simp] theorem Bolov.modQueue_owed (q : Fin 8) (f : Queue → Queue) (b : Bolov) : (b.modQueue q f).owed = b.owed := rfl
@[simp] theorem Bolov.modQueue_logLost (q : Fin 8) (f : Queue → Queue) (b : Bolov) : (b.modQueue q f).logLost = b.logLost := rfl
@[simp] theorem Bolov.modQueue_binIbi (q : Fin 8) (f : Queue → Queue) (b : Bolov) : (b.modQueue q f).binIbi = b.binIbi := rfl
@[simp] theorem Bolov.modQueue_queues (q : Fin 8) (f : Queue → Queue) (b : Bolov) : (b.modQueue q f).queues = b.queues.set q (f b.queues[q]) := rfl
@[simp] theorem Bolov.modQueue_i3c (q : Fin 8) (f : Queue → Queue) (b : Bolov) : (b.modQueue q f).i3c = b.i3c := rfl
@[simp] theorem Bolov.modQueue_windows (q : Fin 8) (f : Queue → Queue) (b : Bolov) : (b.modQueue q f).windows = b.windows := rfl
@[simp] theorem Bolov.modQueue_rmt (q : Fin 8) (f : Queue → Queue) (b : Bolov) : (b.modQueue q f).rmt = b.rmt := rfl
@[simp] theorem Bolov.modQueue_time (q : Fin 8) (f : Queue → Queue) (b : Bolov) : (b.modQueue q f).time = b.time := rfl
@[simp] theorem Bolov.modQueue_ptp (q : Fin 8) (f : Queue → Queue) (b : Bolov) : (b.modQueue q f).ptp = b.ptp := rfl
@[simp] theorem Bolov.modQueue_ports (q : Fin 8) (f : Queue → Queue) (b : Bolov) : (b.modQueue q f).ports = b.ports := rfl
@[simp] theorem Bolov.modQueue_sort (q : Fin 8) (f : Queue → Queue) (b : Bolov) : (b.modQueue q f).sort = b.sort := rfl
@[simp] theorem Bolov.modQueue_notices (q : Fin 8) (f : Queue → Queue) (b : Bolov) : (b.modQueue q f).notices = b.notices := rfl
@[simp] theorem Bolov.modQueue_issued (q : Fin 8) (f : Queue → Queue) (b : Bolov) : (b.modQueue q f).issued = b.issued := rfl
@[simp] theorem Bolov.modQueue_lanes (q : Fin 8) (f : Queue → Queue) (b : Bolov) : (b.modQueue q f).lanes = b.lanes := rfl
@[simp] theorem Bolov.modQueue_trg (q : Fin 8) (f : Queue → Queue) (b : Bolov) : (b.modQueue q f).trg = b.trg := rfl
@[simp] theorem Bolov.modQueue_rate (q : Fin 8) (f : Queue → Queue) (b : Bolov) : (b.modQueue q f).rate = b.rate := rfl
@[simp] theorem Bolov.modQueue_isu (q : Fin 8) (f : Queue → Queue) (b : Bolov) : (b.modQueue q f).isu = b.isu := rfl
@[simp] theorem Bolov.modQueue_pod (q : Fin 8) (f : Queue → Queue) (b : Bolov) : (b.modQueue q f).pod = b.pod := rfl
@[simp] theorem Bolov.modQueue_mere (q : Fin 8) (f : Queue → Queue) (b : Bolov) : (b.modQueue q f).mere = b.mere := rfl
@[simp] theorem Bolov.modQueue_tarn (q : Fin 8) (f : Queue → Queue) (b : Bolov) : (b.modQueue q f).tarn = b.tarn := rfl
@[simp] theorem Bolov.modQueue_cmt (q : Fin 8) (f : Queue → Queue) (b : Bolov) : (b.modQueue q f).cmt = b.cmt := rfl
@[simp] theorem Bolov.modQueue_pwr (q : Fin 8) (f : Queue → Queue) (b : Bolov) : (b.modQueue q f).pwr = b.pwr := rfl
@[simp] theorem Bolov.modQueue_mon (q : Fin 8) (f : Queue → Queue) (b : Bolov) : (b.modQueue q f).mon = b.mon := rfl
@[simp] theorem Bolov.modQueue_grd (q : Fin 8) (f : Queue → Queue) (b : Bolov) : (b.modQueue q f).grd = b.grd := rfl
@[simp] theorem Bolov.modQueue_sec (q : Fin 8) (f : Queue → Queue) (b : Bolov) : (b.modQueue q f).sec = b.sec := rfl
@[simp] theorem Bolov.modQueue_gateIn (q : Fin 8) (f : Queue → Queue) (b : Bolov) : (b.modQueue q f).gateIn = b.gateIn := rfl

@[simp] theorem Bolov.qReserve_tick (q : Fin 8) (b : Bolov) : (b.qReserve q).tick = b.tick := rfl
@[simp] theorem Bolov.qReserve_up (q : Fin 8) (b : Bolov) : (b.qReserve q).up = b.up := rfl
@[simp] theorem Bolov.qReserve_regs (q : Fin 8) (b : Bolov) : (b.qReserve q).regs = b.regs := rfl
@[simp] theorem Bolov.qReserve_counters (q : Fin 8) (b : Bolov) : (b.qReserve q).counters = b.counters := rfl
@[simp] theorem Bolov.qReserve_hostLatch (q : Fin 8) (b : Bolov) : (b.qReserve q).hostLatch = b.hostLatch := rfl
@[simp] theorem Bolov.qReserve_coreLatch (q : Fin 8) (b : Bolov) : (b.qReserve q).coreLatch = b.coreLatch := rfl
@[simp] theorem Bolov.qReserve_heldLo (q : Fin 8) (b : Bolov) : (b.qReserve q).heldLo = b.heldLo := rfl
@[simp] theorem Bolov.qReserve_owed (q : Fin 8) (b : Bolov) : (b.qReserve q).owed = b.owed := rfl
@[simp] theorem Bolov.qReserve_logLost (q : Fin 8) (b : Bolov) : (b.qReserve q).logLost = b.logLost := rfl
@[simp] theorem Bolov.qReserve_binIbi (q : Fin 8) (b : Bolov) : (b.qReserve q).binIbi = b.binIbi := rfl
@[simp] theorem Bolov.qReserve_i3c (q : Fin 8) (b : Bolov) : (b.qReserve q).i3c = b.i3c := rfl
@[simp] theorem Bolov.qReserve_windows (q : Fin 8) (b : Bolov) : (b.qReserve q).windows = b.windows := rfl
@[simp] theorem Bolov.qReserve_rmt (q : Fin 8) (b : Bolov) : (b.qReserve q).rmt = b.rmt := rfl
@[simp] theorem Bolov.qReserve_time (q : Fin 8) (b : Bolov) : (b.qReserve q).time = b.time := rfl
@[simp] theorem Bolov.qReserve_ptp (q : Fin 8) (b : Bolov) : (b.qReserve q).ptp = b.ptp := rfl
@[simp] theorem Bolov.qReserve_ports (q : Fin 8) (b : Bolov) : (b.qReserve q).ports = b.ports := rfl
@[simp] theorem Bolov.qReserve_sort (q : Fin 8) (b : Bolov) : (b.qReserve q).sort = b.sort := rfl
@[simp] theorem Bolov.qReserve_notices (q : Fin 8) (b : Bolov) : (b.qReserve q).notices = b.notices := rfl
@[simp] theorem Bolov.qReserve_issued (q : Fin 8) (b : Bolov) : (b.qReserve q).issued = b.issued := rfl
@[simp] theorem Bolov.qReserve_lanes (q : Fin 8) (b : Bolov) : (b.qReserve q).lanes = b.lanes := rfl
@[simp] theorem Bolov.qReserve_trg (q : Fin 8) (b : Bolov) : (b.qReserve q).trg = b.trg := rfl
@[simp] theorem Bolov.qReserve_rate (q : Fin 8) (b : Bolov) : (b.qReserve q).rate = b.rate := rfl
@[simp] theorem Bolov.qReserve_isu (q : Fin 8) (b : Bolov) : (b.qReserve q).isu = b.isu := rfl
@[simp] theorem Bolov.qReserve_pod (q : Fin 8) (b : Bolov) : (b.qReserve q).pod = b.pod := rfl
@[simp] theorem Bolov.qReserve_mere (q : Fin 8) (b : Bolov) : (b.qReserve q).mere = b.mere := rfl
@[simp] theorem Bolov.qReserve_tarn (q : Fin 8) (b : Bolov) : (b.qReserve q).tarn = b.tarn := rfl
@[simp] theorem Bolov.qReserve_cmt (q : Fin 8) (b : Bolov) : (b.qReserve q).cmt = b.cmt := rfl
@[simp] theorem Bolov.qReserve_pwr (q : Fin 8) (b : Bolov) : (b.qReserve q).pwr = b.pwr := rfl
@[simp] theorem Bolov.qReserve_mon (q : Fin 8) (b : Bolov) : (b.qReserve q).mon = b.mon := rfl
@[simp] theorem Bolov.qReserve_grd (q : Fin 8) (b : Bolov) : (b.qReserve q).grd = b.grd := rfl
@[simp] theorem Bolov.qReserve_sec (q : Fin 8) (b : Bolov) : (b.qReserve q).sec = b.sec := rfl
@[simp] theorem Bolov.qReserve_gateIn (q : Fin 8) (b : Bolov) : (b.qReserve q).gateIn = b.gateIn := rfl

@[simp] theorem Bolov.qPost_tick (q : Fin 8) (r : List W64) (b : Bolov) : (b.qPost q r).tick = b.tick := rfl
@[simp] theorem Bolov.qPost_up (q : Fin 8) (r : List W64) (b : Bolov) : (b.qPost q r).up = b.up := rfl
@[simp] theorem Bolov.qPost_regs (q : Fin 8) (r : List W64) (b : Bolov) : (b.qPost q r).regs = b.regs := rfl
@[simp] theorem Bolov.qPost_counters (q : Fin 8) (r : List W64) (b : Bolov) : (b.qPost q r).counters = b.counters := rfl
@[simp] theorem Bolov.qPost_hostLatch (q : Fin 8) (r : List W64) (b : Bolov) : (b.qPost q r).hostLatch = b.hostLatch := rfl
@[simp] theorem Bolov.qPost_coreLatch (q : Fin 8) (r : List W64) (b : Bolov) : (b.qPost q r).coreLatch = b.coreLatch := rfl
@[simp] theorem Bolov.qPost_heldLo (q : Fin 8) (r : List W64) (b : Bolov) : (b.qPost q r).heldLo = b.heldLo := rfl
@[simp] theorem Bolov.qPost_owed (q : Fin 8) (r : List W64) (b : Bolov) : (b.qPost q r).owed = b.owed := rfl
@[simp] theorem Bolov.qPost_logLost (q : Fin 8) (r : List W64) (b : Bolov) : (b.qPost q r).logLost = b.logLost := rfl
@[simp] theorem Bolov.qPost_binIbi (q : Fin 8) (r : List W64) (b : Bolov) : (b.qPost q r).binIbi = b.binIbi := rfl
@[simp] theorem Bolov.qPost_i3c (q : Fin 8) (r : List W64) (b : Bolov) : (b.qPost q r).i3c = b.i3c := rfl
@[simp] theorem Bolov.qPost_windows (q : Fin 8) (r : List W64) (b : Bolov) : (b.qPost q r).windows = b.windows := rfl
@[simp] theorem Bolov.qPost_rmt (q : Fin 8) (r : List W64) (b : Bolov) : (b.qPost q r).rmt = b.rmt := rfl
@[simp] theorem Bolov.qPost_time (q : Fin 8) (r : List W64) (b : Bolov) : (b.qPost q r).time = b.time := rfl
@[simp] theorem Bolov.qPost_ptp (q : Fin 8) (r : List W64) (b : Bolov) : (b.qPost q r).ptp = b.ptp := rfl
@[simp] theorem Bolov.qPost_ports (q : Fin 8) (r : List W64) (b : Bolov) : (b.qPost q r).ports = b.ports := rfl
@[simp] theorem Bolov.qPost_sort (q : Fin 8) (r : List W64) (b : Bolov) : (b.qPost q r).sort = b.sort := rfl
@[simp] theorem Bolov.qPost_notices (q : Fin 8) (r : List W64) (b : Bolov) : (b.qPost q r).notices = b.notices := rfl
@[simp] theorem Bolov.qPost_issued (q : Fin 8) (r : List W64) (b : Bolov) : (b.qPost q r).issued = b.issued := rfl
@[simp] theorem Bolov.qPost_lanes (q : Fin 8) (r : List W64) (b : Bolov) : (b.qPost q r).lanes = b.lanes := rfl
@[simp] theorem Bolov.qPost_trg (q : Fin 8) (r : List W64) (b : Bolov) : (b.qPost q r).trg = b.trg := rfl
@[simp] theorem Bolov.qPost_rate (q : Fin 8) (r : List W64) (b : Bolov) : (b.qPost q r).rate = b.rate := rfl
@[simp] theorem Bolov.qPost_isu (q : Fin 8) (r : List W64) (b : Bolov) : (b.qPost q r).isu = b.isu := rfl
@[simp] theorem Bolov.qPost_pod (q : Fin 8) (r : List W64) (b : Bolov) : (b.qPost q r).pod = b.pod := rfl
@[simp] theorem Bolov.qPost_mere (q : Fin 8) (r : List W64) (b : Bolov) : (b.qPost q r).mere = b.mere := rfl
@[simp] theorem Bolov.qPost_tarn (q : Fin 8) (r : List W64) (b : Bolov) : (b.qPost q r).tarn = b.tarn := rfl
@[simp] theorem Bolov.qPost_cmt (q : Fin 8) (r : List W64) (b : Bolov) : (b.qPost q r).cmt = b.cmt := rfl
@[simp] theorem Bolov.qPost_pwr (q : Fin 8) (r : List W64) (b : Bolov) : (b.qPost q r).pwr = b.pwr := rfl
@[simp] theorem Bolov.qPost_mon (q : Fin 8) (r : List W64) (b : Bolov) : (b.qPost q r).mon = b.mon := rfl
@[simp] theorem Bolov.qPost_grd (q : Fin 8) (r : List W64) (b : Bolov) : (b.qPost q r).grd = b.grd := rfl
@[simp] theorem Bolov.qPost_sec (q : Fin 8) (r : List W64) (b : Bolov) : (b.qPost q r).sec = b.sec := rfl
@[simp] theorem Bolov.qPost_gateIn (q : Fin 8) (r : List W64) (b : Bolov) : (b.qPost q r).gateIn = b.gateIn := rfl

@[simp] theorem Bolov.clearCtr_tick (lo n : Nat) (b : Bolov) : (b.clearCtr lo n).tick = b.tick := rfl
@[simp] theorem Bolov.clearCtr_up (lo n : Nat) (b : Bolov) : (b.clearCtr lo n).up = b.up := rfl
@[simp] theorem Bolov.clearCtr_regs (lo n : Nat) (b : Bolov) : (b.clearCtr lo n).regs = b.regs := rfl
@[simp] theorem Bolov.clearCtr_hostLatch (lo n : Nat) (b : Bolov) : (b.clearCtr lo n).hostLatch = b.hostLatch := rfl
@[simp] theorem Bolov.clearCtr_coreLatch (lo n : Nat) (b : Bolov) : (b.clearCtr lo n).coreLatch = b.coreLatch := rfl
@[simp] theorem Bolov.clearCtr_heldLo (lo n : Nat) (b : Bolov) : (b.clearCtr lo n).heldLo = b.heldLo := rfl
@[simp] theorem Bolov.clearCtr_owed (lo n : Nat) (b : Bolov) : (b.clearCtr lo n).owed = b.owed := rfl
@[simp] theorem Bolov.clearCtr_logLost (lo n : Nat) (b : Bolov) : (b.clearCtr lo n).logLost = b.logLost := rfl
@[simp] theorem Bolov.clearCtr_binIbi (lo n : Nat) (b : Bolov) : (b.clearCtr lo n).binIbi = b.binIbi := rfl
@[simp] theorem Bolov.clearCtr_queues (lo n : Nat) (b : Bolov) : (b.clearCtr lo n).queues = b.queues := rfl
@[simp] theorem Bolov.clearCtr_i3c (lo n : Nat) (b : Bolov) : (b.clearCtr lo n).i3c = b.i3c := rfl
@[simp] theorem Bolov.clearCtr_windows (lo n : Nat) (b : Bolov) : (b.clearCtr lo n).windows = b.windows := rfl
@[simp] theorem Bolov.clearCtr_rmt (lo n : Nat) (b : Bolov) : (b.clearCtr lo n).rmt = b.rmt := rfl
@[simp] theorem Bolov.clearCtr_time (lo n : Nat) (b : Bolov) : (b.clearCtr lo n).time = b.time := rfl
@[simp] theorem Bolov.clearCtr_ptp (lo n : Nat) (b : Bolov) : (b.clearCtr lo n).ptp = b.ptp := rfl
@[simp] theorem Bolov.clearCtr_ports (lo n : Nat) (b : Bolov) : (b.clearCtr lo n).ports = b.ports := rfl
@[simp] theorem Bolov.clearCtr_sort (lo n : Nat) (b : Bolov) : (b.clearCtr lo n).sort = b.sort := rfl
@[simp] theorem Bolov.clearCtr_notices (lo n : Nat) (b : Bolov) : (b.clearCtr lo n).notices = b.notices := rfl
@[simp] theorem Bolov.clearCtr_issued (lo n : Nat) (b : Bolov) : (b.clearCtr lo n).issued = b.issued := rfl
@[simp] theorem Bolov.clearCtr_lanes (lo n : Nat) (b : Bolov) : (b.clearCtr lo n).lanes = b.lanes := rfl
@[simp] theorem Bolov.clearCtr_trg (lo n : Nat) (b : Bolov) : (b.clearCtr lo n).trg = b.trg := rfl
@[simp] theorem Bolov.clearCtr_rate (lo n : Nat) (b : Bolov) : (b.clearCtr lo n).rate = b.rate := rfl
@[simp] theorem Bolov.clearCtr_isu (lo n : Nat) (b : Bolov) : (b.clearCtr lo n).isu = b.isu := rfl
@[simp] theorem Bolov.clearCtr_pod (lo n : Nat) (b : Bolov) : (b.clearCtr lo n).pod = b.pod := rfl
@[simp] theorem Bolov.clearCtr_mere (lo n : Nat) (b : Bolov) : (b.clearCtr lo n).mere = b.mere := rfl
@[simp] theorem Bolov.clearCtr_tarn (lo n : Nat) (b : Bolov) : (b.clearCtr lo n).tarn = b.tarn := rfl
@[simp] theorem Bolov.clearCtr_cmt (lo n : Nat) (b : Bolov) : (b.clearCtr lo n).cmt = b.cmt := rfl
@[simp] theorem Bolov.clearCtr_pwr (lo n : Nat) (b : Bolov) : (b.clearCtr lo n).pwr = b.pwr := rfl
@[simp] theorem Bolov.clearCtr_mon (lo n : Nat) (b : Bolov) : (b.clearCtr lo n).mon = b.mon := rfl
@[simp] theorem Bolov.clearCtr_grd (lo n : Nat) (b : Bolov) : (b.clearCtr lo n).grd = b.grd := rfl
@[simp] theorem Bolov.clearCtr_sec (lo n : Nat) (b : Bolov) : (b.clearCtr lo n).sec = b.sec := rfl
@[simp] theorem Bolov.clearCtr_gateIn (lo n : Nat) (b : Bolov) : (b.clearCtr lo n).gateIn = b.gateIn := rfl

@[simp] theorem Bolov.modPort_tick (p : Nat) (f : PortState → PortState) (b : Bolov) : (b.modPort p f).tick = b.tick := rfl
@[simp] theorem Bolov.modPort_up (p : Nat) (f : PortState → PortState) (b : Bolov) : (b.modPort p f).up = b.up := rfl
@[simp] theorem Bolov.modPort_regs (p : Nat) (f : PortState → PortState) (b : Bolov) : (b.modPort p f).regs = b.regs := rfl
@[simp] theorem Bolov.modPort_counters (p : Nat) (f : PortState → PortState) (b : Bolov) : (b.modPort p f).counters = b.counters := rfl
@[simp] theorem Bolov.modPort_hostLatch (p : Nat) (f : PortState → PortState) (b : Bolov) : (b.modPort p f).hostLatch = b.hostLatch := rfl
@[simp] theorem Bolov.modPort_coreLatch (p : Nat) (f : PortState → PortState) (b : Bolov) : (b.modPort p f).coreLatch = b.coreLatch := rfl
@[simp] theorem Bolov.modPort_heldLo (p : Nat) (f : PortState → PortState) (b : Bolov) : (b.modPort p f).heldLo = b.heldLo := rfl
@[simp] theorem Bolov.modPort_owed (p : Nat) (f : PortState → PortState) (b : Bolov) : (b.modPort p f).owed = b.owed := rfl
@[simp] theorem Bolov.modPort_logLost (p : Nat) (f : PortState → PortState) (b : Bolov) : (b.modPort p f).logLost = b.logLost := rfl
@[simp] theorem Bolov.modPort_binIbi (p : Nat) (f : PortState → PortState) (b : Bolov) : (b.modPort p f).binIbi = b.binIbi := rfl
@[simp] theorem Bolov.modPort_queues (p : Nat) (f : PortState → PortState) (b : Bolov) : (b.modPort p f).queues = b.queues := rfl
@[simp] theorem Bolov.modPort_i3c (p : Nat) (f : PortState → PortState) (b : Bolov) : (b.modPort p f).i3c = b.i3c := rfl
@[simp] theorem Bolov.modPort_windows (p : Nat) (f : PortState → PortState) (b : Bolov) : (b.modPort p f).windows = b.windows := rfl
@[simp] theorem Bolov.modPort_rmt (p : Nat) (f : PortState → PortState) (b : Bolov) : (b.modPort p f).rmt = b.rmt := rfl
@[simp] theorem Bolov.modPort_time (p : Nat) (f : PortState → PortState) (b : Bolov) : (b.modPort p f).time = b.time := rfl
@[simp] theorem Bolov.modPort_ptp (p : Nat) (f : PortState → PortState) (b : Bolov) : (b.modPort p f).ptp = b.ptp := rfl
@[simp] theorem Bolov.modPort_sort (p : Nat) (f : PortState → PortState) (b : Bolov) : (b.modPort p f).sort = b.sort := rfl
@[simp] theorem Bolov.modPort_notices (p : Nat) (f : PortState → PortState) (b : Bolov) : (b.modPort p f).notices = b.notices := rfl
@[simp] theorem Bolov.modPort_issued (p : Nat) (f : PortState → PortState) (b : Bolov) : (b.modPort p f).issued = b.issued := rfl
@[simp] theorem Bolov.modPort_lanes (p : Nat) (f : PortState → PortState) (b : Bolov) : (b.modPort p f).lanes = b.lanes := rfl
@[simp] theorem Bolov.modPort_trg (p : Nat) (f : PortState → PortState) (b : Bolov) : (b.modPort p f).trg = b.trg := rfl
@[simp] theorem Bolov.modPort_rate (p : Nat) (f : PortState → PortState) (b : Bolov) : (b.modPort p f).rate = b.rate := rfl
@[simp] theorem Bolov.modPort_isu (p : Nat) (f : PortState → PortState) (b : Bolov) : (b.modPort p f).isu = b.isu := rfl
@[simp] theorem Bolov.modPort_pod (p : Nat) (f : PortState → PortState) (b : Bolov) : (b.modPort p f).pod = b.pod := rfl
@[simp] theorem Bolov.modPort_mere (p : Nat) (f : PortState → PortState) (b : Bolov) : (b.modPort p f).mere = b.mere := rfl
@[simp] theorem Bolov.modPort_tarn (p : Nat) (f : PortState → PortState) (b : Bolov) : (b.modPort p f).tarn = b.tarn := rfl
@[simp] theorem Bolov.modPort_cmt (p : Nat) (f : PortState → PortState) (b : Bolov) : (b.modPort p f).cmt = b.cmt := rfl
@[simp] theorem Bolov.modPort_pwr (p : Nat) (f : PortState → PortState) (b : Bolov) : (b.modPort p f).pwr = b.pwr := rfl
@[simp] theorem Bolov.modPort_mon (p : Nat) (f : PortState → PortState) (b : Bolov) : (b.modPort p f).mon = b.mon := rfl
@[simp] theorem Bolov.modPort_grd (p : Nat) (f : PortState → PortState) (b : Bolov) : (b.modPort p f).grd = b.grd := rfl
@[simp] theorem Bolov.modPort_sec (p : Nat) (f : PortState → PortState) (b : Bolov) : (b.modPort p f).sec = b.sec := rfl
@[simp] theorem Bolov.modPort_gateIn (p : Nat) (f : PortState → PortState) (b : Bolov) : (b.modPort p f).gateIn = b.gateIn := rfl

@[simp] theorem Bolov.modSort_tick (f : SortState → SortState) (b : Bolov) : (b.modSort f).tick = b.tick := rfl
@[simp] theorem Bolov.modSort_up (f : SortState → SortState) (b : Bolov) : (b.modSort f).up = b.up := rfl
@[simp] theorem Bolov.modSort_regs (f : SortState → SortState) (b : Bolov) : (b.modSort f).regs = b.regs := rfl
@[simp] theorem Bolov.modSort_counters (f : SortState → SortState) (b : Bolov) : (b.modSort f).counters = b.counters := rfl
@[simp] theorem Bolov.modSort_hostLatch (f : SortState → SortState) (b : Bolov) : (b.modSort f).hostLatch = b.hostLatch := rfl
@[simp] theorem Bolov.modSort_coreLatch (f : SortState → SortState) (b : Bolov) : (b.modSort f).coreLatch = b.coreLatch := rfl
@[simp] theorem Bolov.modSort_heldLo (f : SortState → SortState) (b : Bolov) : (b.modSort f).heldLo = b.heldLo := rfl
@[simp] theorem Bolov.modSort_owed (f : SortState → SortState) (b : Bolov) : (b.modSort f).owed = b.owed := rfl
@[simp] theorem Bolov.modSort_logLost (f : SortState → SortState) (b : Bolov) : (b.modSort f).logLost = b.logLost := rfl
@[simp] theorem Bolov.modSort_binIbi (f : SortState → SortState) (b : Bolov) : (b.modSort f).binIbi = b.binIbi := rfl
@[simp] theorem Bolov.modSort_queues (f : SortState → SortState) (b : Bolov) : (b.modSort f).queues = b.queues := rfl
@[simp] theorem Bolov.modSort_i3c (f : SortState → SortState) (b : Bolov) : (b.modSort f).i3c = b.i3c := rfl
@[simp] theorem Bolov.modSort_windows (f : SortState → SortState) (b : Bolov) : (b.modSort f).windows = b.windows := rfl
@[simp] theorem Bolov.modSort_rmt (f : SortState → SortState) (b : Bolov) : (b.modSort f).rmt = b.rmt := rfl
@[simp] theorem Bolov.modSort_time (f : SortState → SortState) (b : Bolov) : (b.modSort f).time = b.time := rfl
@[simp] theorem Bolov.modSort_ptp (f : SortState → SortState) (b : Bolov) : (b.modSort f).ptp = b.ptp := rfl
@[simp] theorem Bolov.modSort_ports (f : SortState → SortState) (b : Bolov) : (b.modSort f).ports = b.ports := rfl
@[simp] theorem Bolov.modSort_sort (f : SortState → SortState) (b : Bolov) : (b.modSort f).sort = f b.sort := rfl
@[simp] theorem Bolov.modSort_notices (f : SortState → SortState) (b : Bolov) : (b.modSort f).notices = b.notices := rfl
@[simp] theorem Bolov.modSort_issued (f : SortState → SortState) (b : Bolov) : (b.modSort f).issued = b.issued := rfl
@[simp] theorem Bolov.modSort_lanes (f : SortState → SortState) (b : Bolov) : (b.modSort f).lanes = b.lanes := rfl
@[simp] theorem Bolov.modSort_trg (f : SortState → SortState) (b : Bolov) : (b.modSort f).trg = b.trg := rfl
@[simp] theorem Bolov.modSort_rate (f : SortState → SortState) (b : Bolov) : (b.modSort f).rate = b.rate := rfl
@[simp] theorem Bolov.modSort_isu (f : SortState → SortState) (b : Bolov) : (b.modSort f).isu = b.isu := rfl
@[simp] theorem Bolov.modSort_pod (f : SortState → SortState) (b : Bolov) : (b.modSort f).pod = b.pod := rfl
@[simp] theorem Bolov.modSort_mere (f : SortState → SortState) (b : Bolov) : (b.modSort f).mere = b.mere := rfl
@[simp] theorem Bolov.modSort_tarn (f : SortState → SortState) (b : Bolov) : (b.modSort f).tarn = b.tarn := rfl
@[simp] theorem Bolov.modSort_cmt (f : SortState → SortState) (b : Bolov) : (b.modSort f).cmt = b.cmt := rfl
@[simp] theorem Bolov.modSort_pwr (f : SortState → SortState) (b : Bolov) : (b.modSort f).pwr = b.pwr := rfl
@[simp] theorem Bolov.modSort_mon (f : SortState → SortState) (b : Bolov) : (b.modSort f).mon = b.mon := rfl
@[simp] theorem Bolov.modSort_grd (f : SortState → SortState) (b : Bolov) : (b.modSort f).grd = b.grd := rfl
@[simp] theorem Bolov.modSort_sec (f : SortState → SortState) (b : Bolov) : (b.modSort f).sec = b.sec := rfl
@[simp] theorem Bolov.modSort_gateIn (f : SortState → SortState) (b : Bolov) : (b.modSort f).gateIn = b.gateIn := rfl

@[simp] theorem Bolov.modSlice_tick (n : Nat) (f : Slice → Slice) (b : Bolov) : (b.modSlice n f).tick = b.tick := rfl
@[simp] theorem Bolov.modSlice_up (n : Nat) (f : Slice → Slice) (b : Bolov) : (b.modSlice n f).up = b.up := rfl
@[simp] theorem Bolov.modSlice_regs (n : Nat) (f : Slice → Slice) (b : Bolov) : (b.modSlice n f).regs = b.regs := rfl
@[simp] theorem Bolov.modSlice_counters (n : Nat) (f : Slice → Slice) (b : Bolov) : (b.modSlice n f).counters = b.counters := rfl
@[simp] theorem Bolov.modSlice_hostLatch (n : Nat) (f : Slice → Slice) (b : Bolov) : (b.modSlice n f).hostLatch = b.hostLatch := rfl
@[simp] theorem Bolov.modSlice_coreLatch (n : Nat) (f : Slice → Slice) (b : Bolov) : (b.modSlice n f).coreLatch = b.coreLatch := rfl
@[simp] theorem Bolov.modSlice_heldLo (n : Nat) (f : Slice → Slice) (b : Bolov) : (b.modSlice n f).heldLo = b.heldLo := rfl
@[simp] theorem Bolov.modSlice_owed (n : Nat) (f : Slice → Slice) (b : Bolov) : (b.modSlice n f).owed = b.owed := rfl
@[simp] theorem Bolov.modSlice_logLost (n : Nat) (f : Slice → Slice) (b : Bolov) : (b.modSlice n f).logLost = b.logLost := rfl
@[simp] theorem Bolov.modSlice_binIbi (n : Nat) (f : Slice → Slice) (b : Bolov) : (b.modSlice n f).binIbi = b.binIbi := rfl
@[simp] theorem Bolov.modSlice_queues (n : Nat) (f : Slice → Slice) (b : Bolov) : (b.modSlice n f).queues = b.queues := rfl
@[simp] theorem Bolov.modSlice_i3c (n : Nat) (f : Slice → Slice) (b : Bolov) : (b.modSlice n f).i3c = b.i3c := rfl
@[simp] theorem Bolov.modSlice_windows (n : Nat) (f : Slice → Slice) (b : Bolov) : (b.modSlice n f).windows = b.windows := rfl
@[simp] theorem Bolov.modSlice_rmt (n : Nat) (f : Slice → Slice) (b : Bolov) : (b.modSlice n f).rmt = b.rmt := rfl
@[simp] theorem Bolov.modSlice_time (n : Nat) (f : Slice → Slice) (b : Bolov) : (b.modSlice n f).time = b.time := rfl
@[simp] theorem Bolov.modSlice_ptp (n : Nat) (f : Slice → Slice) (b : Bolov) : (b.modSlice n f).ptp = b.ptp := rfl
@[simp] theorem Bolov.modSlice_ports (n : Nat) (f : Slice → Slice) (b : Bolov) : (b.modSlice n f).ports = b.ports := rfl
@[simp] theorem Bolov.modSlice_notices (n : Nat) (f : Slice → Slice) (b : Bolov) : (b.modSlice n f).notices = b.notices := rfl
@[simp] theorem Bolov.modSlice_issued (n : Nat) (f : Slice → Slice) (b : Bolov) : (b.modSlice n f).issued = b.issued := rfl
@[simp] theorem Bolov.modSlice_lanes (n : Nat) (f : Slice → Slice) (b : Bolov) : (b.modSlice n f).lanes = b.lanes := rfl
@[simp] theorem Bolov.modSlice_trg (n : Nat) (f : Slice → Slice) (b : Bolov) : (b.modSlice n f).trg = b.trg := rfl
@[simp] theorem Bolov.modSlice_rate (n : Nat) (f : Slice → Slice) (b : Bolov) : (b.modSlice n f).rate = b.rate := rfl
@[simp] theorem Bolov.modSlice_isu (n : Nat) (f : Slice → Slice) (b : Bolov) : (b.modSlice n f).isu = b.isu := rfl
@[simp] theorem Bolov.modSlice_pod (n : Nat) (f : Slice → Slice) (b : Bolov) : (b.modSlice n f).pod = b.pod := rfl
@[simp] theorem Bolov.modSlice_mere (n : Nat) (f : Slice → Slice) (b : Bolov) : (b.modSlice n f).mere = b.mere := rfl
@[simp] theorem Bolov.modSlice_tarn (n : Nat) (f : Slice → Slice) (b : Bolov) : (b.modSlice n f).tarn = b.tarn := rfl
@[simp] theorem Bolov.modSlice_cmt (n : Nat) (f : Slice → Slice) (b : Bolov) : (b.modSlice n f).cmt = b.cmt := rfl
@[simp] theorem Bolov.modSlice_pwr (n : Nat) (f : Slice → Slice) (b : Bolov) : (b.modSlice n f).pwr = b.pwr := rfl
@[simp] theorem Bolov.modSlice_mon (n : Nat) (f : Slice → Slice) (b : Bolov) : (b.modSlice n f).mon = b.mon := rfl
@[simp] theorem Bolov.modSlice_grd (n : Nat) (f : Slice → Slice) (b : Bolov) : (b.modSlice n f).grd = b.grd := rfl
@[simp] theorem Bolov.modSlice_sec (n : Nat) (f : Slice → Slice) (b : Bolov) : (b.modSlice n f).sec = b.sec := rfl
@[simp] theorem Bolov.modSlice_gateIn (n : Nat) (f : Slice → Slice) (b : Bolov) : (b.modSlice n f).gateIn = b.gateIn := rfl

@[simp] theorem Bolov.modCtx_tick (i : Nat) (f : BitVec 128 → BitVec 128) (b : Bolov) : (b.modCtx i f).tick = b.tick := rfl
@[simp] theorem Bolov.modCtx_up (i : Nat) (f : BitVec 128 → BitVec 128) (b : Bolov) : (b.modCtx i f).up = b.up := rfl
@[simp] theorem Bolov.modCtx_regs (i : Nat) (f : BitVec 128 → BitVec 128) (b : Bolov) : (b.modCtx i f).regs = b.regs := rfl
@[simp] theorem Bolov.modCtx_counters (i : Nat) (f : BitVec 128 → BitVec 128) (b : Bolov) : (b.modCtx i f).counters = b.counters := rfl
@[simp] theorem Bolov.modCtx_hostLatch (i : Nat) (f : BitVec 128 → BitVec 128) (b : Bolov) : (b.modCtx i f).hostLatch = b.hostLatch := rfl
@[simp] theorem Bolov.modCtx_coreLatch (i : Nat) (f : BitVec 128 → BitVec 128) (b : Bolov) : (b.modCtx i f).coreLatch = b.coreLatch := rfl
@[simp] theorem Bolov.modCtx_heldLo (i : Nat) (f : BitVec 128 → BitVec 128) (b : Bolov) : (b.modCtx i f).heldLo = b.heldLo := rfl
@[simp] theorem Bolov.modCtx_owed (i : Nat) (f : BitVec 128 → BitVec 128) (b : Bolov) : (b.modCtx i f).owed = b.owed := rfl
@[simp] theorem Bolov.modCtx_logLost (i : Nat) (f : BitVec 128 → BitVec 128) (b : Bolov) : (b.modCtx i f).logLost = b.logLost := rfl
@[simp] theorem Bolov.modCtx_binIbi (i : Nat) (f : BitVec 128 → BitVec 128) (b : Bolov) : (b.modCtx i f).binIbi = b.binIbi := rfl
@[simp] theorem Bolov.modCtx_queues (i : Nat) (f : BitVec 128 → BitVec 128) (b : Bolov) : (b.modCtx i f).queues = b.queues := rfl
@[simp] theorem Bolov.modCtx_i3c (i : Nat) (f : BitVec 128 → BitVec 128) (b : Bolov) : (b.modCtx i f).i3c = b.i3c := rfl
@[simp] theorem Bolov.modCtx_windows (i : Nat) (f : BitVec 128 → BitVec 128) (b : Bolov) : (b.modCtx i f).windows = b.windows := rfl
@[simp] theorem Bolov.modCtx_rmt (i : Nat) (f : BitVec 128 → BitVec 128) (b : Bolov) : (b.modCtx i f).rmt = b.rmt := rfl
@[simp] theorem Bolov.modCtx_time (i : Nat) (f : BitVec 128 → BitVec 128) (b : Bolov) : (b.modCtx i f).time = b.time := rfl
@[simp] theorem Bolov.modCtx_ptp (i : Nat) (f : BitVec 128 → BitVec 128) (b : Bolov) : (b.modCtx i f).ptp = b.ptp := rfl
@[simp] theorem Bolov.modCtx_ports (i : Nat) (f : BitVec 128 → BitVec 128) (b : Bolov) : (b.modCtx i f).ports = b.ports := rfl
@[simp] theorem Bolov.modCtx_notices (i : Nat) (f : BitVec 128 → BitVec 128) (b : Bolov) : (b.modCtx i f).notices = b.notices := rfl
@[simp] theorem Bolov.modCtx_issued (i : Nat) (f : BitVec 128 → BitVec 128) (b : Bolov) : (b.modCtx i f).issued = b.issued := rfl
@[simp] theorem Bolov.modCtx_lanes (i : Nat) (f : BitVec 128 → BitVec 128) (b : Bolov) : (b.modCtx i f).lanes = b.lanes := rfl
@[simp] theorem Bolov.modCtx_trg (i : Nat) (f : BitVec 128 → BitVec 128) (b : Bolov) : (b.modCtx i f).trg = b.trg := rfl
@[simp] theorem Bolov.modCtx_rate (i : Nat) (f : BitVec 128 → BitVec 128) (b : Bolov) : (b.modCtx i f).rate = b.rate := rfl
@[simp] theorem Bolov.modCtx_isu (i : Nat) (f : BitVec 128 → BitVec 128) (b : Bolov) : (b.modCtx i f).isu = b.isu := rfl
@[simp] theorem Bolov.modCtx_pod (i : Nat) (f : BitVec 128 → BitVec 128) (b : Bolov) : (b.modCtx i f).pod = b.pod := rfl
@[simp] theorem Bolov.modCtx_mere (i : Nat) (f : BitVec 128 → BitVec 128) (b : Bolov) : (b.modCtx i f).mere = b.mere := rfl
@[simp] theorem Bolov.modCtx_tarn (i : Nat) (f : BitVec 128 → BitVec 128) (b : Bolov) : (b.modCtx i f).tarn = b.tarn := rfl
@[simp] theorem Bolov.modCtx_cmt (i : Nat) (f : BitVec 128 → BitVec 128) (b : Bolov) : (b.modCtx i f).cmt = b.cmt := rfl
@[simp] theorem Bolov.modCtx_pwr (i : Nat) (f : BitVec 128 → BitVec 128) (b : Bolov) : (b.modCtx i f).pwr = b.pwr := rfl
@[simp] theorem Bolov.modCtx_mon (i : Nat) (f : BitVec 128 → BitVec 128) (b : Bolov) : (b.modCtx i f).mon = b.mon := rfl
@[simp] theorem Bolov.modCtx_grd (i : Nat) (f : BitVec 128 → BitVec 128) (b : Bolov) : (b.modCtx i f).grd = b.grd := rfl
@[simp] theorem Bolov.modCtx_sec (i : Nat) (f : BitVec 128 → BitVec 128) (b : Bolov) : (b.modCtx i f).sec = b.sec := rfl
@[simp] theorem Bolov.modCtx_gateIn (i : Nat) (f : BitVec 128 → BitVec 128) (b : Bolov) : (b.modCtx i f).gateIn = b.gateIn := rfl

@[simp] theorem Bolov.notice_tick (l : List W64) (t : Option Tick) (b : Bolov) : (b.notice l t).tick = b.tick := rfl
@[simp] theorem Bolov.notice_up (l : List W64) (t : Option Tick) (b : Bolov) : (b.notice l t).up = b.up := rfl
@[simp] theorem Bolov.notice_regs (l : List W64) (t : Option Tick) (b : Bolov) : (b.notice l t).regs = b.regs := rfl
@[simp] theorem Bolov.notice_counters (l : List W64) (t : Option Tick) (b : Bolov) : (b.notice l t).counters = b.counters := rfl
@[simp] theorem Bolov.notice_hostLatch (l : List W64) (t : Option Tick) (b : Bolov) : (b.notice l t).hostLatch = b.hostLatch := rfl
@[simp] theorem Bolov.notice_coreLatch (l : List W64) (t : Option Tick) (b : Bolov) : (b.notice l t).coreLatch = b.coreLatch := rfl
@[simp] theorem Bolov.notice_heldLo (l : List W64) (t : Option Tick) (b : Bolov) : (b.notice l t).heldLo = b.heldLo := rfl
@[simp] theorem Bolov.notice_owed (l : List W64) (t : Option Tick) (b : Bolov) : (b.notice l t).owed = b.owed := rfl
@[simp] theorem Bolov.notice_logLost (l : List W64) (t : Option Tick) (b : Bolov) : (b.notice l t).logLost = b.logLost := rfl
@[simp] theorem Bolov.notice_binIbi (l : List W64) (t : Option Tick) (b : Bolov) : (b.notice l t).binIbi = b.binIbi := rfl
@[simp] theorem Bolov.notice_queues (l : List W64) (t : Option Tick) (b : Bolov) : (b.notice l t).queues = b.queues := rfl
@[simp] theorem Bolov.notice_i3c (l : List W64) (t : Option Tick) (b : Bolov) : (b.notice l t).i3c = b.i3c := rfl
@[simp] theorem Bolov.notice_windows (l : List W64) (t : Option Tick) (b : Bolov) : (b.notice l t).windows = b.windows := rfl
@[simp] theorem Bolov.notice_rmt (l : List W64) (t : Option Tick) (b : Bolov) : (b.notice l t).rmt = b.rmt := rfl
@[simp] theorem Bolov.notice_time (l : List W64) (t : Option Tick) (b : Bolov) : (b.notice l t).time = b.time := rfl
@[simp] theorem Bolov.notice_ptp (l : List W64) (t : Option Tick) (b : Bolov) : (b.notice l t).ptp = b.ptp := rfl
@[simp] theorem Bolov.notice_ports (l : List W64) (t : Option Tick) (b : Bolov) : (b.notice l t).ports = b.ports := rfl
@[simp] theorem Bolov.notice_sort (l : List W64) (t : Option Tick) (b : Bolov) : (b.notice l t).sort = b.sort := rfl
@[simp] theorem Bolov.notice_issued (l : List W64) (t : Option Tick) (b : Bolov) : (b.notice l t).issued = b.issued := rfl
@[simp] theorem Bolov.notice_lanes (l : List W64) (t : Option Tick) (b : Bolov) : (b.notice l t).lanes = b.lanes := rfl
@[simp] theorem Bolov.notice_trg (l : List W64) (t : Option Tick) (b : Bolov) : (b.notice l t).trg = b.trg := rfl
@[simp] theorem Bolov.notice_rate (l : List W64) (t : Option Tick) (b : Bolov) : (b.notice l t).rate = b.rate := rfl
@[simp] theorem Bolov.notice_isu (l : List W64) (t : Option Tick) (b : Bolov) : (b.notice l t).isu = b.isu := rfl
@[simp] theorem Bolov.notice_pod (l : List W64) (t : Option Tick) (b : Bolov) : (b.notice l t).pod = b.pod := rfl
@[simp] theorem Bolov.notice_mere (l : List W64) (t : Option Tick) (b : Bolov) : (b.notice l t).mere = b.mere := rfl
@[simp] theorem Bolov.notice_tarn (l : List W64) (t : Option Tick) (b : Bolov) : (b.notice l t).tarn = b.tarn := rfl
@[simp] theorem Bolov.notice_cmt (l : List W64) (t : Option Tick) (b : Bolov) : (b.notice l t).cmt = b.cmt := rfl
@[simp] theorem Bolov.notice_pwr (l : List W64) (t : Option Tick) (b : Bolov) : (b.notice l t).pwr = b.pwr := rfl
@[simp] theorem Bolov.notice_mon (l : List W64) (t : Option Tick) (b : Bolov) : (b.notice l t).mon = b.mon := rfl
@[simp] theorem Bolov.notice_grd (l : List W64) (t : Option Tick) (b : Bolov) : (b.notice l t).grd = b.grd := rfl
@[simp] theorem Bolov.notice_sec (l : List W64) (t : Option Tick) (b : Bolov) : (b.notice l t).sec = b.sec := rfl
@[simp] theorem Bolov.notice_gateIn (l : List W64) (t : Option Tick) (b : Bolov) : (b.notice l t).gateIn = b.gateIn := rfl

@[simp] theorem Bolov.modI3c_tick (f : I3cState → I3cState) (b : Bolov) : (b.modI3c f).tick = b.tick := rfl
@[simp] theorem Bolov.modI3c_up (f : I3cState → I3cState) (b : Bolov) : (b.modI3c f).up = b.up := rfl
@[simp] theorem Bolov.modI3c_regs (f : I3cState → I3cState) (b : Bolov) : (b.modI3c f).regs = b.regs := rfl
@[simp] theorem Bolov.modI3c_counters (f : I3cState → I3cState) (b : Bolov) : (b.modI3c f).counters = b.counters := rfl
@[simp] theorem Bolov.modI3c_hostLatch (f : I3cState → I3cState) (b : Bolov) : (b.modI3c f).hostLatch = b.hostLatch := rfl
@[simp] theorem Bolov.modI3c_coreLatch (f : I3cState → I3cState) (b : Bolov) : (b.modI3c f).coreLatch = b.coreLatch := rfl
@[simp] theorem Bolov.modI3c_heldLo (f : I3cState → I3cState) (b : Bolov) : (b.modI3c f).heldLo = b.heldLo := rfl
@[simp] theorem Bolov.modI3c_owed (f : I3cState → I3cState) (b : Bolov) : (b.modI3c f).owed = b.owed := rfl
@[simp] theorem Bolov.modI3c_logLost (f : I3cState → I3cState) (b : Bolov) : (b.modI3c f).logLost = b.logLost := rfl
@[simp] theorem Bolov.modI3c_binIbi (f : I3cState → I3cState) (b : Bolov) : (b.modI3c f).binIbi = b.binIbi := rfl
@[simp] theorem Bolov.modI3c_queues (f : I3cState → I3cState) (b : Bolov) : (b.modI3c f).queues = b.queues := rfl
@[simp] theorem Bolov.modI3c_i3c (f : I3cState → I3cState) (b : Bolov) : (b.modI3c f).i3c = f b.i3c := rfl
@[simp] theorem Bolov.modI3c_windows (f : I3cState → I3cState) (b : Bolov) : (b.modI3c f).windows = b.windows := rfl
@[simp] theorem Bolov.modI3c_rmt (f : I3cState → I3cState) (b : Bolov) : (b.modI3c f).rmt = b.rmt := rfl
@[simp] theorem Bolov.modI3c_time (f : I3cState → I3cState) (b : Bolov) : (b.modI3c f).time = b.time := rfl
@[simp] theorem Bolov.modI3c_ptp (f : I3cState → I3cState) (b : Bolov) : (b.modI3c f).ptp = b.ptp := rfl
@[simp] theorem Bolov.modI3c_ports (f : I3cState → I3cState) (b : Bolov) : (b.modI3c f).ports = b.ports := rfl
@[simp] theorem Bolov.modI3c_sort (f : I3cState → I3cState) (b : Bolov) : (b.modI3c f).sort = b.sort := rfl
@[simp] theorem Bolov.modI3c_notices (f : I3cState → I3cState) (b : Bolov) : (b.modI3c f).notices = b.notices := rfl
@[simp] theorem Bolov.modI3c_issued (f : I3cState → I3cState) (b : Bolov) : (b.modI3c f).issued = b.issued := rfl
@[simp] theorem Bolov.modI3c_lanes (f : I3cState → I3cState) (b : Bolov) : (b.modI3c f).lanes = b.lanes := rfl
@[simp] theorem Bolov.modI3c_trg (f : I3cState → I3cState) (b : Bolov) : (b.modI3c f).trg = b.trg := rfl
@[simp] theorem Bolov.modI3c_rate (f : I3cState → I3cState) (b : Bolov) : (b.modI3c f).rate = b.rate := rfl
@[simp] theorem Bolov.modI3c_isu (f : I3cState → I3cState) (b : Bolov) : (b.modI3c f).isu = b.isu := rfl
@[simp] theorem Bolov.modI3c_pod (f : I3cState → I3cState) (b : Bolov) : (b.modI3c f).pod = b.pod := rfl
@[simp] theorem Bolov.modI3c_mere (f : I3cState → I3cState) (b : Bolov) : (b.modI3c f).mere = b.mere := rfl
@[simp] theorem Bolov.modI3c_tarn (f : I3cState → I3cState) (b : Bolov) : (b.modI3c f).tarn = b.tarn := rfl
@[simp] theorem Bolov.modI3c_cmt (f : I3cState → I3cState) (b : Bolov) : (b.modI3c f).cmt = b.cmt := rfl
@[simp] theorem Bolov.modI3c_pwr (f : I3cState → I3cState) (b : Bolov) : (b.modI3c f).pwr = b.pwr := rfl
@[simp] theorem Bolov.modI3c_mon (f : I3cState → I3cState) (b : Bolov) : (b.modI3c f).mon = b.mon := rfl
@[simp] theorem Bolov.modI3c_grd (f : I3cState → I3cState) (b : Bolov) : (b.modI3c f).grd = b.grd := rfl
@[simp] theorem Bolov.modI3c_sec (f : I3cState → I3cState) (b : Bolov) : (b.modI3c f).sec = b.sec := rfl
@[simp] theorem Bolov.modI3c_gateIn (f : I3cState → I3cState) (b : Bolov) : (b.modI3c f).gateIn = b.gateIn := rfl

@[simp] theorem Bolov.modGrd_tick (f : GuardState → GuardState) (b : Bolov) : (b.modGrd f).tick = b.tick := rfl
@[simp] theorem Bolov.modGrd_up (f : GuardState → GuardState) (b : Bolov) : (b.modGrd f).up = b.up := rfl
@[simp] theorem Bolov.modGrd_regs (f : GuardState → GuardState) (b : Bolov) : (b.modGrd f).regs = b.regs := rfl
@[simp] theorem Bolov.modGrd_counters (f : GuardState → GuardState) (b : Bolov) : (b.modGrd f).counters = b.counters := rfl
@[simp] theorem Bolov.modGrd_hostLatch (f : GuardState → GuardState) (b : Bolov) : (b.modGrd f).hostLatch = b.hostLatch := rfl
@[simp] theorem Bolov.modGrd_coreLatch (f : GuardState → GuardState) (b : Bolov) : (b.modGrd f).coreLatch = b.coreLatch := rfl
@[simp] theorem Bolov.modGrd_heldLo (f : GuardState → GuardState) (b : Bolov) : (b.modGrd f).heldLo = b.heldLo := rfl
@[simp] theorem Bolov.modGrd_owed (f : GuardState → GuardState) (b : Bolov) : (b.modGrd f).owed = b.owed := rfl
@[simp] theorem Bolov.modGrd_logLost (f : GuardState → GuardState) (b : Bolov) : (b.modGrd f).logLost = b.logLost := rfl
@[simp] theorem Bolov.modGrd_binIbi (f : GuardState → GuardState) (b : Bolov) : (b.modGrd f).binIbi = b.binIbi := rfl
@[simp] theorem Bolov.modGrd_queues (f : GuardState → GuardState) (b : Bolov) : (b.modGrd f).queues = b.queues := rfl
@[simp] theorem Bolov.modGrd_i3c (f : GuardState → GuardState) (b : Bolov) : (b.modGrd f).i3c = b.i3c := rfl
@[simp] theorem Bolov.modGrd_windows (f : GuardState → GuardState) (b : Bolov) : (b.modGrd f).windows = b.windows := rfl
@[simp] theorem Bolov.modGrd_rmt (f : GuardState → GuardState) (b : Bolov) : (b.modGrd f).rmt = b.rmt := rfl
@[simp] theorem Bolov.modGrd_time (f : GuardState → GuardState) (b : Bolov) : (b.modGrd f).time = b.time := rfl
@[simp] theorem Bolov.modGrd_ptp (f : GuardState → GuardState) (b : Bolov) : (b.modGrd f).ptp = b.ptp := rfl
@[simp] theorem Bolov.modGrd_ports (f : GuardState → GuardState) (b : Bolov) : (b.modGrd f).ports = b.ports := rfl
@[simp] theorem Bolov.modGrd_sort (f : GuardState → GuardState) (b : Bolov) : (b.modGrd f).sort = b.sort := rfl
@[simp] theorem Bolov.modGrd_notices (f : GuardState → GuardState) (b : Bolov) : (b.modGrd f).notices = b.notices := rfl
@[simp] theorem Bolov.modGrd_issued (f : GuardState → GuardState) (b : Bolov) : (b.modGrd f).issued = b.issued := rfl
@[simp] theorem Bolov.modGrd_lanes (f : GuardState → GuardState) (b : Bolov) : (b.modGrd f).lanes = b.lanes := rfl
@[simp] theorem Bolov.modGrd_trg (f : GuardState → GuardState) (b : Bolov) : (b.modGrd f).trg = b.trg := rfl
@[simp] theorem Bolov.modGrd_rate (f : GuardState → GuardState) (b : Bolov) : (b.modGrd f).rate = b.rate := rfl
@[simp] theorem Bolov.modGrd_isu (f : GuardState → GuardState) (b : Bolov) : (b.modGrd f).isu = b.isu := rfl
@[simp] theorem Bolov.modGrd_pod (f : GuardState → GuardState) (b : Bolov) : (b.modGrd f).pod = b.pod := rfl
@[simp] theorem Bolov.modGrd_mere (f : GuardState → GuardState) (b : Bolov) : (b.modGrd f).mere = b.mere := rfl
@[simp] theorem Bolov.modGrd_tarn (f : GuardState → GuardState) (b : Bolov) : (b.modGrd f).tarn = b.tarn := rfl
@[simp] theorem Bolov.modGrd_cmt (f : GuardState → GuardState) (b : Bolov) : (b.modGrd f).cmt = b.cmt := rfl
@[simp] theorem Bolov.modGrd_pwr (f : GuardState → GuardState) (b : Bolov) : (b.modGrd f).pwr = b.pwr := rfl
@[simp] theorem Bolov.modGrd_mon (f : GuardState → GuardState) (b : Bolov) : (b.modGrd f).mon = b.mon := rfl
@[simp] theorem Bolov.modGrd_grd (f : GuardState → GuardState) (b : Bolov) : (b.modGrd f).grd = f b.grd := rfl
@[simp] theorem Bolov.modGrd_sec (f : GuardState → GuardState) (b : Bolov) : (b.modGrd f).sec = b.sec := rfl
@[simp] theorem Bolov.modGrd_gateIn (f : GuardState → GuardState) (b : Bolov) : (b.modGrd f).gateIn = b.gateIn := rfl

@[simp] theorem Bolov.modUnit_tick (n : Fin 4) (f : IsUnit → IsUnit) (b : Bolov) : (b.modUnit n f).tick = b.tick := rfl
@[simp] theorem Bolov.modUnit_up (n : Fin 4) (f : IsUnit → IsUnit) (b : Bolov) : (b.modUnit n f).up = b.up := rfl
@[simp] theorem Bolov.modUnit_regs (n : Fin 4) (f : IsUnit → IsUnit) (b : Bolov) : (b.modUnit n f).regs = b.regs := rfl
@[simp] theorem Bolov.modUnit_counters (n : Fin 4) (f : IsUnit → IsUnit) (b : Bolov) : (b.modUnit n f).counters = b.counters := rfl
@[simp] theorem Bolov.modUnit_hostLatch (n : Fin 4) (f : IsUnit → IsUnit) (b : Bolov) : (b.modUnit n f).hostLatch = b.hostLatch := rfl
@[simp] theorem Bolov.modUnit_coreLatch (n : Fin 4) (f : IsUnit → IsUnit) (b : Bolov) : (b.modUnit n f).coreLatch = b.coreLatch := rfl
@[simp] theorem Bolov.modUnit_heldLo (n : Fin 4) (f : IsUnit → IsUnit) (b : Bolov) : (b.modUnit n f).heldLo = b.heldLo := rfl
@[simp] theorem Bolov.modUnit_owed (n : Fin 4) (f : IsUnit → IsUnit) (b : Bolov) : (b.modUnit n f).owed = b.owed := rfl
@[simp] theorem Bolov.modUnit_logLost (n : Fin 4) (f : IsUnit → IsUnit) (b : Bolov) : (b.modUnit n f).logLost = b.logLost := rfl
@[simp] theorem Bolov.modUnit_binIbi (n : Fin 4) (f : IsUnit → IsUnit) (b : Bolov) : (b.modUnit n f).binIbi = b.binIbi := rfl
@[simp] theorem Bolov.modUnit_queues (n : Fin 4) (f : IsUnit → IsUnit) (b : Bolov) : (b.modUnit n f).queues = b.queues := rfl
@[simp] theorem Bolov.modUnit_i3c (n : Fin 4) (f : IsUnit → IsUnit) (b : Bolov) : (b.modUnit n f).i3c = b.i3c := rfl
@[simp] theorem Bolov.modUnit_windows (n : Fin 4) (f : IsUnit → IsUnit) (b : Bolov) : (b.modUnit n f).windows = b.windows := rfl
@[simp] theorem Bolov.modUnit_rmt (n : Fin 4) (f : IsUnit → IsUnit) (b : Bolov) : (b.modUnit n f).rmt = b.rmt := rfl
@[simp] theorem Bolov.modUnit_time (n : Fin 4) (f : IsUnit → IsUnit) (b : Bolov) : (b.modUnit n f).time = b.time := rfl
@[simp] theorem Bolov.modUnit_ptp (n : Fin 4) (f : IsUnit → IsUnit) (b : Bolov) : (b.modUnit n f).ptp = b.ptp := rfl
@[simp] theorem Bolov.modUnit_ports (n : Fin 4) (f : IsUnit → IsUnit) (b : Bolov) : (b.modUnit n f).ports = b.ports := rfl
@[simp] theorem Bolov.modUnit_sort (n : Fin 4) (f : IsUnit → IsUnit) (b : Bolov) : (b.modUnit n f).sort = b.sort := rfl
@[simp] theorem Bolov.modUnit_notices (n : Fin 4) (f : IsUnit → IsUnit) (b : Bolov) : (b.modUnit n f).notices = b.notices := rfl
@[simp] theorem Bolov.modUnit_issued (n : Fin 4) (f : IsUnit → IsUnit) (b : Bolov) : (b.modUnit n f).issued = b.issued := rfl
@[simp] theorem Bolov.modUnit_lanes (n : Fin 4) (f : IsUnit → IsUnit) (b : Bolov) : (b.modUnit n f).lanes = b.lanes := rfl
@[simp] theorem Bolov.modUnit_trg (n : Fin 4) (f : IsUnit → IsUnit) (b : Bolov) : (b.modUnit n f).trg = b.trg := rfl
@[simp] theorem Bolov.modUnit_rate (n : Fin 4) (f : IsUnit → IsUnit) (b : Bolov) : (b.modUnit n f).rate = b.rate := rfl
@[simp] theorem Bolov.modUnit_isu (n : Fin 4) (f : IsUnit → IsUnit) (b : Bolov) : (b.modUnit n f).isu = b.isu.set n (f b.isu[n]) := rfl
@[simp] theorem Bolov.modUnit_pod (n : Fin 4) (f : IsUnit → IsUnit) (b : Bolov) : (b.modUnit n f).pod = b.pod := rfl
@[simp] theorem Bolov.modUnit_mere (n : Fin 4) (f : IsUnit → IsUnit) (b : Bolov) : (b.modUnit n f).mere = b.mere := rfl
@[simp] theorem Bolov.modUnit_tarn (n : Fin 4) (f : IsUnit → IsUnit) (b : Bolov) : (b.modUnit n f).tarn = b.tarn := rfl
@[simp] theorem Bolov.modUnit_cmt (n : Fin 4) (f : IsUnit → IsUnit) (b : Bolov) : (b.modUnit n f).cmt = b.cmt := rfl
@[simp] theorem Bolov.modUnit_pwr (n : Fin 4) (f : IsUnit → IsUnit) (b : Bolov) : (b.modUnit n f).pwr = b.pwr := rfl
@[simp] theorem Bolov.modUnit_mon (n : Fin 4) (f : IsUnit → IsUnit) (b : Bolov) : (b.modUnit n f).mon = b.mon := rfl
@[simp] theorem Bolov.modUnit_grd (n : Fin 4) (f : IsUnit → IsUnit) (b : Bolov) : (b.modUnit n f).grd = b.grd := rfl
@[simp] theorem Bolov.modUnit_sec (n : Fin 4) (f : IsUnit → IsUnit) (b : Bolov) : (b.modUnit n f).sec = b.sec := rfl
@[simp] theorem Bolov.modUnit_gateIn (n : Fin 4) (f : IsUnit → IsUnit) (b : Bolov) : (b.modUnit n f).gateIn = b.gateIn := rfl

@[simp] theorem Bolov.modMere_tick (f : MereState → MereState) (b : Bolov) : (b.modMere f).tick = b.tick := rfl
@[simp] theorem Bolov.modMere_up (f : MereState → MereState) (b : Bolov) : (b.modMere f).up = b.up := rfl
@[simp] theorem Bolov.modMere_regs (f : MereState → MereState) (b : Bolov) : (b.modMere f).regs = b.regs := rfl
@[simp] theorem Bolov.modMere_counters (f : MereState → MereState) (b : Bolov) : (b.modMere f).counters = b.counters := rfl
@[simp] theorem Bolov.modMere_hostLatch (f : MereState → MereState) (b : Bolov) : (b.modMere f).hostLatch = b.hostLatch := rfl
@[simp] theorem Bolov.modMere_coreLatch (f : MereState → MereState) (b : Bolov) : (b.modMere f).coreLatch = b.coreLatch := rfl
@[simp] theorem Bolov.modMere_heldLo (f : MereState → MereState) (b : Bolov) : (b.modMere f).heldLo = b.heldLo := rfl
@[simp] theorem Bolov.modMere_owed (f : MereState → MereState) (b : Bolov) : (b.modMere f).owed = b.owed := rfl
@[simp] theorem Bolov.modMere_logLost (f : MereState → MereState) (b : Bolov) : (b.modMere f).logLost = b.logLost := rfl
@[simp] theorem Bolov.modMere_binIbi (f : MereState → MereState) (b : Bolov) : (b.modMere f).binIbi = b.binIbi := rfl
@[simp] theorem Bolov.modMere_queues (f : MereState → MereState) (b : Bolov) : (b.modMere f).queues = b.queues := rfl
@[simp] theorem Bolov.modMere_i3c (f : MereState → MereState) (b : Bolov) : (b.modMere f).i3c = b.i3c := rfl
@[simp] theorem Bolov.modMere_windows (f : MereState → MereState) (b : Bolov) : (b.modMere f).windows = b.windows := rfl
@[simp] theorem Bolov.modMere_rmt (f : MereState → MereState) (b : Bolov) : (b.modMere f).rmt = b.rmt := rfl
@[simp] theorem Bolov.modMere_time (f : MereState → MereState) (b : Bolov) : (b.modMere f).time = b.time := rfl
@[simp] theorem Bolov.modMere_ptp (f : MereState → MereState) (b : Bolov) : (b.modMere f).ptp = b.ptp := rfl
@[simp] theorem Bolov.modMere_ports (f : MereState → MereState) (b : Bolov) : (b.modMere f).ports = b.ports := rfl
@[simp] theorem Bolov.modMere_sort (f : MereState → MereState) (b : Bolov) : (b.modMere f).sort = b.sort := rfl
@[simp] theorem Bolov.modMere_notices (f : MereState → MereState) (b : Bolov) : (b.modMere f).notices = b.notices := rfl
@[simp] theorem Bolov.modMere_issued (f : MereState → MereState) (b : Bolov) : (b.modMere f).issued = b.issued := rfl
@[simp] theorem Bolov.modMere_lanes (f : MereState → MereState) (b : Bolov) : (b.modMere f).lanes = b.lanes := rfl
@[simp] theorem Bolov.modMere_trg (f : MereState → MereState) (b : Bolov) : (b.modMere f).trg = b.trg := rfl
@[simp] theorem Bolov.modMere_rate (f : MereState → MereState) (b : Bolov) : (b.modMere f).rate = b.rate := rfl
@[simp] theorem Bolov.modMere_isu (f : MereState → MereState) (b : Bolov) : (b.modMere f).isu = b.isu := rfl
@[simp] theorem Bolov.modMere_pod (f : MereState → MereState) (b : Bolov) : (b.modMere f).pod = b.pod := rfl
@[simp] theorem Bolov.modMere_mere (f : MereState → MereState) (b : Bolov) : (b.modMere f).mere = f b.mere := rfl
@[simp] theorem Bolov.modMere_tarn (f : MereState → MereState) (b : Bolov) : (b.modMere f).tarn = b.tarn := rfl
@[simp] theorem Bolov.modMere_cmt (f : MereState → MereState) (b : Bolov) : (b.modMere f).cmt = b.cmt := rfl
@[simp] theorem Bolov.modMere_pwr (f : MereState → MereState) (b : Bolov) : (b.modMere f).pwr = b.pwr := rfl
@[simp] theorem Bolov.modMere_mon (f : MereState → MereState) (b : Bolov) : (b.modMere f).mon = b.mon := rfl
@[simp] theorem Bolov.modMere_grd (f : MereState → MereState) (b : Bolov) : (b.modMere f).grd = b.grd := rfl
@[simp] theorem Bolov.modMere_sec (f : MereState → MereState) (b : Bolov) : (b.modMere f).sec = b.sec := rfl
@[simp] theorem Bolov.modMere_gateIn (f : MereState → MereState) (b : Bolov) : (b.modMere f).gateIn = b.gateIn := rfl

@[simp] theorem Bolov.modCmt_tick (f : CommitState → CommitState) (b : Bolov) : (b.modCmt f).tick = b.tick := rfl
@[simp] theorem Bolov.modCmt_up (f : CommitState → CommitState) (b : Bolov) : (b.modCmt f).up = b.up := rfl
@[simp] theorem Bolov.modCmt_regs (f : CommitState → CommitState) (b : Bolov) : (b.modCmt f).regs = b.regs := rfl
@[simp] theorem Bolov.modCmt_counters (f : CommitState → CommitState) (b : Bolov) : (b.modCmt f).counters = b.counters := rfl
@[simp] theorem Bolov.modCmt_hostLatch (f : CommitState → CommitState) (b : Bolov) : (b.modCmt f).hostLatch = b.hostLatch := rfl
@[simp] theorem Bolov.modCmt_coreLatch (f : CommitState → CommitState) (b : Bolov) : (b.modCmt f).coreLatch = b.coreLatch := rfl
@[simp] theorem Bolov.modCmt_heldLo (f : CommitState → CommitState) (b : Bolov) : (b.modCmt f).heldLo = b.heldLo := rfl
@[simp] theorem Bolov.modCmt_owed (f : CommitState → CommitState) (b : Bolov) : (b.modCmt f).owed = b.owed := rfl
@[simp] theorem Bolov.modCmt_logLost (f : CommitState → CommitState) (b : Bolov) : (b.modCmt f).logLost = b.logLost := rfl
@[simp] theorem Bolov.modCmt_binIbi (f : CommitState → CommitState) (b : Bolov) : (b.modCmt f).binIbi = b.binIbi := rfl
@[simp] theorem Bolov.modCmt_queues (f : CommitState → CommitState) (b : Bolov) : (b.modCmt f).queues = b.queues := rfl
@[simp] theorem Bolov.modCmt_i3c (f : CommitState → CommitState) (b : Bolov) : (b.modCmt f).i3c = b.i3c := rfl
@[simp] theorem Bolov.modCmt_windows (f : CommitState → CommitState) (b : Bolov) : (b.modCmt f).windows = b.windows := rfl
@[simp] theorem Bolov.modCmt_rmt (f : CommitState → CommitState) (b : Bolov) : (b.modCmt f).rmt = b.rmt := rfl
@[simp] theorem Bolov.modCmt_time (f : CommitState → CommitState) (b : Bolov) : (b.modCmt f).time = b.time := rfl
@[simp] theorem Bolov.modCmt_ptp (f : CommitState → CommitState) (b : Bolov) : (b.modCmt f).ptp = b.ptp := rfl
@[simp] theorem Bolov.modCmt_ports (f : CommitState → CommitState) (b : Bolov) : (b.modCmt f).ports = b.ports := rfl
@[simp] theorem Bolov.modCmt_sort (f : CommitState → CommitState) (b : Bolov) : (b.modCmt f).sort = b.sort := rfl
@[simp] theorem Bolov.modCmt_notices (f : CommitState → CommitState) (b : Bolov) : (b.modCmt f).notices = b.notices := rfl
@[simp] theorem Bolov.modCmt_issued (f : CommitState → CommitState) (b : Bolov) : (b.modCmt f).issued = b.issued := rfl
@[simp] theorem Bolov.modCmt_lanes (f : CommitState → CommitState) (b : Bolov) : (b.modCmt f).lanes = b.lanes := rfl
@[simp] theorem Bolov.modCmt_trg (f : CommitState → CommitState) (b : Bolov) : (b.modCmt f).trg = b.trg := rfl
@[simp] theorem Bolov.modCmt_rate (f : CommitState → CommitState) (b : Bolov) : (b.modCmt f).rate = b.rate := rfl
@[simp] theorem Bolov.modCmt_isu (f : CommitState → CommitState) (b : Bolov) : (b.modCmt f).isu = b.isu := rfl
@[simp] theorem Bolov.modCmt_pod (f : CommitState → CommitState) (b : Bolov) : (b.modCmt f).pod = b.pod := rfl
@[simp] theorem Bolov.modCmt_mere (f : CommitState → CommitState) (b : Bolov) : (b.modCmt f).mere = b.mere := rfl
@[simp] theorem Bolov.modCmt_tarn (f : CommitState → CommitState) (b : Bolov) : (b.modCmt f).tarn = b.tarn := rfl
@[simp] theorem Bolov.modCmt_cmt (f : CommitState → CommitState) (b : Bolov) : (b.modCmt f).cmt = f b.cmt := rfl
@[simp] theorem Bolov.modCmt_pwr (f : CommitState → CommitState) (b : Bolov) : (b.modCmt f).pwr = b.pwr := rfl
@[simp] theorem Bolov.modCmt_mon (f : CommitState → CommitState) (b : Bolov) : (b.modCmt f).mon = b.mon := rfl
@[simp] theorem Bolov.modCmt_grd (f : CommitState → CommitState) (b : Bolov) : (b.modCmt f).grd = b.grd := rfl
@[simp] theorem Bolov.modCmt_sec (f : CommitState → CommitState) (b : Bolov) : (b.modCmt f).sec = b.sec := rfl
@[simp] theorem Bolov.modCmt_gateIn (f : CommitState → CommitState) (b : Bolov) : (b.modCmt f).gateIn = b.gateIn := rfl

@[simp] theorem Bolov.modStaged_tick (f : StagedSet → StagedSet) (b : Bolov) : (b.modStaged f).tick = b.tick := rfl
@[simp] theorem Bolov.modStaged_up (f : StagedSet → StagedSet) (b : Bolov) : (b.modStaged f).up = b.up := rfl
@[simp] theorem Bolov.modStaged_regs (f : StagedSet → StagedSet) (b : Bolov) : (b.modStaged f).regs = b.regs := rfl
@[simp] theorem Bolov.modStaged_counters (f : StagedSet → StagedSet) (b : Bolov) : (b.modStaged f).counters = b.counters := rfl
@[simp] theorem Bolov.modStaged_hostLatch (f : StagedSet → StagedSet) (b : Bolov) : (b.modStaged f).hostLatch = b.hostLatch := rfl
@[simp] theorem Bolov.modStaged_coreLatch (f : StagedSet → StagedSet) (b : Bolov) : (b.modStaged f).coreLatch = b.coreLatch := rfl
@[simp] theorem Bolov.modStaged_heldLo (f : StagedSet → StagedSet) (b : Bolov) : (b.modStaged f).heldLo = b.heldLo := rfl
@[simp] theorem Bolov.modStaged_owed (f : StagedSet → StagedSet) (b : Bolov) : (b.modStaged f).owed = b.owed := rfl
@[simp] theorem Bolov.modStaged_logLost (f : StagedSet → StagedSet) (b : Bolov) : (b.modStaged f).logLost = b.logLost := rfl
@[simp] theorem Bolov.modStaged_binIbi (f : StagedSet → StagedSet) (b : Bolov) : (b.modStaged f).binIbi = b.binIbi := rfl
@[simp] theorem Bolov.modStaged_queues (f : StagedSet → StagedSet) (b : Bolov) : (b.modStaged f).queues = b.queues := rfl
@[simp] theorem Bolov.modStaged_i3c (f : StagedSet → StagedSet) (b : Bolov) : (b.modStaged f).i3c = b.i3c := rfl
@[simp] theorem Bolov.modStaged_windows (f : StagedSet → StagedSet) (b : Bolov) : (b.modStaged f).windows = b.windows := rfl
@[simp] theorem Bolov.modStaged_rmt (f : StagedSet → StagedSet) (b : Bolov) : (b.modStaged f).rmt = b.rmt := rfl
@[simp] theorem Bolov.modStaged_time (f : StagedSet → StagedSet) (b : Bolov) : (b.modStaged f).time = b.time := rfl
@[simp] theorem Bolov.modStaged_ptp (f : StagedSet → StagedSet) (b : Bolov) : (b.modStaged f).ptp = b.ptp := rfl
@[simp] theorem Bolov.modStaged_ports (f : StagedSet → StagedSet) (b : Bolov) : (b.modStaged f).ports = b.ports := rfl
@[simp] theorem Bolov.modStaged_sort (f : StagedSet → StagedSet) (b : Bolov) : (b.modStaged f).sort = b.sort := rfl
@[simp] theorem Bolov.modStaged_notices (f : StagedSet → StagedSet) (b : Bolov) : (b.modStaged f).notices = b.notices := rfl
@[simp] theorem Bolov.modStaged_issued (f : StagedSet → StagedSet) (b : Bolov) : (b.modStaged f).issued = b.issued := rfl
@[simp] theorem Bolov.modStaged_lanes (f : StagedSet → StagedSet) (b : Bolov) : (b.modStaged f).lanes = b.lanes := rfl
@[simp] theorem Bolov.modStaged_trg (f : StagedSet → StagedSet) (b : Bolov) : (b.modStaged f).trg = b.trg := rfl
@[simp] theorem Bolov.modStaged_rate (f : StagedSet → StagedSet) (b : Bolov) : (b.modStaged f).rate = b.rate := rfl
@[simp] theorem Bolov.modStaged_isu (f : StagedSet → StagedSet) (b : Bolov) : (b.modStaged f).isu = b.isu := rfl
@[simp] theorem Bolov.modStaged_pod (f : StagedSet → StagedSet) (b : Bolov) : (b.modStaged f).pod = b.pod := rfl
@[simp] theorem Bolov.modStaged_mere (f : StagedSet → StagedSet) (b : Bolov) : (b.modStaged f).mere = b.mere := rfl
@[simp] theorem Bolov.modStaged_tarn (f : StagedSet → StagedSet) (b : Bolov) : (b.modStaged f).tarn = b.tarn := rfl
@[simp] theorem Bolov.modStaged_pwr (f : StagedSet → StagedSet) (b : Bolov) : (b.modStaged f).pwr = b.pwr := rfl
@[simp] theorem Bolov.modStaged_mon (f : StagedSet → StagedSet) (b : Bolov) : (b.modStaged f).mon = b.mon := rfl
@[simp] theorem Bolov.modStaged_grd (f : StagedSet → StagedSet) (b : Bolov) : (b.modStaged f).grd = b.grd := rfl
@[simp] theorem Bolov.modStaged_sec (f : StagedSet → StagedSet) (b : Bolov) : (b.modStaged f).sec = b.sec := rfl
@[simp] theorem Bolov.modStaged_gateIn (f : StagedSet → StagedSet) (b : Bolov) : (b.modStaged f).gateIn = b.gateIn := rfl

@[simp] theorem Bolov.modMon_tick (f : MonState → MonState) (b : Bolov) : (b.modMon f).tick = b.tick := rfl
@[simp] theorem Bolov.modMon_up (f : MonState → MonState) (b : Bolov) : (b.modMon f).up = b.up := rfl
@[simp] theorem Bolov.modMon_regs (f : MonState → MonState) (b : Bolov) : (b.modMon f).regs = b.regs := rfl
@[simp] theorem Bolov.modMon_counters (f : MonState → MonState) (b : Bolov) : (b.modMon f).counters = b.counters := rfl
@[simp] theorem Bolov.modMon_hostLatch (f : MonState → MonState) (b : Bolov) : (b.modMon f).hostLatch = b.hostLatch := rfl
@[simp] theorem Bolov.modMon_coreLatch (f : MonState → MonState) (b : Bolov) : (b.modMon f).coreLatch = b.coreLatch := rfl
@[simp] theorem Bolov.modMon_heldLo (f : MonState → MonState) (b : Bolov) : (b.modMon f).heldLo = b.heldLo := rfl
@[simp] theorem Bolov.modMon_owed (f : MonState → MonState) (b : Bolov) : (b.modMon f).owed = b.owed := rfl
@[simp] theorem Bolov.modMon_logLost (f : MonState → MonState) (b : Bolov) : (b.modMon f).logLost = b.logLost := rfl
@[simp] theorem Bolov.modMon_binIbi (f : MonState → MonState) (b : Bolov) : (b.modMon f).binIbi = b.binIbi := rfl
@[simp] theorem Bolov.modMon_queues (f : MonState → MonState) (b : Bolov) : (b.modMon f).queues = b.queues := rfl
@[simp] theorem Bolov.modMon_i3c (f : MonState → MonState) (b : Bolov) : (b.modMon f).i3c = b.i3c := rfl
@[simp] theorem Bolov.modMon_windows (f : MonState → MonState) (b : Bolov) : (b.modMon f).windows = b.windows := rfl
@[simp] theorem Bolov.modMon_rmt (f : MonState → MonState) (b : Bolov) : (b.modMon f).rmt = b.rmt := rfl
@[simp] theorem Bolov.modMon_time (f : MonState → MonState) (b : Bolov) : (b.modMon f).time = b.time := rfl
@[simp] theorem Bolov.modMon_ptp (f : MonState → MonState) (b : Bolov) : (b.modMon f).ptp = b.ptp := rfl
@[simp] theorem Bolov.modMon_ports (f : MonState → MonState) (b : Bolov) : (b.modMon f).ports = b.ports := rfl
@[simp] theorem Bolov.modMon_sort (f : MonState → MonState) (b : Bolov) : (b.modMon f).sort = b.sort := rfl
@[simp] theorem Bolov.modMon_notices (f : MonState → MonState) (b : Bolov) : (b.modMon f).notices = b.notices := rfl
@[simp] theorem Bolov.modMon_issued (f : MonState → MonState) (b : Bolov) : (b.modMon f).issued = b.issued := rfl
@[simp] theorem Bolov.modMon_lanes (f : MonState → MonState) (b : Bolov) : (b.modMon f).lanes = b.lanes := rfl
@[simp] theorem Bolov.modMon_trg (f : MonState → MonState) (b : Bolov) : (b.modMon f).trg = b.trg := rfl
@[simp] theorem Bolov.modMon_rate (f : MonState → MonState) (b : Bolov) : (b.modMon f).rate = b.rate := rfl
@[simp] theorem Bolov.modMon_isu (f : MonState → MonState) (b : Bolov) : (b.modMon f).isu = b.isu := rfl
@[simp] theorem Bolov.modMon_pod (f : MonState → MonState) (b : Bolov) : (b.modMon f).pod = b.pod := rfl
@[simp] theorem Bolov.modMon_mere (f : MonState → MonState) (b : Bolov) : (b.modMon f).mere = b.mere := rfl
@[simp] theorem Bolov.modMon_tarn (f : MonState → MonState) (b : Bolov) : (b.modMon f).tarn = b.tarn := rfl
@[simp] theorem Bolov.modMon_cmt (f : MonState → MonState) (b : Bolov) : (b.modMon f).cmt = b.cmt := rfl
@[simp] theorem Bolov.modMon_pwr (f : MonState → MonState) (b : Bolov) : (b.modMon f).pwr = b.pwr := rfl
@[simp] theorem Bolov.modMon_mon (f : MonState → MonState) (b : Bolov) : (b.modMon f).mon = f b.mon := rfl
@[simp] theorem Bolov.modMon_grd (f : MonState → MonState) (b : Bolov) : (b.modMon f).grd = b.grd := rfl
@[simp] theorem Bolov.modMon_sec (f : MonState → MonState) (b : Bolov) : (b.modMon f).sec = b.sec := rfl
@[simp] theorem Bolov.modMon_gateIn (f : MonState → MonState) (b : Bolov) : (b.modMon f).gateIn = b.gateIn := rfl

@[simp] theorem Bolov.modConv_tick (n : Fin 4) (f : MonConv → MonConv) (b : Bolov) : (b.modConv n f).tick = b.tick := rfl
@[simp] theorem Bolov.modConv_up (n : Fin 4) (f : MonConv → MonConv) (b : Bolov) : (b.modConv n f).up = b.up := rfl
@[simp] theorem Bolov.modConv_regs (n : Fin 4) (f : MonConv → MonConv) (b : Bolov) : (b.modConv n f).regs = b.regs := rfl
@[simp] theorem Bolov.modConv_counters (n : Fin 4) (f : MonConv → MonConv) (b : Bolov) : (b.modConv n f).counters = b.counters := rfl
@[simp] theorem Bolov.modConv_hostLatch (n : Fin 4) (f : MonConv → MonConv) (b : Bolov) : (b.modConv n f).hostLatch = b.hostLatch := rfl
@[simp] theorem Bolov.modConv_coreLatch (n : Fin 4) (f : MonConv → MonConv) (b : Bolov) : (b.modConv n f).coreLatch = b.coreLatch := rfl
@[simp] theorem Bolov.modConv_heldLo (n : Fin 4) (f : MonConv → MonConv) (b : Bolov) : (b.modConv n f).heldLo = b.heldLo := rfl
@[simp] theorem Bolov.modConv_owed (n : Fin 4) (f : MonConv → MonConv) (b : Bolov) : (b.modConv n f).owed = b.owed := rfl
@[simp] theorem Bolov.modConv_logLost (n : Fin 4) (f : MonConv → MonConv) (b : Bolov) : (b.modConv n f).logLost = b.logLost := rfl
@[simp] theorem Bolov.modConv_binIbi (n : Fin 4) (f : MonConv → MonConv) (b : Bolov) : (b.modConv n f).binIbi = b.binIbi := rfl
@[simp] theorem Bolov.modConv_queues (n : Fin 4) (f : MonConv → MonConv) (b : Bolov) : (b.modConv n f).queues = b.queues := rfl
@[simp] theorem Bolov.modConv_i3c (n : Fin 4) (f : MonConv → MonConv) (b : Bolov) : (b.modConv n f).i3c = b.i3c := rfl
@[simp] theorem Bolov.modConv_windows (n : Fin 4) (f : MonConv → MonConv) (b : Bolov) : (b.modConv n f).windows = b.windows := rfl
@[simp] theorem Bolov.modConv_rmt (n : Fin 4) (f : MonConv → MonConv) (b : Bolov) : (b.modConv n f).rmt = b.rmt := rfl
@[simp] theorem Bolov.modConv_time (n : Fin 4) (f : MonConv → MonConv) (b : Bolov) : (b.modConv n f).time = b.time := rfl
@[simp] theorem Bolov.modConv_ptp (n : Fin 4) (f : MonConv → MonConv) (b : Bolov) : (b.modConv n f).ptp = b.ptp := rfl
@[simp] theorem Bolov.modConv_ports (n : Fin 4) (f : MonConv → MonConv) (b : Bolov) : (b.modConv n f).ports = b.ports := rfl
@[simp] theorem Bolov.modConv_sort (n : Fin 4) (f : MonConv → MonConv) (b : Bolov) : (b.modConv n f).sort = b.sort := rfl
@[simp] theorem Bolov.modConv_notices (n : Fin 4) (f : MonConv → MonConv) (b : Bolov) : (b.modConv n f).notices = b.notices := rfl
@[simp] theorem Bolov.modConv_issued (n : Fin 4) (f : MonConv → MonConv) (b : Bolov) : (b.modConv n f).issued = b.issued := rfl
@[simp] theorem Bolov.modConv_lanes (n : Fin 4) (f : MonConv → MonConv) (b : Bolov) : (b.modConv n f).lanes = b.lanes := rfl
@[simp] theorem Bolov.modConv_trg (n : Fin 4) (f : MonConv → MonConv) (b : Bolov) : (b.modConv n f).trg = b.trg := rfl
@[simp] theorem Bolov.modConv_rate (n : Fin 4) (f : MonConv → MonConv) (b : Bolov) : (b.modConv n f).rate = b.rate := rfl
@[simp] theorem Bolov.modConv_isu (n : Fin 4) (f : MonConv → MonConv) (b : Bolov) : (b.modConv n f).isu = b.isu := rfl
@[simp] theorem Bolov.modConv_pod (n : Fin 4) (f : MonConv → MonConv) (b : Bolov) : (b.modConv n f).pod = b.pod := rfl
@[simp] theorem Bolov.modConv_mere (n : Fin 4) (f : MonConv → MonConv) (b : Bolov) : (b.modConv n f).mere = b.mere := rfl
@[simp] theorem Bolov.modConv_tarn (n : Fin 4) (f : MonConv → MonConv) (b : Bolov) : (b.modConv n f).tarn = b.tarn := rfl
@[simp] theorem Bolov.modConv_cmt (n : Fin 4) (f : MonConv → MonConv) (b : Bolov) : (b.modConv n f).cmt = b.cmt := rfl
@[simp] theorem Bolov.modConv_pwr (n : Fin 4) (f : MonConv → MonConv) (b : Bolov) : (b.modConv n f).pwr = b.pwr := rfl
@[simp] theorem Bolov.modConv_grd (n : Fin 4) (f : MonConv → MonConv) (b : Bolov) : (b.modConv n f).grd = b.grd := rfl
@[simp] theorem Bolov.modConv_sec (n : Fin 4) (f : MonConv → MonConv) (b : Bolov) : (b.modConv n f).sec = b.sec := rfl
@[simp] theorem Bolov.modConv_gateIn (n : Fin 4) (f : MonConv → MonConv) (b : Bolov) : (b.modConv n f).gateIn = b.gateIn := rfl

@[simp] theorem Bolov.modPod_tick (f : PodState → PodState) (b : Bolov) : (b.modPod f).tick = b.tick := rfl
@[simp] theorem Bolov.modPod_up (f : PodState → PodState) (b : Bolov) : (b.modPod f).up = b.up := rfl
@[simp] theorem Bolov.modPod_regs (f : PodState → PodState) (b : Bolov) : (b.modPod f).regs = b.regs := rfl
@[simp] theorem Bolov.modPod_counters (f : PodState → PodState) (b : Bolov) : (b.modPod f).counters = b.counters := rfl
@[simp] theorem Bolov.modPod_hostLatch (f : PodState → PodState) (b : Bolov) : (b.modPod f).hostLatch = b.hostLatch := rfl
@[simp] theorem Bolov.modPod_coreLatch (f : PodState → PodState) (b : Bolov) : (b.modPod f).coreLatch = b.coreLatch := rfl
@[simp] theorem Bolov.modPod_heldLo (f : PodState → PodState) (b : Bolov) : (b.modPod f).heldLo = b.heldLo := rfl
@[simp] theorem Bolov.modPod_owed (f : PodState → PodState) (b : Bolov) : (b.modPod f).owed = b.owed := rfl
@[simp] theorem Bolov.modPod_logLost (f : PodState → PodState) (b : Bolov) : (b.modPod f).logLost = b.logLost := rfl
@[simp] theorem Bolov.modPod_binIbi (f : PodState → PodState) (b : Bolov) : (b.modPod f).binIbi = b.binIbi := rfl
@[simp] theorem Bolov.modPod_queues (f : PodState → PodState) (b : Bolov) : (b.modPod f).queues = b.queues := rfl
@[simp] theorem Bolov.modPod_i3c (f : PodState → PodState) (b : Bolov) : (b.modPod f).i3c = b.i3c := rfl
@[simp] theorem Bolov.modPod_windows (f : PodState → PodState) (b : Bolov) : (b.modPod f).windows = b.windows := rfl
@[simp] theorem Bolov.modPod_rmt (f : PodState → PodState) (b : Bolov) : (b.modPod f).rmt = b.rmt := rfl
@[simp] theorem Bolov.modPod_time (f : PodState → PodState) (b : Bolov) : (b.modPod f).time = b.time := rfl
@[simp] theorem Bolov.modPod_ptp (f : PodState → PodState) (b : Bolov) : (b.modPod f).ptp = b.ptp := rfl
@[simp] theorem Bolov.modPod_ports (f : PodState → PodState) (b : Bolov) : (b.modPod f).ports = b.ports := rfl
@[simp] theorem Bolov.modPod_sort (f : PodState → PodState) (b : Bolov) : (b.modPod f).sort = b.sort := rfl
@[simp] theorem Bolov.modPod_notices (f : PodState → PodState) (b : Bolov) : (b.modPod f).notices = b.notices := rfl
@[simp] theorem Bolov.modPod_issued (f : PodState → PodState) (b : Bolov) : (b.modPod f).issued = b.issued := rfl
@[simp] theorem Bolov.modPod_lanes (f : PodState → PodState) (b : Bolov) : (b.modPod f).lanes = b.lanes := rfl
@[simp] theorem Bolov.modPod_trg (f : PodState → PodState) (b : Bolov) : (b.modPod f).trg = b.trg := rfl
@[simp] theorem Bolov.modPod_rate (f : PodState → PodState) (b : Bolov) : (b.modPod f).rate = b.rate := rfl
@[simp] theorem Bolov.modPod_isu (f : PodState → PodState) (b : Bolov) : (b.modPod f).isu = b.isu := rfl
@[simp] theorem Bolov.modPod_pod (f : PodState → PodState) (b : Bolov) : (b.modPod f).pod = f b.pod := rfl
@[simp] theorem Bolov.modPod_mere (f : PodState → PodState) (b : Bolov) : (b.modPod f).mere = b.mere := rfl
@[simp] theorem Bolov.modPod_tarn (f : PodState → PodState) (b : Bolov) : (b.modPod f).tarn = b.tarn := rfl
@[simp] theorem Bolov.modPod_cmt (f : PodState → PodState) (b : Bolov) : (b.modPod f).cmt = b.cmt := rfl
@[simp] theorem Bolov.modPod_pwr (f : PodState → PodState) (b : Bolov) : (b.modPod f).pwr = b.pwr := rfl
@[simp] theorem Bolov.modPod_mon (f : PodState → PodState) (b : Bolov) : (b.modPod f).mon = b.mon := rfl
@[simp] theorem Bolov.modPod_grd (f : PodState → PodState) (b : Bolov) : (b.modPod f).grd = b.grd := rfl
@[simp] theorem Bolov.modPod_sec (f : PodState → PodState) (b : Bolov) : (b.modPod f).sec = b.sec := rfl
@[simp] theorem Bolov.modPod_gateIn (f : PodState → PodState) (b : Bolov) : (b.modPod f).gateIn = b.gateIn := rfl

@[simp] theorem Bolov.modPwr_tick (f : PwrState → PwrState) (b : Bolov) : (b.modPwr f).tick = b.tick := rfl
@[simp] theorem Bolov.modPwr_up (f : PwrState → PwrState) (b : Bolov) : (b.modPwr f).up = b.up := rfl
@[simp] theorem Bolov.modPwr_regs (f : PwrState → PwrState) (b : Bolov) : (b.modPwr f).regs = b.regs := rfl
@[simp] theorem Bolov.modPwr_counters (f : PwrState → PwrState) (b : Bolov) : (b.modPwr f).counters = b.counters := rfl
@[simp] theorem Bolov.modPwr_hostLatch (f : PwrState → PwrState) (b : Bolov) : (b.modPwr f).hostLatch = b.hostLatch := rfl
@[simp] theorem Bolov.modPwr_coreLatch (f : PwrState → PwrState) (b : Bolov) : (b.modPwr f).coreLatch = b.coreLatch := rfl
@[simp] theorem Bolov.modPwr_heldLo (f : PwrState → PwrState) (b : Bolov) : (b.modPwr f).heldLo = b.heldLo := rfl
@[simp] theorem Bolov.modPwr_owed (f : PwrState → PwrState) (b : Bolov) : (b.modPwr f).owed = b.owed := rfl
@[simp] theorem Bolov.modPwr_logLost (f : PwrState → PwrState) (b : Bolov) : (b.modPwr f).logLost = b.logLost := rfl
@[simp] theorem Bolov.modPwr_binIbi (f : PwrState → PwrState) (b : Bolov) : (b.modPwr f).binIbi = b.binIbi := rfl
@[simp] theorem Bolov.modPwr_queues (f : PwrState → PwrState) (b : Bolov) : (b.modPwr f).queues = b.queues := rfl
@[simp] theorem Bolov.modPwr_i3c (f : PwrState → PwrState) (b : Bolov) : (b.modPwr f).i3c = b.i3c := rfl
@[simp] theorem Bolov.modPwr_windows (f : PwrState → PwrState) (b : Bolov) : (b.modPwr f).windows = b.windows := rfl
@[simp] theorem Bolov.modPwr_rmt (f : PwrState → PwrState) (b : Bolov) : (b.modPwr f).rmt = b.rmt := rfl
@[simp] theorem Bolov.modPwr_time (f : PwrState → PwrState) (b : Bolov) : (b.modPwr f).time = b.time := rfl
@[simp] theorem Bolov.modPwr_ptp (f : PwrState → PwrState) (b : Bolov) : (b.modPwr f).ptp = b.ptp := rfl
@[simp] theorem Bolov.modPwr_ports (f : PwrState → PwrState) (b : Bolov) : (b.modPwr f).ports = b.ports := rfl
@[simp] theorem Bolov.modPwr_sort (f : PwrState → PwrState) (b : Bolov) : (b.modPwr f).sort = b.sort := rfl
@[simp] theorem Bolov.modPwr_notices (f : PwrState → PwrState) (b : Bolov) : (b.modPwr f).notices = b.notices := rfl
@[simp] theorem Bolov.modPwr_issued (f : PwrState → PwrState) (b : Bolov) : (b.modPwr f).issued = b.issued := rfl
@[simp] theorem Bolov.modPwr_lanes (f : PwrState → PwrState) (b : Bolov) : (b.modPwr f).lanes = b.lanes := rfl
@[simp] theorem Bolov.modPwr_trg (f : PwrState → PwrState) (b : Bolov) : (b.modPwr f).trg = b.trg := rfl
@[simp] theorem Bolov.modPwr_rate (f : PwrState → PwrState) (b : Bolov) : (b.modPwr f).rate = b.rate := rfl
@[simp] theorem Bolov.modPwr_isu (f : PwrState → PwrState) (b : Bolov) : (b.modPwr f).isu = b.isu := rfl
@[simp] theorem Bolov.modPwr_pod (f : PwrState → PwrState) (b : Bolov) : (b.modPwr f).pod = b.pod := rfl
@[simp] theorem Bolov.modPwr_mere (f : PwrState → PwrState) (b : Bolov) : (b.modPwr f).mere = b.mere := rfl
@[simp] theorem Bolov.modPwr_tarn (f : PwrState → PwrState) (b : Bolov) : (b.modPwr f).tarn = b.tarn := rfl
@[simp] theorem Bolov.modPwr_cmt (f : PwrState → PwrState) (b : Bolov) : (b.modPwr f).cmt = b.cmt := rfl
@[simp] theorem Bolov.modPwr_pwr (f : PwrState → PwrState) (b : Bolov) : (b.modPwr f).pwr = f b.pwr := rfl
@[simp] theorem Bolov.modPwr_mon (f : PwrState → PwrState) (b : Bolov) : (b.modPwr f).mon = b.mon := rfl
@[simp] theorem Bolov.modPwr_grd (f : PwrState → PwrState) (b : Bolov) : (b.modPwr f).grd = b.grd := rfl
@[simp] theorem Bolov.modPwr_sec (f : PwrState → PwrState) (b : Bolov) : (b.modPwr f).sec = b.sec := rfl
@[simp] theorem Bolov.modPwr_gateIn (f : PwrState → PwrState) (b : Bolov) : (b.modPwr f).gateIn = b.gateIn := rfl

@[simp] theorem Bolov.modPtp_tick (f : PtpState → PtpState) (b : Bolov) : (b.modPtp f).tick = b.tick := rfl
@[simp] theorem Bolov.modPtp_up (f : PtpState → PtpState) (b : Bolov) : (b.modPtp f).up = b.up := rfl
@[simp] theorem Bolov.modPtp_regs (f : PtpState → PtpState) (b : Bolov) : (b.modPtp f).regs = b.regs := rfl
@[simp] theorem Bolov.modPtp_counters (f : PtpState → PtpState) (b : Bolov) : (b.modPtp f).counters = b.counters := rfl
@[simp] theorem Bolov.modPtp_hostLatch (f : PtpState → PtpState) (b : Bolov) : (b.modPtp f).hostLatch = b.hostLatch := rfl
@[simp] theorem Bolov.modPtp_coreLatch (f : PtpState → PtpState) (b : Bolov) : (b.modPtp f).coreLatch = b.coreLatch := rfl
@[simp] theorem Bolov.modPtp_heldLo (f : PtpState → PtpState) (b : Bolov) : (b.modPtp f).heldLo = b.heldLo := rfl
@[simp] theorem Bolov.modPtp_owed (f : PtpState → PtpState) (b : Bolov) : (b.modPtp f).owed = b.owed := rfl
@[simp] theorem Bolov.modPtp_logLost (f : PtpState → PtpState) (b : Bolov) : (b.modPtp f).logLost = b.logLost := rfl
@[simp] theorem Bolov.modPtp_binIbi (f : PtpState → PtpState) (b : Bolov) : (b.modPtp f).binIbi = b.binIbi := rfl
@[simp] theorem Bolov.modPtp_queues (f : PtpState → PtpState) (b : Bolov) : (b.modPtp f).queues = b.queues := rfl
@[simp] theorem Bolov.modPtp_i3c (f : PtpState → PtpState) (b : Bolov) : (b.modPtp f).i3c = b.i3c := rfl
@[simp] theorem Bolov.modPtp_windows (f : PtpState → PtpState) (b : Bolov) : (b.modPtp f).windows = b.windows := rfl
@[simp] theorem Bolov.modPtp_rmt (f : PtpState → PtpState) (b : Bolov) : (b.modPtp f).rmt = b.rmt := rfl
@[simp] theorem Bolov.modPtp_time (f : PtpState → PtpState) (b : Bolov) : (b.modPtp f).time = b.time := rfl
@[simp] theorem Bolov.modPtp_ptp (f : PtpState → PtpState) (b : Bolov) : (b.modPtp f).ptp = f b.ptp := rfl
@[simp] theorem Bolov.modPtp_ports (f : PtpState → PtpState) (b : Bolov) : (b.modPtp f).ports = b.ports := rfl
@[simp] theorem Bolov.modPtp_sort (f : PtpState → PtpState) (b : Bolov) : (b.modPtp f).sort = b.sort := rfl
@[simp] theorem Bolov.modPtp_notices (f : PtpState → PtpState) (b : Bolov) : (b.modPtp f).notices = b.notices := rfl
@[simp] theorem Bolov.modPtp_issued (f : PtpState → PtpState) (b : Bolov) : (b.modPtp f).issued = b.issued := rfl
@[simp] theorem Bolov.modPtp_lanes (f : PtpState → PtpState) (b : Bolov) : (b.modPtp f).lanes = b.lanes := rfl
@[simp] theorem Bolov.modPtp_trg (f : PtpState → PtpState) (b : Bolov) : (b.modPtp f).trg = b.trg := rfl
@[simp] theorem Bolov.modPtp_rate (f : PtpState → PtpState) (b : Bolov) : (b.modPtp f).rate = b.rate := rfl
@[simp] theorem Bolov.modPtp_isu (f : PtpState → PtpState) (b : Bolov) : (b.modPtp f).isu = b.isu := rfl
@[simp] theorem Bolov.modPtp_pod (f : PtpState → PtpState) (b : Bolov) : (b.modPtp f).pod = b.pod := rfl
@[simp] theorem Bolov.modPtp_mere (f : PtpState → PtpState) (b : Bolov) : (b.modPtp f).mere = b.mere := rfl
@[simp] theorem Bolov.modPtp_tarn (f : PtpState → PtpState) (b : Bolov) : (b.modPtp f).tarn = b.tarn := rfl
@[simp] theorem Bolov.modPtp_cmt (f : PtpState → PtpState) (b : Bolov) : (b.modPtp f).cmt = b.cmt := rfl
@[simp] theorem Bolov.modPtp_pwr (f : PtpState → PtpState) (b : Bolov) : (b.modPtp f).pwr = b.pwr := rfl
@[simp] theorem Bolov.modPtp_mon (f : PtpState → PtpState) (b : Bolov) : (b.modPtp f).mon = b.mon := rfl
@[simp] theorem Bolov.modPtp_grd (f : PtpState → PtpState) (b : Bolov) : (b.modPtp f).grd = b.grd := rfl
@[simp] theorem Bolov.modPtp_sec (f : PtpState → PtpState) (b : Bolov) : (b.modPtp f).sec = b.sec := rfl
@[simp] theorem Bolov.modPtp_gateIn (f : PtpState → PtpState) (b : Bolov) : (b.modPtp f).gateIn = b.gateIn := rfl

@[simp] theorem Bolov.modRate_tick (f : RateState → RateState) (b : Bolov) : (b.modRate f).tick = b.tick := rfl
@[simp] theorem Bolov.modRate_up (f : RateState → RateState) (b : Bolov) : (b.modRate f).up = b.up := rfl
@[simp] theorem Bolov.modRate_regs (f : RateState → RateState) (b : Bolov) : (b.modRate f).regs = b.regs := rfl
@[simp] theorem Bolov.modRate_counters (f : RateState → RateState) (b : Bolov) : (b.modRate f).counters = b.counters := rfl
@[simp] theorem Bolov.modRate_hostLatch (f : RateState → RateState) (b : Bolov) : (b.modRate f).hostLatch = b.hostLatch := rfl
@[simp] theorem Bolov.modRate_coreLatch (f : RateState → RateState) (b : Bolov) : (b.modRate f).coreLatch = b.coreLatch := rfl
@[simp] theorem Bolov.modRate_heldLo (f : RateState → RateState) (b : Bolov) : (b.modRate f).heldLo = b.heldLo := rfl
@[simp] theorem Bolov.modRate_owed (f : RateState → RateState) (b : Bolov) : (b.modRate f).owed = b.owed := rfl
@[simp] theorem Bolov.modRate_logLost (f : RateState → RateState) (b : Bolov) : (b.modRate f).logLost = b.logLost := rfl
@[simp] theorem Bolov.modRate_binIbi (f : RateState → RateState) (b : Bolov) : (b.modRate f).binIbi = b.binIbi := rfl
@[simp] theorem Bolov.modRate_queues (f : RateState → RateState) (b : Bolov) : (b.modRate f).queues = b.queues := rfl
@[simp] theorem Bolov.modRate_i3c (f : RateState → RateState) (b : Bolov) : (b.modRate f).i3c = b.i3c := rfl
@[simp] theorem Bolov.modRate_windows (f : RateState → RateState) (b : Bolov) : (b.modRate f).windows = b.windows := rfl
@[simp] theorem Bolov.modRate_rmt (f : RateState → RateState) (b : Bolov) : (b.modRate f).rmt = b.rmt := rfl
@[simp] theorem Bolov.modRate_time (f : RateState → RateState) (b : Bolov) : (b.modRate f).time = b.time := rfl
@[simp] theorem Bolov.modRate_ptp (f : RateState → RateState) (b : Bolov) : (b.modRate f).ptp = b.ptp := rfl
@[simp] theorem Bolov.modRate_ports (f : RateState → RateState) (b : Bolov) : (b.modRate f).ports = b.ports := rfl
@[simp] theorem Bolov.modRate_sort (f : RateState → RateState) (b : Bolov) : (b.modRate f).sort = b.sort := rfl
@[simp] theorem Bolov.modRate_notices (f : RateState → RateState) (b : Bolov) : (b.modRate f).notices = b.notices := rfl
@[simp] theorem Bolov.modRate_issued (f : RateState → RateState) (b : Bolov) : (b.modRate f).issued = b.issued := rfl
@[simp] theorem Bolov.modRate_lanes (f : RateState → RateState) (b : Bolov) : (b.modRate f).lanes = b.lanes := rfl
@[simp] theorem Bolov.modRate_trg (f : RateState → RateState) (b : Bolov) : (b.modRate f).trg = b.trg := rfl
@[simp] theorem Bolov.modRate_rate (f : RateState → RateState) (b : Bolov) : (b.modRate f).rate = f b.rate := rfl
@[simp] theorem Bolov.modRate_isu (f : RateState → RateState) (b : Bolov) : (b.modRate f).isu = b.isu := rfl
@[simp] theorem Bolov.modRate_pod (f : RateState → RateState) (b : Bolov) : (b.modRate f).pod = b.pod := rfl
@[simp] theorem Bolov.modRate_mere (f : RateState → RateState) (b : Bolov) : (b.modRate f).mere = b.mere := rfl
@[simp] theorem Bolov.modRate_tarn (f : RateState → RateState) (b : Bolov) : (b.modRate f).tarn = b.tarn := rfl
@[simp] theorem Bolov.modRate_cmt (f : RateState → RateState) (b : Bolov) : (b.modRate f).cmt = b.cmt := rfl
@[simp] theorem Bolov.modRate_pwr (f : RateState → RateState) (b : Bolov) : (b.modRate f).pwr = b.pwr := rfl
@[simp] theorem Bolov.modRate_mon (f : RateState → RateState) (b : Bolov) : (b.modRate f).mon = b.mon := rfl
@[simp] theorem Bolov.modRate_grd (f : RateState → RateState) (b : Bolov) : (b.modRate f).grd = b.grd := rfl
@[simp] theorem Bolov.modRate_sec (f : RateState → RateState) (b : Bolov) : (b.modRate f).sec = b.sec := rfl
@[simp] theorem Bolov.modRate_gateIn (f : RateState → RateState) (b : Bolov) : (b.modRate f).gateIn = b.gateIn := rfl

@[simp] theorem Bolov.modRmt_tick (f : RmtState → RmtState) (b : Bolov) : (b.modRmt f).tick = b.tick := rfl
@[simp] theorem Bolov.modRmt_up (f : RmtState → RmtState) (b : Bolov) : (b.modRmt f).up = b.up := rfl
@[simp] theorem Bolov.modRmt_regs (f : RmtState → RmtState) (b : Bolov) : (b.modRmt f).regs = b.regs := rfl
@[simp] theorem Bolov.modRmt_counters (f : RmtState → RmtState) (b : Bolov) : (b.modRmt f).counters = b.counters := rfl
@[simp] theorem Bolov.modRmt_hostLatch (f : RmtState → RmtState) (b : Bolov) : (b.modRmt f).hostLatch = b.hostLatch := rfl
@[simp] theorem Bolov.modRmt_coreLatch (f : RmtState → RmtState) (b : Bolov) : (b.modRmt f).coreLatch = b.coreLatch := rfl
@[simp] theorem Bolov.modRmt_heldLo (f : RmtState → RmtState) (b : Bolov) : (b.modRmt f).heldLo = b.heldLo := rfl
@[simp] theorem Bolov.modRmt_owed (f : RmtState → RmtState) (b : Bolov) : (b.modRmt f).owed = b.owed := rfl
@[simp] theorem Bolov.modRmt_logLost (f : RmtState → RmtState) (b : Bolov) : (b.modRmt f).logLost = b.logLost := rfl
@[simp] theorem Bolov.modRmt_binIbi (f : RmtState → RmtState) (b : Bolov) : (b.modRmt f).binIbi = b.binIbi := rfl
@[simp] theorem Bolov.modRmt_queues (f : RmtState → RmtState) (b : Bolov) : (b.modRmt f).queues = b.queues := rfl
@[simp] theorem Bolov.modRmt_i3c (f : RmtState → RmtState) (b : Bolov) : (b.modRmt f).i3c = b.i3c := rfl
@[simp] theorem Bolov.modRmt_windows (f : RmtState → RmtState) (b : Bolov) : (b.modRmt f).windows = b.windows := rfl
@[simp] theorem Bolov.modRmt_rmt (f : RmtState → RmtState) (b : Bolov) : (b.modRmt f).rmt = f b.rmt := rfl
@[simp] theorem Bolov.modRmt_time (f : RmtState → RmtState) (b : Bolov) : (b.modRmt f).time = b.time := rfl
@[simp] theorem Bolov.modRmt_ptp (f : RmtState → RmtState) (b : Bolov) : (b.modRmt f).ptp = b.ptp := rfl
@[simp] theorem Bolov.modRmt_ports (f : RmtState → RmtState) (b : Bolov) : (b.modRmt f).ports = b.ports := rfl
@[simp] theorem Bolov.modRmt_sort (f : RmtState → RmtState) (b : Bolov) : (b.modRmt f).sort = b.sort := rfl
@[simp] theorem Bolov.modRmt_notices (f : RmtState → RmtState) (b : Bolov) : (b.modRmt f).notices = b.notices := rfl
@[simp] theorem Bolov.modRmt_issued (f : RmtState → RmtState) (b : Bolov) : (b.modRmt f).issued = b.issued := rfl
@[simp] theorem Bolov.modRmt_lanes (f : RmtState → RmtState) (b : Bolov) : (b.modRmt f).lanes = b.lanes := rfl
@[simp] theorem Bolov.modRmt_trg (f : RmtState → RmtState) (b : Bolov) : (b.modRmt f).trg = b.trg := rfl
@[simp] theorem Bolov.modRmt_rate (f : RmtState → RmtState) (b : Bolov) : (b.modRmt f).rate = b.rate := rfl
@[simp] theorem Bolov.modRmt_isu (f : RmtState → RmtState) (b : Bolov) : (b.modRmt f).isu = b.isu := rfl
@[simp] theorem Bolov.modRmt_pod (f : RmtState → RmtState) (b : Bolov) : (b.modRmt f).pod = b.pod := rfl
@[simp] theorem Bolov.modRmt_mere (f : RmtState → RmtState) (b : Bolov) : (b.modRmt f).mere = b.mere := rfl
@[simp] theorem Bolov.modRmt_tarn (f : RmtState → RmtState) (b : Bolov) : (b.modRmt f).tarn = b.tarn := rfl
@[simp] theorem Bolov.modRmt_cmt (f : RmtState → RmtState) (b : Bolov) : (b.modRmt f).cmt = b.cmt := rfl
@[simp] theorem Bolov.modRmt_pwr (f : RmtState → RmtState) (b : Bolov) : (b.modRmt f).pwr = b.pwr := rfl
@[simp] theorem Bolov.modRmt_mon (f : RmtState → RmtState) (b : Bolov) : (b.modRmt f).mon = b.mon := rfl
@[simp] theorem Bolov.modRmt_grd (f : RmtState → RmtState) (b : Bolov) : (b.modRmt f).grd = b.grd := rfl
@[simp] theorem Bolov.modRmt_sec (f : RmtState → RmtState) (b : Bolov) : (b.modRmt f).sec = b.sec := rfl
@[simp] theorem Bolov.modRmt_gateIn (f : RmtState → RmtState) (b : Bolov) : (b.modRmt f).gateIn = b.gateIn := rfl

@[simp] theorem Bolov.modRequest_tick (q : BitVec 16) (f : Request → Request) (b : Bolov) : (b.modRequest q f).tick = b.tick := rfl
@[simp] theorem Bolov.modRequest_up (q : BitVec 16) (f : Request → Request) (b : Bolov) : (b.modRequest q f).up = b.up := rfl
@[simp] theorem Bolov.modRequest_regs (q : BitVec 16) (f : Request → Request) (b : Bolov) : (b.modRequest q f).regs = b.regs := rfl
@[simp] theorem Bolov.modRequest_counters (q : BitVec 16) (f : Request → Request) (b : Bolov) : (b.modRequest q f).counters = b.counters := rfl
@[simp] theorem Bolov.modRequest_hostLatch (q : BitVec 16) (f : Request → Request) (b : Bolov) : (b.modRequest q f).hostLatch = b.hostLatch := rfl
@[simp] theorem Bolov.modRequest_coreLatch (q : BitVec 16) (f : Request → Request) (b : Bolov) : (b.modRequest q f).coreLatch = b.coreLatch := rfl
@[simp] theorem Bolov.modRequest_heldLo (q : BitVec 16) (f : Request → Request) (b : Bolov) : (b.modRequest q f).heldLo = b.heldLo := rfl
@[simp] theorem Bolov.modRequest_owed (q : BitVec 16) (f : Request → Request) (b : Bolov) : (b.modRequest q f).owed = b.owed := rfl
@[simp] theorem Bolov.modRequest_logLost (q : BitVec 16) (f : Request → Request) (b : Bolov) : (b.modRequest q f).logLost = b.logLost := rfl
@[simp] theorem Bolov.modRequest_binIbi (q : BitVec 16) (f : Request → Request) (b : Bolov) : (b.modRequest q f).binIbi = b.binIbi := rfl
@[simp] theorem Bolov.modRequest_queues (q : BitVec 16) (f : Request → Request) (b : Bolov) : (b.modRequest q f).queues = b.queues := rfl
@[simp] theorem Bolov.modRequest_i3c (q : BitVec 16) (f : Request → Request) (b : Bolov) : (b.modRequest q f).i3c = b.i3c := rfl
@[simp] theorem Bolov.modRequest_windows (q : BitVec 16) (f : Request → Request) (b : Bolov) : (b.modRequest q f).windows = b.windows := rfl
@[simp] theorem Bolov.modRequest_time (q : BitVec 16) (f : Request → Request) (b : Bolov) : (b.modRequest q f).time = b.time := rfl
@[simp] theorem Bolov.modRequest_ptp (q : BitVec 16) (f : Request → Request) (b : Bolov) : (b.modRequest q f).ptp = b.ptp := rfl
@[simp] theorem Bolov.modRequest_ports (q : BitVec 16) (f : Request → Request) (b : Bolov) : (b.modRequest q f).ports = b.ports := rfl
@[simp] theorem Bolov.modRequest_sort (q : BitVec 16) (f : Request → Request) (b : Bolov) : (b.modRequest q f).sort = b.sort := rfl
@[simp] theorem Bolov.modRequest_notices (q : BitVec 16) (f : Request → Request) (b : Bolov) : (b.modRequest q f).notices = b.notices := rfl
@[simp] theorem Bolov.modRequest_issued (q : BitVec 16) (f : Request → Request) (b : Bolov) : (b.modRequest q f).issued = b.issued := rfl
@[simp] theorem Bolov.modRequest_lanes (q : BitVec 16) (f : Request → Request) (b : Bolov) : (b.modRequest q f).lanes = b.lanes := rfl
@[simp] theorem Bolov.modRequest_trg (q : BitVec 16) (f : Request → Request) (b : Bolov) : (b.modRequest q f).trg = b.trg := rfl
@[simp] theorem Bolov.modRequest_rate (q : BitVec 16) (f : Request → Request) (b : Bolov) : (b.modRequest q f).rate = b.rate := rfl
@[simp] theorem Bolov.modRequest_isu (q : BitVec 16) (f : Request → Request) (b : Bolov) : (b.modRequest q f).isu = b.isu := rfl
@[simp] theorem Bolov.modRequest_pod (q : BitVec 16) (f : Request → Request) (b : Bolov) : (b.modRequest q f).pod = b.pod := rfl
@[simp] theorem Bolov.modRequest_mere (q : BitVec 16) (f : Request → Request) (b : Bolov) : (b.modRequest q f).mere = b.mere := rfl
@[simp] theorem Bolov.modRequest_tarn (q : BitVec 16) (f : Request → Request) (b : Bolov) : (b.modRequest q f).tarn = b.tarn := rfl
@[simp] theorem Bolov.modRequest_cmt (q : BitVec 16) (f : Request → Request) (b : Bolov) : (b.modRequest q f).cmt = b.cmt := rfl
@[simp] theorem Bolov.modRequest_pwr (q : BitVec 16) (f : Request → Request) (b : Bolov) : (b.modRequest q f).pwr = b.pwr := rfl
@[simp] theorem Bolov.modRequest_mon (q : BitVec 16) (f : Request → Request) (b : Bolov) : (b.modRequest q f).mon = b.mon := rfl
@[simp] theorem Bolov.modRequest_grd (q : BitVec 16) (f : Request → Request) (b : Bolov) : (b.modRequest q f).grd = b.grd := rfl
@[simp] theorem Bolov.modRequest_sec (q : BitVec 16) (f : Request → Request) (b : Bolov) : (b.modRequest q f).sec = b.sec := rfl
@[simp] theorem Bolov.modRequest_gateIn (q : BitVec 16) (f : Request → Request) (b : Bolov) : (b.modRequest q f).gateIn = b.gateIn := rfl

@[simp] theorem Bolov.modLane_tick (n : Fin 16) (f : Lane → Lane) (b : Bolov) : (b.modLane n f).tick = b.tick := rfl
@[simp] theorem Bolov.modLane_up (n : Fin 16) (f : Lane → Lane) (b : Bolov) : (b.modLane n f).up = b.up := rfl
@[simp] theorem Bolov.modLane_regs (n : Fin 16) (f : Lane → Lane) (b : Bolov) : (b.modLane n f).regs = b.regs := rfl
@[simp] theorem Bolov.modLane_counters (n : Fin 16) (f : Lane → Lane) (b : Bolov) : (b.modLane n f).counters = b.counters := rfl
@[simp] theorem Bolov.modLane_hostLatch (n : Fin 16) (f : Lane → Lane) (b : Bolov) : (b.modLane n f).hostLatch = b.hostLatch := rfl
@[simp] theorem Bolov.modLane_coreLatch (n : Fin 16) (f : Lane → Lane) (b : Bolov) : (b.modLane n f).coreLatch = b.coreLatch := rfl
@[simp] theorem Bolov.modLane_heldLo (n : Fin 16) (f : Lane → Lane) (b : Bolov) : (b.modLane n f).heldLo = b.heldLo := rfl
@[simp] theorem Bolov.modLane_owed (n : Fin 16) (f : Lane → Lane) (b : Bolov) : (b.modLane n f).owed = b.owed := rfl
@[simp] theorem Bolov.modLane_logLost (n : Fin 16) (f : Lane → Lane) (b : Bolov) : (b.modLane n f).logLost = b.logLost := rfl
@[simp] theorem Bolov.modLane_binIbi (n : Fin 16) (f : Lane → Lane) (b : Bolov) : (b.modLane n f).binIbi = b.binIbi := rfl
@[simp] theorem Bolov.modLane_queues (n : Fin 16) (f : Lane → Lane) (b : Bolov) : (b.modLane n f).queues = b.queues := rfl
@[simp] theorem Bolov.modLane_i3c (n : Fin 16) (f : Lane → Lane) (b : Bolov) : (b.modLane n f).i3c = b.i3c := rfl
@[simp] theorem Bolov.modLane_windows (n : Fin 16) (f : Lane → Lane) (b : Bolov) : (b.modLane n f).windows = b.windows := rfl
@[simp] theorem Bolov.modLane_rmt (n : Fin 16) (f : Lane → Lane) (b : Bolov) : (b.modLane n f).rmt = b.rmt := rfl
@[simp] theorem Bolov.modLane_time (n : Fin 16) (f : Lane → Lane) (b : Bolov) : (b.modLane n f).time = b.time := rfl
@[simp] theorem Bolov.modLane_ptp (n : Fin 16) (f : Lane → Lane) (b : Bolov) : (b.modLane n f).ptp = b.ptp := rfl
@[simp] theorem Bolov.modLane_ports (n : Fin 16) (f : Lane → Lane) (b : Bolov) : (b.modLane n f).ports = b.ports := rfl
@[simp] theorem Bolov.modLane_sort (n : Fin 16) (f : Lane → Lane) (b : Bolov) : (b.modLane n f).sort = b.sort := rfl
@[simp] theorem Bolov.modLane_notices (n : Fin 16) (f : Lane → Lane) (b : Bolov) : (b.modLane n f).notices = b.notices := rfl
@[simp] theorem Bolov.modLane_issued (n : Fin 16) (f : Lane → Lane) (b : Bolov) : (b.modLane n f).issued = b.issued := rfl
@[simp] theorem Bolov.modLane_lanes (n : Fin 16) (f : Lane → Lane) (b : Bolov) : (b.modLane n f).lanes = b.lanes.set n (f b.lanes[n]) := rfl
@[simp] theorem Bolov.modLane_trg (n : Fin 16) (f : Lane → Lane) (b : Bolov) : (b.modLane n f).trg = b.trg := rfl
@[simp] theorem Bolov.modLane_rate (n : Fin 16) (f : Lane → Lane) (b : Bolov) : (b.modLane n f).rate = b.rate := rfl
@[simp] theorem Bolov.modLane_isu (n : Fin 16) (f : Lane → Lane) (b : Bolov) : (b.modLane n f).isu = b.isu := rfl
@[simp] theorem Bolov.modLane_pod (n : Fin 16) (f : Lane → Lane) (b : Bolov) : (b.modLane n f).pod = b.pod := rfl
@[simp] theorem Bolov.modLane_mere (n : Fin 16) (f : Lane → Lane) (b : Bolov) : (b.modLane n f).mere = b.mere := rfl
@[simp] theorem Bolov.modLane_tarn (n : Fin 16) (f : Lane → Lane) (b : Bolov) : (b.modLane n f).tarn = b.tarn := rfl
@[simp] theorem Bolov.modLane_cmt (n : Fin 16) (f : Lane → Lane) (b : Bolov) : (b.modLane n f).cmt = b.cmt := rfl
@[simp] theorem Bolov.modLane_pwr (n : Fin 16) (f : Lane → Lane) (b : Bolov) : (b.modLane n f).pwr = b.pwr := rfl
@[simp] theorem Bolov.modLane_mon (n : Fin 16) (f : Lane → Lane) (b : Bolov) : (b.modLane n f).mon = b.mon := rfl
@[simp] theorem Bolov.modLane_grd (n : Fin 16) (f : Lane → Lane) (b : Bolov) : (b.modLane n f).grd = b.grd := rfl
@[simp] theorem Bolov.modLane_sec (n : Fin 16) (f : Lane → Lane) (b : Bolov) : (b.modLane n f).sec = b.sec := rfl
@[simp] theorem Bolov.modLane_gateIn (n : Fin 16) (f : Lane → Lane) (b : Bolov) : (b.modLane n f).gateIn = b.gateIn := rfl

@[simp] theorem Bolov.modSec_tick (f : SecState → SecState) (b : Bolov) : (b.modSec f).tick = b.tick := rfl
@[simp] theorem Bolov.modSec_up (f : SecState → SecState) (b : Bolov) : (b.modSec f).up = b.up := rfl
@[simp] theorem Bolov.modSec_regs (f : SecState → SecState) (b : Bolov) : (b.modSec f).regs = b.regs := rfl
@[simp] theorem Bolov.modSec_counters (f : SecState → SecState) (b : Bolov) : (b.modSec f).counters = b.counters := rfl
@[simp] theorem Bolov.modSec_hostLatch (f : SecState → SecState) (b : Bolov) : (b.modSec f).hostLatch = b.hostLatch := rfl
@[simp] theorem Bolov.modSec_coreLatch (f : SecState → SecState) (b : Bolov) : (b.modSec f).coreLatch = b.coreLatch := rfl
@[simp] theorem Bolov.modSec_heldLo (f : SecState → SecState) (b : Bolov) : (b.modSec f).heldLo = b.heldLo := rfl
@[simp] theorem Bolov.modSec_owed (f : SecState → SecState) (b : Bolov) : (b.modSec f).owed = b.owed := rfl
@[simp] theorem Bolov.modSec_logLost (f : SecState → SecState) (b : Bolov) : (b.modSec f).logLost = b.logLost := rfl
@[simp] theorem Bolov.modSec_binIbi (f : SecState → SecState) (b : Bolov) : (b.modSec f).binIbi = b.binIbi := rfl
@[simp] theorem Bolov.modSec_queues (f : SecState → SecState) (b : Bolov) : (b.modSec f).queues = b.queues := rfl
@[simp] theorem Bolov.modSec_i3c (f : SecState → SecState) (b : Bolov) : (b.modSec f).i3c = b.i3c := rfl
@[simp] theorem Bolov.modSec_windows (f : SecState → SecState) (b : Bolov) : (b.modSec f).windows = b.windows := rfl
@[simp] theorem Bolov.modSec_rmt (f : SecState → SecState) (b : Bolov) : (b.modSec f).rmt = b.rmt := rfl
@[simp] theorem Bolov.modSec_time (f : SecState → SecState) (b : Bolov) : (b.modSec f).time = b.time := rfl
@[simp] theorem Bolov.modSec_ptp (f : SecState → SecState) (b : Bolov) : (b.modSec f).ptp = b.ptp := rfl
@[simp] theorem Bolov.modSec_ports (f : SecState → SecState) (b : Bolov) : (b.modSec f).ports = b.ports := rfl
@[simp] theorem Bolov.modSec_sort (f : SecState → SecState) (b : Bolov) : (b.modSec f).sort = b.sort := rfl
@[simp] theorem Bolov.modSec_notices (f : SecState → SecState) (b : Bolov) : (b.modSec f).notices = b.notices := rfl
@[simp] theorem Bolov.modSec_issued (f : SecState → SecState) (b : Bolov) : (b.modSec f).issued = b.issued := rfl
@[simp] theorem Bolov.modSec_lanes (f : SecState → SecState) (b : Bolov) : (b.modSec f).lanes = b.lanes := rfl
@[simp] theorem Bolov.modSec_trg (f : SecState → SecState) (b : Bolov) : (b.modSec f).trg = b.trg := rfl
@[simp] theorem Bolov.modSec_rate (f : SecState → SecState) (b : Bolov) : (b.modSec f).rate = b.rate := rfl
@[simp] theorem Bolov.modSec_isu (f : SecState → SecState) (b : Bolov) : (b.modSec f).isu = b.isu := rfl
@[simp] theorem Bolov.modSec_pod (f : SecState → SecState) (b : Bolov) : (b.modSec f).pod = b.pod := rfl
@[simp] theorem Bolov.modSec_mere (f : SecState → SecState) (b : Bolov) : (b.modSec f).mere = b.mere := rfl
@[simp] theorem Bolov.modSec_tarn (f : SecState → SecState) (b : Bolov) : (b.modSec f).tarn = b.tarn := rfl
@[simp] theorem Bolov.modSec_cmt (f : SecState → SecState) (b : Bolov) : (b.modSec f).cmt = b.cmt := rfl
@[simp] theorem Bolov.modSec_pwr (f : SecState → SecState) (b : Bolov) : (b.modSec f).pwr = b.pwr := rfl
@[simp] theorem Bolov.modSec_mon (f : SecState → SecState) (b : Bolov) : (b.modSec f).mon = b.mon := rfl
@[simp] theorem Bolov.modSec_grd (f : SecState → SecState) (b : Bolov) : (b.modSec f).grd = b.grd := rfl
@[simp] theorem Bolov.modSec_sec (f : SecState → SecState) (b : Bolov) : (b.modSec f).sec = f b.sec := rfl
@[simp] theorem Bolov.modSec_gateIn (f : SecState → SecState) (b : Bolov) : (b.modSec f).gateIn = b.gateIn := rfl

@[simp] theorem Bolov.modWindow_tick (w : Fin 6) (f : Window → Window) (b : Bolov) : (b.modWindow w f).tick = b.tick := rfl
@[simp] theorem Bolov.modWindow_up (w : Fin 6) (f : Window → Window) (b : Bolov) : (b.modWindow w f).up = b.up := rfl
@[simp] theorem Bolov.modWindow_regs (w : Fin 6) (f : Window → Window) (b : Bolov) : (b.modWindow w f).regs = b.regs := rfl
@[simp] theorem Bolov.modWindow_counters (w : Fin 6) (f : Window → Window) (b : Bolov) : (b.modWindow w f).counters = b.counters := rfl
@[simp] theorem Bolov.modWindow_hostLatch (w : Fin 6) (f : Window → Window) (b : Bolov) : (b.modWindow w f).hostLatch = b.hostLatch := rfl
@[simp] theorem Bolov.modWindow_coreLatch (w : Fin 6) (f : Window → Window) (b : Bolov) : (b.modWindow w f).coreLatch = b.coreLatch := rfl
@[simp] theorem Bolov.modWindow_heldLo (w : Fin 6) (f : Window → Window) (b : Bolov) : (b.modWindow w f).heldLo = b.heldLo := rfl
@[simp] theorem Bolov.modWindow_owed (w : Fin 6) (f : Window → Window) (b : Bolov) : (b.modWindow w f).owed = b.owed := rfl
@[simp] theorem Bolov.modWindow_logLost (w : Fin 6) (f : Window → Window) (b : Bolov) : (b.modWindow w f).logLost = b.logLost := rfl
@[simp] theorem Bolov.modWindow_binIbi (w : Fin 6) (f : Window → Window) (b : Bolov) : (b.modWindow w f).binIbi = b.binIbi := rfl
@[simp] theorem Bolov.modWindow_queues (w : Fin 6) (f : Window → Window) (b : Bolov) : (b.modWindow w f).queues = b.queues := rfl
@[simp] theorem Bolov.modWindow_i3c (w : Fin 6) (f : Window → Window) (b : Bolov) : (b.modWindow w f).i3c = b.i3c := rfl
@[simp] theorem Bolov.modWindow_windows (w : Fin 6) (f : Window → Window) (b : Bolov) : (b.modWindow w f).windows = b.windows.set w (f b.windows[w]) := rfl
@[simp] theorem Bolov.modWindow_rmt (w : Fin 6) (f : Window → Window) (b : Bolov) : (b.modWindow w f).rmt = b.rmt := rfl
@[simp] theorem Bolov.modWindow_time (w : Fin 6) (f : Window → Window) (b : Bolov) : (b.modWindow w f).time = b.time := rfl
@[simp] theorem Bolov.modWindow_ptp (w : Fin 6) (f : Window → Window) (b : Bolov) : (b.modWindow w f).ptp = b.ptp := rfl
@[simp] theorem Bolov.modWindow_ports (w : Fin 6) (f : Window → Window) (b : Bolov) : (b.modWindow w f).ports = b.ports := rfl
@[simp] theorem Bolov.modWindow_sort (w : Fin 6) (f : Window → Window) (b : Bolov) : (b.modWindow w f).sort = b.sort := rfl
@[simp] theorem Bolov.modWindow_notices (w : Fin 6) (f : Window → Window) (b : Bolov) : (b.modWindow w f).notices = b.notices := rfl
@[simp] theorem Bolov.modWindow_issued (w : Fin 6) (f : Window → Window) (b : Bolov) : (b.modWindow w f).issued = b.issued := rfl
@[simp] theorem Bolov.modWindow_lanes (w : Fin 6) (f : Window → Window) (b : Bolov) : (b.modWindow w f).lanes = b.lanes := rfl
@[simp] theorem Bolov.modWindow_trg (w : Fin 6) (f : Window → Window) (b : Bolov) : (b.modWindow w f).trg = b.trg := rfl
@[simp] theorem Bolov.modWindow_rate (w : Fin 6) (f : Window → Window) (b : Bolov) : (b.modWindow w f).rate = b.rate := rfl
@[simp] theorem Bolov.modWindow_isu (w : Fin 6) (f : Window → Window) (b : Bolov) : (b.modWindow w f).isu = b.isu := rfl
@[simp] theorem Bolov.modWindow_pod (w : Fin 6) (f : Window → Window) (b : Bolov) : (b.modWindow w f).pod = b.pod := rfl
@[simp] theorem Bolov.modWindow_mere (w : Fin 6) (f : Window → Window) (b : Bolov) : (b.modWindow w f).mere = b.mere := rfl
@[simp] theorem Bolov.modWindow_tarn (w : Fin 6) (f : Window → Window) (b : Bolov) : (b.modWindow w f).tarn = b.tarn := rfl
@[simp] theorem Bolov.modWindow_cmt (w : Fin 6) (f : Window → Window) (b : Bolov) : (b.modWindow w f).cmt = b.cmt := rfl
@[simp] theorem Bolov.modWindow_pwr (w : Fin 6) (f : Window → Window) (b : Bolov) : (b.modWindow w f).pwr = b.pwr := rfl
@[simp] theorem Bolov.modWindow_mon (w : Fin 6) (f : Window → Window) (b : Bolov) : (b.modWindow w f).mon = b.mon := rfl
@[simp] theorem Bolov.modWindow_grd (w : Fin 6) (f : Window → Window) (b : Bolov) : (b.modWindow w f).grd = b.grd := rfl
@[simp] theorem Bolov.modWindow_sec (w : Fin 6) (f : Window → Window) (b : Bolov) : (b.modWindow w f).sec = b.sec := rfl
@[simp] theorem Bolov.modWindow_gateIn (w : Fin 6) (f : Window → Window) (b : Bolov) : (b.modWindow w f).gateIn = b.gateIn := rfl

@[simp] theorem Bolov.modTarn_tick (f : TarnState → TarnState) (b : Bolov) : (b.modTarn f).tick = b.tick := rfl
@[simp] theorem Bolov.modTarn_up (f : TarnState → TarnState) (b : Bolov) : (b.modTarn f).up = b.up := rfl
@[simp] theorem Bolov.modTarn_regs (f : TarnState → TarnState) (b : Bolov) : (b.modTarn f).regs = b.regs := rfl
@[simp] theorem Bolov.modTarn_counters (f : TarnState → TarnState) (b : Bolov) : (b.modTarn f).counters = b.counters := rfl
@[simp] theorem Bolov.modTarn_hostLatch (f : TarnState → TarnState) (b : Bolov) : (b.modTarn f).hostLatch = b.hostLatch := rfl
@[simp] theorem Bolov.modTarn_coreLatch (f : TarnState → TarnState) (b : Bolov) : (b.modTarn f).coreLatch = b.coreLatch := rfl
@[simp] theorem Bolov.modTarn_heldLo (f : TarnState → TarnState) (b : Bolov) : (b.modTarn f).heldLo = b.heldLo := rfl
@[simp] theorem Bolov.modTarn_owed (f : TarnState → TarnState) (b : Bolov) : (b.modTarn f).owed = b.owed := rfl
@[simp] theorem Bolov.modTarn_logLost (f : TarnState → TarnState) (b : Bolov) : (b.modTarn f).logLost = b.logLost := rfl
@[simp] theorem Bolov.modTarn_binIbi (f : TarnState → TarnState) (b : Bolov) : (b.modTarn f).binIbi = b.binIbi := rfl
@[simp] theorem Bolov.modTarn_queues (f : TarnState → TarnState) (b : Bolov) : (b.modTarn f).queues = b.queues := rfl
@[simp] theorem Bolov.modTarn_i3c (f : TarnState → TarnState) (b : Bolov) : (b.modTarn f).i3c = b.i3c := rfl
@[simp] theorem Bolov.modTarn_windows (f : TarnState → TarnState) (b : Bolov) : (b.modTarn f).windows = b.windows := rfl
@[simp] theorem Bolov.modTarn_rmt (f : TarnState → TarnState) (b : Bolov) : (b.modTarn f).rmt = b.rmt := rfl
@[simp] theorem Bolov.modTarn_time (f : TarnState → TarnState) (b : Bolov) : (b.modTarn f).time = b.time := rfl
@[simp] theorem Bolov.modTarn_ptp (f : TarnState → TarnState) (b : Bolov) : (b.modTarn f).ptp = b.ptp := rfl
@[simp] theorem Bolov.modTarn_ports (f : TarnState → TarnState) (b : Bolov) : (b.modTarn f).ports = b.ports := rfl
@[simp] theorem Bolov.modTarn_sort (f : TarnState → TarnState) (b : Bolov) : (b.modTarn f).sort = b.sort := rfl
@[simp] theorem Bolov.modTarn_notices (f : TarnState → TarnState) (b : Bolov) : (b.modTarn f).notices = b.notices := rfl
@[simp] theorem Bolov.modTarn_issued (f : TarnState → TarnState) (b : Bolov) : (b.modTarn f).issued = b.issued := rfl
@[simp] theorem Bolov.modTarn_lanes (f : TarnState → TarnState) (b : Bolov) : (b.modTarn f).lanes = b.lanes := rfl
@[simp] theorem Bolov.modTarn_trg (f : TarnState → TarnState) (b : Bolov) : (b.modTarn f).trg = b.trg := rfl
@[simp] theorem Bolov.modTarn_rate (f : TarnState → TarnState) (b : Bolov) : (b.modTarn f).rate = b.rate := rfl
@[simp] theorem Bolov.modTarn_isu (f : TarnState → TarnState) (b : Bolov) : (b.modTarn f).isu = b.isu := rfl
@[simp] theorem Bolov.modTarn_pod (f : TarnState → TarnState) (b : Bolov) : (b.modTarn f).pod = b.pod := rfl
@[simp] theorem Bolov.modTarn_mere (f : TarnState → TarnState) (b : Bolov) : (b.modTarn f).mere = b.mere := rfl
@[simp] theorem Bolov.modTarn_tarn (f : TarnState → TarnState) (b : Bolov) : (b.modTarn f).tarn = f b.tarn := rfl
@[simp] theorem Bolov.modTarn_cmt (f : TarnState → TarnState) (b : Bolov) : (b.modTarn f).cmt = b.cmt := rfl
@[simp] theorem Bolov.modTarn_pwr (f : TarnState → TarnState) (b : Bolov) : (b.modTarn f).pwr = b.pwr := rfl
@[simp] theorem Bolov.modTarn_mon (f : TarnState → TarnState) (b : Bolov) : (b.modTarn f).mon = b.mon := rfl
@[simp] theorem Bolov.modTarn_grd (f : TarnState → TarnState) (b : Bolov) : (b.modTarn f).grd = b.grd := rfl
@[simp] theorem Bolov.modTarn_sec (f : TarnState → TarnState) (b : Bolov) : (b.modTarn f).sec = b.sec := rfl
@[simp] theorem Bolov.modTarn_gateIn (f : TarnState → TarnState) (b : Bolov) : (b.modTarn f).gateIn = b.gateIn := rfl

@[simp] theorem Bolov.modMark_tick (i : Nat) (f : TMark → TMark) (b : Bolov) : (b.modMark i f).tick = b.tick := rfl
@[simp] theorem Bolov.modMark_up (i : Nat) (f : TMark → TMark) (b : Bolov) : (b.modMark i f).up = b.up := rfl
@[simp] theorem Bolov.modMark_regs (i : Nat) (f : TMark → TMark) (b : Bolov) : (b.modMark i f).regs = b.regs := rfl
@[simp] theorem Bolov.modMark_counters (i : Nat) (f : TMark → TMark) (b : Bolov) : (b.modMark i f).counters = b.counters := rfl
@[simp] theorem Bolov.modMark_hostLatch (i : Nat) (f : TMark → TMark) (b : Bolov) : (b.modMark i f).hostLatch = b.hostLatch := rfl
@[simp] theorem Bolov.modMark_coreLatch (i : Nat) (f : TMark → TMark) (b : Bolov) : (b.modMark i f).coreLatch = b.coreLatch := rfl
@[simp] theorem Bolov.modMark_heldLo (i : Nat) (f : TMark → TMark) (b : Bolov) : (b.modMark i f).heldLo = b.heldLo := rfl
@[simp] theorem Bolov.modMark_owed (i : Nat) (f : TMark → TMark) (b : Bolov) : (b.modMark i f).owed = b.owed := rfl
@[simp] theorem Bolov.modMark_logLost (i : Nat) (f : TMark → TMark) (b : Bolov) : (b.modMark i f).logLost = b.logLost := rfl
@[simp] theorem Bolov.modMark_binIbi (i : Nat) (f : TMark → TMark) (b : Bolov) : (b.modMark i f).binIbi = b.binIbi := rfl
@[simp] theorem Bolov.modMark_queues (i : Nat) (f : TMark → TMark) (b : Bolov) : (b.modMark i f).queues = b.queues := rfl
@[simp] theorem Bolov.modMark_i3c (i : Nat) (f : TMark → TMark) (b : Bolov) : (b.modMark i f).i3c = b.i3c := rfl
@[simp] theorem Bolov.modMark_windows (i : Nat) (f : TMark → TMark) (b : Bolov) : (b.modMark i f).windows = b.windows := rfl
@[simp] theorem Bolov.modMark_rmt (i : Nat) (f : TMark → TMark) (b : Bolov) : (b.modMark i f).rmt = b.rmt := rfl
@[simp] theorem Bolov.modMark_time (i : Nat) (f : TMark → TMark) (b : Bolov) : (b.modMark i f).time = b.time := rfl
@[simp] theorem Bolov.modMark_ptp (i : Nat) (f : TMark → TMark) (b : Bolov) : (b.modMark i f).ptp = b.ptp := rfl
@[simp] theorem Bolov.modMark_ports (i : Nat) (f : TMark → TMark) (b : Bolov) : (b.modMark i f).ports = b.ports := rfl
@[simp] theorem Bolov.modMark_sort (i : Nat) (f : TMark → TMark) (b : Bolov) : (b.modMark i f).sort = b.sort := rfl
@[simp] theorem Bolov.modMark_notices (i : Nat) (f : TMark → TMark) (b : Bolov) : (b.modMark i f).notices = b.notices := rfl
@[simp] theorem Bolov.modMark_issued (i : Nat) (f : TMark → TMark) (b : Bolov) : (b.modMark i f).issued = b.issued := rfl
@[simp] theorem Bolov.modMark_lanes (i : Nat) (f : TMark → TMark) (b : Bolov) : (b.modMark i f).lanes = b.lanes := rfl
@[simp] theorem Bolov.modMark_trg (i : Nat) (f : TMark → TMark) (b : Bolov) : (b.modMark i f).trg = b.trg := rfl
@[simp] theorem Bolov.modMark_rate (i : Nat) (f : TMark → TMark) (b : Bolov) : (b.modMark i f).rate = b.rate := rfl
@[simp] theorem Bolov.modMark_isu (i : Nat) (f : TMark → TMark) (b : Bolov) : (b.modMark i f).isu = b.isu := rfl
@[simp] theorem Bolov.modMark_pod (i : Nat) (f : TMark → TMark) (b : Bolov) : (b.modMark i f).pod = b.pod := rfl
@[simp] theorem Bolov.modMark_mere (i : Nat) (f : TMark → TMark) (b : Bolov) : (b.modMark i f).mere = b.mere := rfl
@[simp] theorem Bolov.modMark_cmt (i : Nat) (f : TMark → TMark) (b : Bolov) : (b.modMark i f).cmt = b.cmt := rfl
@[simp] theorem Bolov.modMark_pwr (i : Nat) (f : TMark → TMark) (b : Bolov) : (b.modMark i f).pwr = b.pwr := rfl
@[simp] theorem Bolov.modMark_mon (i : Nat) (f : TMark → TMark) (b : Bolov) : (b.modMark i f).mon = b.mon := rfl
@[simp] theorem Bolov.modMark_grd (i : Nat) (f : TMark → TMark) (b : Bolov) : (b.modMark i f).grd = b.grd := rfl
@[simp] theorem Bolov.modMark_sec (i : Nat) (f : TMark → TMark) (b : Bolov) : (b.modMark i f).sec = b.sec := rfl
@[simp] theorem Bolov.modMark_gateIn (i : Nat) (f : TMark → TMark) (b : Bolov) : (b.modMark i f).gateIn = b.gateIn := rfl

@[simp] theorem Bolov.modTime_tick (f : TimeState → TimeState) (b : Bolov) : (b.modTime f).tick = b.tick := rfl
@[simp] theorem Bolov.modTime_up (f : TimeState → TimeState) (b : Bolov) : (b.modTime f).up = b.up := rfl
@[simp] theorem Bolov.modTime_regs (f : TimeState → TimeState) (b : Bolov) : (b.modTime f).regs = b.regs := rfl
@[simp] theorem Bolov.modTime_counters (f : TimeState → TimeState) (b : Bolov) : (b.modTime f).counters = b.counters := rfl
@[simp] theorem Bolov.modTime_hostLatch (f : TimeState → TimeState) (b : Bolov) : (b.modTime f).hostLatch = b.hostLatch := rfl
@[simp] theorem Bolov.modTime_coreLatch (f : TimeState → TimeState) (b : Bolov) : (b.modTime f).coreLatch = b.coreLatch := rfl
@[simp] theorem Bolov.modTime_heldLo (f : TimeState → TimeState) (b : Bolov) : (b.modTime f).heldLo = b.heldLo := rfl
@[simp] theorem Bolov.modTime_owed (f : TimeState → TimeState) (b : Bolov) : (b.modTime f).owed = b.owed := rfl
@[simp] theorem Bolov.modTime_logLost (f : TimeState → TimeState) (b : Bolov) : (b.modTime f).logLost = b.logLost := rfl
@[simp] theorem Bolov.modTime_binIbi (f : TimeState → TimeState) (b : Bolov) : (b.modTime f).binIbi = b.binIbi := rfl
@[simp] theorem Bolov.modTime_queues (f : TimeState → TimeState) (b : Bolov) : (b.modTime f).queues = b.queues := rfl
@[simp] theorem Bolov.modTime_i3c (f : TimeState → TimeState) (b : Bolov) : (b.modTime f).i3c = b.i3c := rfl
@[simp] theorem Bolov.modTime_windows (f : TimeState → TimeState) (b : Bolov) : (b.modTime f).windows = b.windows := rfl
@[simp] theorem Bolov.modTime_rmt (f : TimeState → TimeState) (b : Bolov) : (b.modTime f).rmt = b.rmt := rfl
@[simp] theorem Bolov.modTime_time (f : TimeState → TimeState) (b : Bolov) : (b.modTime f).time = f b.time := rfl
@[simp] theorem Bolov.modTime_ptp (f : TimeState → TimeState) (b : Bolov) : (b.modTime f).ptp = b.ptp := rfl
@[simp] theorem Bolov.modTime_ports (f : TimeState → TimeState) (b : Bolov) : (b.modTime f).ports = b.ports := rfl
@[simp] theorem Bolov.modTime_sort (f : TimeState → TimeState) (b : Bolov) : (b.modTime f).sort = b.sort := rfl
@[simp] theorem Bolov.modTime_notices (f : TimeState → TimeState) (b : Bolov) : (b.modTime f).notices = b.notices := rfl
@[simp] theorem Bolov.modTime_issued (f : TimeState → TimeState) (b : Bolov) : (b.modTime f).issued = b.issued := rfl
@[simp] theorem Bolov.modTime_lanes (f : TimeState → TimeState) (b : Bolov) : (b.modTime f).lanes = b.lanes := rfl
@[simp] theorem Bolov.modTime_trg (f : TimeState → TimeState) (b : Bolov) : (b.modTime f).trg = b.trg := rfl
@[simp] theorem Bolov.modTime_rate (f : TimeState → TimeState) (b : Bolov) : (b.modTime f).rate = b.rate := rfl
@[simp] theorem Bolov.modTime_isu (f : TimeState → TimeState) (b : Bolov) : (b.modTime f).isu = b.isu := rfl
@[simp] theorem Bolov.modTime_pod (f : TimeState → TimeState) (b : Bolov) : (b.modTime f).pod = b.pod := rfl
@[simp] theorem Bolov.modTime_mere (f : TimeState → TimeState) (b : Bolov) : (b.modTime f).mere = b.mere := rfl
@[simp] theorem Bolov.modTime_tarn (f : TimeState → TimeState) (b : Bolov) : (b.modTime f).tarn = b.tarn := rfl
@[simp] theorem Bolov.modTime_cmt (f : TimeState → TimeState) (b : Bolov) : (b.modTime f).cmt = b.cmt := rfl
@[simp] theorem Bolov.modTime_pwr (f : TimeState → TimeState) (b : Bolov) : (b.modTime f).pwr = b.pwr := rfl
@[simp] theorem Bolov.modTime_mon (f : TimeState → TimeState) (b : Bolov) : (b.modTime f).mon = b.mon := rfl
@[simp] theorem Bolov.modTime_grd (f : TimeState → TimeState) (b : Bolov) : (b.modTime f).grd = b.grd := rfl
@[simp] theorem Bolov.modTime_sec (f : TimeState → TimeState) (b : Bolov) : (b.modTime f).sec = b.sec := rfl
@[simp] theorem Bolov.modTime_gateIn (f : TimeState → TimeState) (b : Bolov) : (b.modTime f).gateIn = b.gateIn := rfl

@[simp] theorem Bolov.modTrg_tick (f : TrgState → TrgState) (b : Bolov) : (b.modTrg f).tick = b.tick := rfl
@[simp] theorem Bolov.modTrg_up (f : TrgState → TrgState) (b : Bolov) : (b.modTrg f).up = b.up := rfl
@[simp] theorem Bolov.modTrg_regs (f : TrgState → TrgState) (b : Bolov) : (b.modTrg f).regs = b.regs := rfl
@[simp] theorem Bolov.modTrg_counters (f : TrgState → TrgState) (b : Bolov) : (b.modTrg f).counters = b.counters := rfl
@[simp] theorem Bolov.modTrg_hostLatch (f : TrgState → TrgState) (b : Bolov) : (b.modTrg f).hostLatch = b.hostLatch := rfl
@[simp] theorem Bolov.modTrg_coreLatch (f : TrgState → TrgState) (b : Bolov) : (b.modTrg f).coreLatch = b.coreLatch := rfl
@[simp] theorem Bolov.modTrg_heldLo (f : TrgState → TrgState) (b : Bolov) : (b.modTrg f).heldLo = b.heldLo := rfl
@[simp] theorem Bolov.modTrg_owed (f : TrgState → TrgState) (b : Bolov) : (b.modTrg f).owed = b.owed := rfl
@[simp] theorem Bolov.modTrg_logLost (f : TrgState → TrgState) (b : Bolov) : (b.modTrg f).logLost = b.logLost := rfl
@[simp] theorem Bolov.modTrg_binIbi (f : TrgState → TrgState) (b : Bolov) : (b.modTrg f).binIbi = b.binIbi := rfl
@[simp] theorem Bolov.modTrg_queues (f : TrgState → TrgState) (b : Bolov) : (b.modTrg f).queues = b.queues := rfl
@[simp] theorem Bolov.modTrg_i3c (f : TrgState → TrgState) (b : Bolov) : (b.modTrg f).i3c = b.i3c := rfl
@[simp] theorem Bolov.modTrg_windows (f : TrgState → TrgState) (b : Bolov) : (b.modTrg f).windows = b.windows := rfl
@[simp] theorem Bolov.modTrg_rmt (f : TrgState → TrgState) (b : Bolov) : (b.modTrg f).rmt = b.rmt := rfl
@[simp] theorem Bolov.modTrg_time (f : TrgState → TrgState) (b : Bolov) : (b.modTrg f).time = b.time := rfl
@[simp] theorem Bolov.modTrg_ptp (f : TrgState → TrgState) (b : Bolov) : (b.modTrg f).ptp = b.ptp := rfl
@[simp] theorem Bolov.modTrg_ports (f : TrgState → TrgState) (b : Bolov) : (b.modTrg f).ports = b.ports := rfl
@[simp] theorem Bolov.modTrg_sort (f : TrgState → TrgState) (b : Bolov) : (b.modTrg f).sort = b.sort := rfl
@[simp] theorem Bolov.modTrg_notices (f : TrgState → TrgState) (b : Bolov) : (b.modTrg f).notices = b.notices := rfl
@[simp] theorem Bolov.modTrg_issued (f : TrgState → TrgState) (b : Bolov) : (b.modTrg f).issued = b.issued := rfl
@[simp] theorem Bolov.modTrg_lanes (f : TrgState → TrgState) (b : Bolov) : (b.modTrg f).lanes = b.lanes := rfl
@[simp] theorem Bolov.modTrg_trg (f : TrgState → TrgState) (b : Bolov) : (b.modTrg f).trg = f b.trg := rfl
@[simp] theorem Bolov.modTrg_rate (f : TrgState → TrgState) (b : Bolov) : (b.modTrg f).rate = b.rate := rfl
@[simp] theorem Bolov.modTrg_isu (f : TrgState → TrgState) (b : Bolov) : (b.modTrg f).isu = b.isu := rfl
@[simp] theorem Bolov.modTrg_pod (f : TrgState → TrgState) (b : Bolov) : (b.modTrg f).pod = b.pod := rfl
@[simp] theorem Bolov.modTrg_mere (f : TrgState → TrgState) (b : Bolov) : (b.modTrg f).mere = b.mere := rfl
@[simp] theorem Bolov.modTrg_tarn (f : TrgState → TrgState) (b : Bolov) : (b.modTrg f).tarn = b.tarn := rfl
@[simp] theorem Bolov.modTrg_cmt (f : TrgState → TrgState) (b : Bolov) : (b.modTrg f).cmt = b.cmt := rfl
@[simp] theorem Bolov.modTrg_pwr (f : TrgState → TrgState) (b : Bolov) : (b.modTrg f).pwr = b.pwr := rfl
@[simp] theorem Bolov.modTrg_mon (f : TrgState → TrgState) (b : Bolov) : (b.modTrg f).mon = b.mon := rfl
@[simp] theorem Bolov.modTrg_grd (f : TrgState → TrgState) (b : Bolov) : (b.modTrg f).grd = b.grd := rfl
@[simp] theorem Bolov.modTrg_sec (f : TrgState → TrgState) (b : Bolov) : (b.modTrg f).sec = b.sec := rfl
@[simp] theorem Bolov.modTrg_gateIn (f : TrgState → TrgState) (b : Bolov) : (b.modTrg f).gateIn = b.gateIn := rfl

@[simp] theorem Bolov.send_tick (p : Nat) (c : PortCmd) (b : Bolov) : (b.send p c).tick = b.tick := rfl
@[simp] theorem Bolov.send_up (p : Nat) (c : PortCmd) (b : Bolov) : (b.send p c).up = b.up := rfl
@[simp] theorem Bolov.send_regs (p : Nat) (c : PortCmd) (b : Bolov) : (b.send p c).regs = b.regs := rfl
@[simp] theorem Bolov.send_counters (p : Nat) (c : PortCmd) (b : Bolov) : (b.send p c).counters = b.counters := rfl
@[simp] theorem Bolov.send_hostLatch (p : Nat) (c : PortCmd) (b : Bolov) : (b.send p c).hostLatch = b.hostLatch := rfl
@[simp] theorem Bolov.send_coreLatch (p : Nat) (c : PortCmd) (b : Bolov) : (b.send p c).coreLatch = b.coreLatch := rfl
@[simp] theorem Bolov.send_heldLo (p : Nat) (c : PortCmd) (b : Bolov) : (b.send p c).heldLo = b.heldLo := rfl
@[simp] theorem Bolov.send_owed (p : Nat) (c : PortCmd) (b : Bolov) : (b.send p c).owed = b.owed := rfl
@[simp] theorem Bolov.send_logLost (p : Nat) (c : PortCmd) (b : Bolov) : (b.send p c).logLost = b.logLost := rfl
@[simp] theorem Bolov.send_binIbi (p : Nat) (c : PortCmd) (b : Bolov) : (b.send p c).binIbi = b.binIbi := rfl
@[simp] theorem Bolov.send_queues (p : Nat) (c : PortCmd) (b : Bolov) : (b.send p c).queues = b.queues := rfl
@[simp] theorem Bolov.send_i3c (p : Nat) (c : PortCmd) (b : Bolov) : (b.send p c).i3c = b.i3c := rfl
@[simp] theorem Bolov.send_windows (p : Nat) (c : PortCmd) (b : Bolov) : (b.send p c).windows = b.windows := rfl
@[simp] theorem Bolov.send_rmt (p : Nat) (c : PortCmd) (b : Bolov) : (b.send p c).rmt = b.rmt := rfl
@[simp] theorem Bolov.send_time (p : Nat) (c : PortCmd) (b : Bolov) : (b.send p c).time = b.time := rfl
@[simp] theorem Bolov.send_ptp (p : Nat) (c : PortCmd) (b : Bolov) : (b.send p c).ptp = b.ptp := rfl
@[simp] theorem Bolov.send_sort (p : Nat) (c : PortCmd) (b : Bolov) : (b.send p c).sort = b.sort := rfl
@[simp] theorem Bolov.send_notices (p : Nat) (c : PortCmd) (b : Bolov) : (b.send p c).notices = b.notices := rfl
@[simp] theorem Bolov.send_issued (p : Nat) (c : PortCmd) (b : Bolov) : (b.send p c).issued = b.issued := rfl
@[simp] theorem Bolov.send_lanes (p : Nat) (c : PortCmd) (b : Bolov) : (b.send p c).lanes = b.lanes := rfl
@[simp] theorem Bolov.send_trg (p : Nat) (c : PortCmd) (b : Bolov) : (b.send p c).trg = b.trg := rfl
@[simp] theorem Bolov.send_rate (p : Nat) (c : PortCmd) (b : Bolov) : (b.send p c).rate = b.rate := rfl
@[simp] theorem Bolov.send_isu (p : Nat) (c : PortCmd) (b : Bolov) : (b.send p c).isu = b.isu := rfl
@[simp] theorem Bolov.send_pod (p : Nat) (c : PortCmd) (b : Bolov) : (b.send p c).pod = b.pod := rfl
@[simp] theorem Bolov.send_mere (p : Nat) (c : PortCmd) (b : Bolov) : (b.send p c).mere = b.mere := rfl
@[simp] theorem Bolov.send_tarn (p : Nat) (c : PortCmd) (b : Bolov) : (b.send p c).tarn = b.tarn := rfl
@[simp] theorem Bolov.send_cmt (p : Nat) (c : PortCmd) (b : Bolov) : (b.send p c).cmt = b.cmt := rfl
@[simp] theorem Bolov.send_pwr (p : Nat) (c : PortCmd) (b : Bolov) : (b.send p c).pwr = b.pwr := rfl
@[simp] theorem Bolov.send_mon (p : Nat) (c : PortCmd) (b : Bolov) : (b.send p c).mon = b.mon := rfl
@[simp] theorem Bolov.send_grd (p : Nat) (c : PortCmd) (b : Bolov) : (b.send p c).grd = b.grd := rfl
@[simp] theorem Bolov.send_sec (p : Nat) (c : PortCmd) (b : Bolov) : (b.send p c).sec = b.sec := rfl
@[simp] theorem Bolov.send_gateIn (p : Nat) (c : PortCmd) (b : Bolov) : (b.send p c).gateIn = b.gateIn := rfl

@[simp] theorem Jilek.modCell_tick (c : Nat) (f : CellState → CellState) (j : Jilek) : (j.modCell c f).tick = j.tick := rfl
@[simp] theorem Jilek.modCell_up (c : Nat) (f : CellState → CellState) (j : Jilek) : (j.modCell c f).up = j.up := rfl
@[simp] theorem Jilek.modCell_shift (c : Nat) (f : CellState → CellState) (j : Jilek) : (j.modCell c f).shift = j.shift := rfl
@[simp] theorem Jilek.modCell_tiles (c : Nat) (f : CellState → CellState) (j : Jilek) : (j.modCell c f).tiles = j.tiles := rfl
@[simp] theorem Jilek.modCell_merges (c : Nat) (f : CellState → CellState) (j : Jilek) : (j.modCell c f).merges = j.merges := rfl
@[simp] theorem Jilek.modCell_framers (c : Nat) (f : CellState → CellState) (j : Jilek) : (j.modCell c f).framers = j.framers := rfl
@[simp] theorem Jilek.modCell_upSent (c : Nat) (f : CellState → CellState) (j : Jilek) : (j.modCell c f).upSent = j.upSent := rfl
@[simp] theorem Jilek.modCell_upBlock (c : Nat) (f : CellState → CellState) (j : Jilek) : (j.modCell c f).upBlock = j.upBlock := rfl
@[simp] theorem Jilek.modCell_upScr (c : Nat) (f : CellState → CellState) (j : Jilek) : (j.modCell c f).upScr = j.upScr := rfl
@[simp] theorem Jilek.modCell_upState (c : Nat) (f : CellState → CellState) (j : Jilek) : (j.modCell c f).upState = j.upState := rfl
@[simp] theorem Jilek.modCell_responses (c : Nat) (f : CellState → CellState) (j : Jilek) : (j.modCell c f).responses = j.responses := rfl
@[simp] theorem Jilek.modCell_statuses (c : Nat) (f : CellState → CellState) (j : Jilek) : (j.modCell c f).statuses = j.statuses := rfl
@[simp] theorem Jilek.modCell_downlinks (c : Nat) (f : CellState → CellState) (j : Jilek) : (j.modCell c f).downlinks = j.downlinks := rfl
@[simp] theorem Jilek.modCell_due (c : Nat) (f : CellState → CellState) (j : Jilek) : (j.modCell c f).due = j.due := rfl
@[simp] theorem Jilek.modCell_src (c : Nat) (f : CellState → CellState) (j : Jilek) : (j.modCell c f).src = j.src := rfl
@[simp] theorem Jilek.modCell_holdover (c : Nat) (f : CellState → CellState) (j : Jilek) : (j.modCell c f).holdover = j.holdover := rfl
@[simp] theorem Jilek.modCell_srcNext (c : Nat) (f : CellState → CellState) (j : Jilek) : (j.modCell c f).srcNext = j.srcNext := rfl
@[simp] theorem Jilek.modCell_tickSet (c : Nat) (f : CellState → CellState) (j : Jilek) : (j.modCell c f).tickSet = j.tickSet := rfl
@[simp] theorem Jilek.modCell_slew (c : Nat) (f : CellState → CellState) (j : Jilek) : (j.modCell c f).slew = j.slew := rfl
@[simp] theorem Jilek.modCell_edgeMove (c : Nat) (f : CellState → CellState) (j : Jilek) : (j.modCell c f).edgeMove = j.edgeMove := rfl
@[simp] theorem Jilek.modCell_thrWas (c : Nat) (f : CellState → CellState) (j : Jilek) : (j.modCell c f).thrWas = j.thrWas := rfl
@[simp] theorem Jilek.modCell_thrAt (c : Nat) (f : CellState → CellState) (j : Jilek) : (j.modCell c f).thrAt = j.thrAt := rfl
@[simp] theorem Jilek.modCell_lease (c : Nat) (f : CellState → CellState) (j : Jilek) : (j.modCell c f).lease = j.lease := rfl
@[simp] theorem Jilek.modCell_injections (c : Nat) (f : CellState → CellState) (j : Jilek) : (j.modCell c f).injections = j.injections := rfl
@[simp] theorem Jilek.modCell_lastInjection (c : Nat) (f : CellState → CellState) (j : Jilek) : (j.modCell c f).lastInjection = j.lastInjection := rfl
@[simp] theorem Jilek.modCell_holdUntil (c : Nat) (f : CellState → CellState) (j : Jilek) : (j.modCell c f).holdUntil = j.holdUntil := rfl
@[simp] theorem Jilek.modCell_commit (c : Nat) (f : CellState → CellState) (j : Jilek) : (j.modCell c f).commit = j.commit := rfl
@[simp] theorem Jilek.modCell_epoch (c : Nat) (f : CellState → CellState) (j : Jilek) : (j.modCell c f).epoch = j.epoch := rfl
@[simp] theorem Jilek.modCell_switched (c : Nat) (f : CellState → CellState) (j : Jilek) : (j.modCell c f).switched = j.switched := rfl
@[simp] theorem Jilek.modCell_switchedLate (c : Nat) (f : CellState → CellState) (j : Jilek) : (j.modCell c f).switchedLate = j.switchedLate := rfl
@[simp] theorem Jilek.modCell_lastSwitch (c : Nat) (f : CellState → CellState) (j : Jilek) : (j.modCell c f).lastSwitch = j.lastSwitch := rfl
@[simp] theorem Jilek.modCell_lastTarget (c : Nat) (f : CellState → CellState) (j : Jilek) : (j.modCell c f).lastTarget = j.lastTarget := rfl
@[simp] theorem Jilek.modCell_regs (c : Nat) (f : CellState → CellState) (j : Jilek) : (j.modCell c f).regs = j.regs := rfl
@[simp] theorem Jilek.modCell_staged (c : Nat) (f : CellState → CellState) (j : Jilek) : (j.modCell c f).staged = j.staged := rfl
@[simp] theorem Jilek.modCell_taken (c : Nat) (f : CellState → CellState) (j : Jilek) : (j.modCell c f).taken = j.taken := rfl
@[simp] theorem Jilek.modCell_counters (c : Nat) (f : CellState → CellState) (j : Jilek) : (j.modCell c f).counters = j.counters := rfl
@[simp] theorem Jilek.modCell_overrunSeen (c : Nat) (f : CellState → CellState) (j : Jilek) : (j.modCell c f).overrunSeen = j.overrunSeen := rfl
@[simp] theorem Jilek.modCell_overageSeen (c : Nat) (f : CellState → CellState) (j : Jilek) : (j.modCell c f).overageSeen = j.overageSeen := rfl
@[simp] theorem Jilek.modCell_lastOverrun (c : Nat) (f : CellState → CellState) (j : Jilek) : (j.modCell c f).lastOverrun = j.lastOverrun := rfl
@[simp] theorem Jilek.modCell_latches (c : Nat) (f : CellState → CellState) (j : Jilek) : (j.modCell c f).latches = j.latches := rfl
@[simp] theorem Jilek.modCell_lastRead (c : Nat) (f : CellState → CellState) (j : Jilek) : (j.modCell c f).lastRead = j.lastRead := rfl
@[simp] theorem Jilek.modCell_unit (c : Nat) (f : CellState → CellState) (j : Jilek) : (j.modCell c f).unit = j.unit := rfl
@[simp] theorem Jilek.modCell_otpCrc (c : Nat) (f : CellState → CellState) (j : Jilek) : (j.modCell c f).otpCrc = j.otpCrc := rfl
@[simp] theorem Jilek.modCell_cause (c : Nat) (f : CellState → CellState) (j : Jilek) : (j.modCell c f).cause = j.cause := rfl
@[simp] theorem Jilek.modCell_unlockedSince (c : Nat) (f : CellState → CellState) (j : Jilek) : (j.modCell c f).unlockedSince = j.unlockedSince := rfl
@[simp] theorem Jilek.modCell_inReset (c : Nat) (f : CellState → CellState) (j : Jilek) : (j.modCell c f).inReset = j.inReset := rfl
@[simp] theorem Jilek.modCell_draws (c : Nat) (f : CellState → CellState) (j : Jilek) : (j.modCell c f).draws = j.draws := rfl

@[simp] theorem Jilek.modTile_tick (t : Nat) (f : TileState → TileState) (j : Jilek) : (j.modTile t f).tick = j.tick := rfl
@[simp] theorem Jilek.modTile_up (t : Nat) (f : TileState → TileState) (j : Jilek) : (j.modTile t f).up = j.up := rfl
@[simp] theorem Jilek.modTile_shift (t : Nat) (f : TileState → TileState) (j : Jilek) : (j.modTile t f).shift = j.shift := rfl
@[simp] theorem Jilek.modTile_cells (t : Nat) (f : TileState → TileState) (j : Jilek) : (j.modTile t f).cells = j.cells := rfl
@[simp] theorem Jilek.modTile_merges (t : Nat) (f : TileState → TileState) (j : Jilek) : (j.modTile t f).merges = j.merges := rfl
@[simp] theorem Jilek.modTile_framers (t : Nat) (f : TileState → TileState) (j : Jilek) : (j.modTile t f).framers = j.framers := rfl
@[simp] theorem Jilek.modTile_upSent (t : Nat) (f : TileState → TileState) (j : Jilek) : (j.modTile t f).upSent = j.upSent := rfl
@[simp] theorem Jilek.modTile_upBlock (t : Nat) (f : TileState → TileState) (j : Jilek) : (j.modTile t f).upBlock = j.upBlock := rfl
@[simp] theorem Jilek.modTile_upScr (t : Nat) (f : TileState → TileState) (j : Jilek) : (j.modTile t f).upScr = j.upScr := rfl
@[simp] theorem Jilek.modTile_upState (t : Nat) (f : TileState → TileState) (j : Jilek) : (j.modTile t f).upState = j.upState := rfl
@[simp] theorem Jilek.modTile_responses (t : Nat) (f : TileState → TileState) (j : Jilek) : (j.modTile t f).responses = j.responses := rfl
@[simp] theorem Jilek.modTile_statuses (t : Nat) (f : TileState → TileState) (j : Jilek) : (j.modTile t f).statuses = j.statuses := rfl
@[simp] theorem Jilek.modTile_downlinks (t : Nat) (f : TileState → TileState) (j : Jilek) : (j.modTile t f).downlinks = j.downlinks := rfl
@[simp] theorem Jilek.modTile_due (t : Nat) (f : TileState → TileState) (j : Jilek) : (j.modTile t f).due = j.due := rfl
@[simp] theorem Jilek.modTile_src (t : Nat) (f : TileState → TileState) (j : Jilek) : (j.modTile t f).src = j.src := rfl
@[simp] theorem Jilek.modTile_holdover (t : Nat) (f : TileState → TileState) (j : Jilek) : (j.modTile t f).holdover = j.holdover := rfl
@[simp] theorem Jilek.modTile_srcNext (t : Nat) (f : TileState → TileState) (j : Jilek) : (j.modTile t f).srcNext = j.srcNext := rfl
@[simp] theorem Jilek.modTile_tickSet (t : Nat) (f : TileState → TileState) (j : Jilek) : (j.modTile t f).tickSet = j.tickSet := rfl
@[simp] theorem Jilek.modTile_slew (t : Nat) (f : TileState → TileState) (j : Jilek) : (j.modTile t f).slew = j.slew := rfl
@[simp] theorem Jilek.modTile_edgeMove (t : Nat) (f : TileState → TileState) (j : Jilek) : (j.modTile t f).edgeMove = j.edgeMove := rfl
@[simp] theorem Jilek.modTile_thrWas (t : Nat) (f : TileState → TileState) (j : Jilek) : (j.modTile t f).thrWas = j.thrWas := rfl
@[simp] theorem Jilek.modTile_thrAt (t : Nat) (f : TileState → TileState) (j : Jilek) : (j.modTile t f).thrAt = j.thrAt := rfl
@[simp] theorem Jilek.modTile_lease (t : Nat) (f : TileState → TileState) (j : Jilek) : (j.modTile t f).lease = j.lease := rfl
@[simp] theorem Jilek.modTile_injections (t : Nat) (f : TileState → TileState) (j : Jilek) : (j.modTile t f).injections = j.injections := rfl
@[simp] theorem Jilek.modTile_lastInjection (t : Nat) (f : TileState → TileState) (j : Jilek) : (j.modTile t f).lastInjection = j.lastInjection := rfl
@[simp] theorem Jilek.modTile_holdUntil (t : Nat) (f : TileState → TileState) (j : Jilek) : (j.modTile t f).holdUntil = j.holdUntil := rfl
@[simp] theorem Jilek.modTile_commit (t : Nat) (f : TileState → TileState) (j : Jilek) : (j.modTile t f).commit = j.commit := rfl
@[simp] theorem Jilek.modTile_epoch (t : Nat) (f : TileState → TileState) (j : Jilek) : (j.modTile t f).epoch = j.epoch := rfl
@[simp] theorem Jilek.modTile_switched (t : Nat) (f : TileState → TileState) (j : Jilek) : (j.modTile t f).switched = j.switched := rfl
@[simp] theorem Jilek.modTile_switchedLate (t : Nat) (f : TileState → TileState) (j : Jilek) : (j.modTile t f).switchedLate = j.switchedLate := rfl
@[simp] theorem Jilek.modTile_lastSwitch (t : Nat) (f : TileState → TileState) (j : Jilek) : (j.modTile t f).lastSwitch = j.lastSwitch := rfl
@[simp] theorem Jilek.modTile_lastTarget (t : Nat) (f : TileState → TileState) (j : Jilek) : (j.modTile t f).lastTarget = j.lastTarget := rfl
@[simp] theorem Jilek.modTile_regs (t : Nat) (f : TileState → TileState) (j : Jilek) : (j.modTile t f).regs = j.regs := rfl
@[simp] theorem Jilek.modTile_staged (t : Nat) (f : TileState → TileState) (j : Jilek) : (j.modTile t f).staged = j.staged := rfl
@[simp] theorem Jilek.modTile_taken (t : Nat) (f : TileState → TileState) (j : Jilek) : (j.modTile t f).taken = j.taken := rfl
@[simp] theorem Jilek.modTile_counters (t : Nat) (f : TileState → TileState) (j : Jilek) : (j.modTile t f).counters = j.counters := rfl
@[simp] theorem Jilek.modTile_overrunSeen (t : Nat) (f : TileState → TileState) (j : Jilek) : (j.modTile t f).overrunSeen = j.overrunSeen := rfl
@[simp] theorem Jilek.modTile_overageSeen (t : Nat) (f : TileState → TileState) (j : Jilek) : (j.modTile t f).overageSeen = j.overageSeen := rfl
@[simp] theorem Jilek.modTile_lastOverrun (t : Nat) (f : TileState → TileState) (j : Jilek) : (j.modTile t f).lastOverrun = j.lastOverrun := rfl
@[simp] theorem Jilek.modTile_latches (t : Nat) (f : TileState → TileState) (j : Jilek) : (j.modTile t f).latches = j.latches := rfl
@[simp] theorem Jilek.modTile_lastRead (t : Nat) (f : TileState → TileState) (j : Jilek) : (j.modTile t f).lastRead = j.lastRead := rfl
@[simp] theorem Jilek.modTile_unit (t : Nat) (f : TileState → TileState) (j : Jilek) : (j.modTile t f).unit = j.unit := rfl
@[simp] theorem Jilek.modTile_otpCrc (t : Nat) (f : TileState → TileState) (j : Jilek) : (j.modTile t f).otpCrc = j.otpCrc := rfl
@[simp] theorem Jilek.modTile_cause (t : Nat) (f : TileState → TileState) (j : Jilek) : (j.modTile t f).cause = j.cause := rfl
@[simp] theorem Jilek.modTile_unlockedSince (t : Nat) (f : TileState → TileState) (j : Jilek) : (j.modTile t f).unlockedSince = j.unlockedSince := rfl
@[simp] theorem Jilek.modTile_inReset (t : Nat) (f : TileState → TileState) (j : Jilek) : (j.modTile t f).inReset = j.inReset := rfl
@[simp] theorem Jilek.modTile_draws (t : Nat) (f : TileState → TileState) (j : Jilek) : (j.modTile t f).draws = j.draws := rfl

@[simp] theorem Jilek.modFramer_tick (u : Fin 2) (f : Framer → Framer) (j : Jilek) : (j.modFramer u f).tick = j.tick := rfl
@[simp] theorem Jilek.modFramer_up (u : Fin 2) (f : Framer → Framer) (j : Jilek) : (j.modFramer u f).up = j.up := rfl
@[simp] theorem Jilek.modFramer_shift (u : Fin 2) (f : Framer → Framer) (j : Jilek) : (j.modFramer u f).shift = j.shift := rfl
@[simp] theorem Jilek.modFramer_cells (u : Fin 2) (f : Framer → Framer) (j : Jilek) : (j.modFramer u f).cells = j.cells := rfl
@[simp] theorem Jilek.modFramer_tiles (u : Fin 2) (f : Framer → Framer) (j : Jilek) : (j.modFramer u f).tiles = j.tiles := rfl
@[simp] theorem Jilek.modFramer_merges (u : Fin 2) (f : Framer → Framer) (j : Jilek) : (j.modFramer u f).merges = j.merges := rfl
@[simp] theorem Jilek.modFramer_upSent (u : Fin 2) (f : Framer → Framer) (j : Jilek) : (j.modFramer u f).upSent = j.upSent := rfl
@[simp] theorem Jilek.modFramer_upBlock (u : Fin 2) (f : Framer → Framer) (j : Jilek) : (j.modFramer u f).upBlock = j.upBlock := rfl
@[simp] theorem Jilek.modFramer_upScr (u : Fin 2) (f : Framer → Framer) (j : Jilek) : (j.modFramer u f).upScr = j.upScr := rfl
@[simp] theorem Jilek.modFramer_upState (u : Fin 2) (f : Framer → Framer) (j : Jilek) : (j.modFramer u f).upState = j.upState := rfl
@[simp] theorem Jilek.modFramer_responses (u : Fin 2) (f : Framer → Framer) (j : Jilek) : (j.modFramer u f).responses = j.responses := rfl
@[simp] theorem Jilek.modFramer_statuses (u : Fin 2) (f : Framer → Framer) (j : Jilek) : (j.modFramer u f).statuses = j.statuses := rfl
@[simp] theorem Jilek.modFramer_downlinks (u : Fin 2) (f : Framer → Framer) (j : Jilek) : (j.modFramer u f).downlinks = j.downlinks := rfl
@[simp] theorem Jilek.modFramer_due (u : Fin 2) (f : Framer → Framer) (j : Jilek) : (j.modFramer u f).due = j.due := rfl
@[simp] theorem Jilek.modFramer_src (u : Fin 2) (f : Framer → Framer) (j : Jilek) : (j.modFramer u f).src = j.src := rfl
@[simp] theorem Jilek.modFramer_holdover (u : Fin 2) (f : Framer → Framer) (j : Jilek) : (j.modFramer u f).holdover = j.holdover := rfl
@[simp] theorem Jilek.modFramer_srcNext (u : Fin 2) (f : Framer → Framer) (j : Jilek) : (j.modFramer u f).srcNext = j.srcNext := rfl
@[simp] theorem Jilek.modFramer_tickSet (u : Fin 2) (f : Framer → Framer) (j : Jilek) : (j.modFramer u f).tickSet = j.tickSet := rfl
@[simp] theorem Jilek.modFramer_slew (u : Fin 2) (f : Framer → Framer) (j : Jilek) : (j.modFramer u f).slew = j.slew := rfl
@[simp] theorem Jilek.modFramer_edgeMove (u : Fin 2) (f : Framer → Framer) (j : Jilek) : (j.modFramer u f).edgeMove = j.edgeMove := rfl
@[simp] theorem Jilek.modFramer_thrWas (u : Fin 2) (f : Framer → Framer) (j : Jilek) : (j.modFramer u f).thrWas = j.thrWas := rfl
@[simp] theorem Jilek.modFramer_thrAt (u : Fin 2) (f : Framer → Framer) (j : Jilek) : (j.modFramer u f).thrAt = j.thrAt := rfl
@[simp] theorem Jilek.modFramer_lease (u : Fin 2) (f : Framer → Framer) (j : Jilek) : (j.modFramer u f).lease = j.lease := rfl
@[simp] theorem Jilek.modFramer_injections (u : Fin 2) (f : Framer → Framer) (j : Jilek) : (j.modFramer u f).injections = j.injections := rfl
@[simp] theorem Jilek.modFramer_lastInjection (u : Fin 2) (f : Framer → Framer) (j : Jilek) : (j.modFramer u f).lastInjection = j.lastInjection := rfl
@[simp] theorem Jilek.modFramer_holdUntil (u : Fin 2) (f : Framer → Framer) (j : Jilek) : (j.modFramer u f).holdUntil = j.holdUntil := rfl
@[simp] theorem Jilek.modFramer_commit (u : Fin 2) (f : Framer → Framer) (j : Jilek) : (j.modFramer u f).commit = j.commit := rfl
@[simp] theorem Jilek.modFramer_epoch (u : Fin 2) (f : Framer → Framer) (j : Jilek) : (j.modFramer u f).epoch = j.epoch := rfl
@[simp] theorem Jilek.modFramer_switched (u : Fin 2) (f : Framer → Framer) (j : Jilek) : (j.modFramer u f).switched = j.switched := rfl
@[simp] theorem Jilek.modFramer_switchedLate (u : Fin 2) (f : Framer → Framer) (j : Jilek) : (j.modFramer u f).switchedLate = j.switchedLate := rfl
@[simp] theorem Jilek.modFramer_lastSwitch (u : Fin 2) (f : Framer → Framer) (j : Jilek) : (j.modFramer u f).lastSwitch = j.lastSwitch := rfl
@[simp] theorem Jilek.modFramer_lastTarget (u : Fin 2) (f : Framer → Framer) (j : Jilek) : (j.modFramer u f).lastTarget = j.lastTarget := rfl
@[simp] theorem Jilek.modFramer_regs (u : Fin 2) (f : Framer → Framer) (j : Jilek) : (j.modFramer u f).regs = j.regs := rfl
@[simp] theorem Jilek.modFramer_staged (u : Fin 2) (f : Framer → Framer) (j : Jilek) : (j.modFramer u f).staged = j.staged := rfl
@[simp] theorem Jilek.modFramer_taken (u : Fin 2) (f : Framer → Framer) (j : Jilek) : (j.modFramer u f).taken = j.taken := rfl
@[simp] theorem Jilek.modFramer_counters (u : Fin 2) (f : Framer → Framer) (j : Jilek) : (j.modFramer u f).counters = j.counters := rfl
@[simp] theorem Jilek.modFramer_overrunSeen (u : Fin 2) (f : Framer → Framer) (j : Jilek) : (j.modFramer u f).overrunSeen = j.overrunSeen := rfl
@[simp] theorem Jilek.modFramer_overageSeen (u : Fin 2) (f : Framer → Framer) (j : Jilek) : (j.modFramer u f).overageSeen = j.overageSeen := rfl
@[simp] theorem Jilek.modFramer_lastOverrun (u : Fin 2) (f : Framer → Framer) (j : Jilek) : (j.modFramer u f).lastOverrun = j.lastOverrun := rfl
@[simp] theorem Jilek.modFramer_latches (u : Fin 2) (f : Framer → Framer) (j : Jilek) : (j.modFramer u f).latches = j.latches := rfl
@[simp] theorem Jilek.modFramer_lastRead (u : Fin 2) (f : Framer → Framer) (j : Jilek) : (j.modFramer u f).lastRead = j.lastRead := rfl
@[simp] theorem Jilek.modFramer_unit (u : Fin 2) (f : Framer → Framer) (j : Jilek) : (j.modFramer u f).unit = j.unit := rfl
@[simp] theorem Jilek.modFramer_otpCrc (u : Fin 2) (f : Framer → Framer) (j : Jilek) : (j.modFramer u f).otpCrc = j.otpCrc := rfl
@[simp] theorem Jilek.modFramer_cause (u : Fin 2) (f : Framer → Framer) (j : Jilek) : (j.modFramer u f).cause = j.cause := rfl
@[simp] theorem Jilek.modFramer_unlockedSince (u : Fin 2) (f : Framer → Framer) (j : Jilek) : (j.modFramer u f).unlockedSince = j.unlockedSince := rfl
@[simp] theorem Jilek.modFramer_inReset (u : Fin 2) (f : Framer → Framer) (j : Jilek) : (j.modFramer u f).inReset = j.inReset := rfl
@[simp] theorem Jilek.modFramer_draws (u : Fin 2) (f : Framer → Framer) (j : Jilek) : (j.modFramer u f).draws = j.draws := rfl

@[simp] theorem Jilek.modMerge_tick (u : Fin 2) (f : Merge → Merge) (j : Jilek) : (j.modMerge u f).tick = j.tick := rfl
@[simp] theorem Jilek.modMerge_up (u : Fin 2) (f : Merge → Merge) (j : Jilek) : (j.modMerge u f).up = j.up := rfl
@[simp] theorem Jilek.modMerge_shift (u : Fin 2) (f : Merge → Merge) (j : Jilek) : (j.modMerge u f).shift = j.shift := rfl
@[simp] theorem Jilek.modMerge_cells (u : Fin 2) (f : Merge → Merge) (j : Jilek) : (j.modMerge u f).cells = j.cells := rfl
@[simp] theorem Jilek.modMerge_tiles (u : Fin 2) (f : Merge → Merge) (j : Jilek) : (j.modMerge u f).tiles = j.tiles := rfl
@[simp] theorem Jilek.modMerge_framers (u : Fin 2) (f : Merge → Merge) (j : Jilek) : (j.modMerge u f).framers = j.framers := rfl
@[simp] theorem Jilek.modMerge_upSent (u : Fin 2) (f : Merge → Merge) (j : Jilek) : (j.modMerge u f).upSent = j.upSent := rfl
@[simp] theorem Jilek.modMerge_upBlock (u : Fin 2) (f : Merge → Merge) (j : Jilek) : (j.modMerge u f).upBlock = j.upBlock := rfl
@[simp] theorem Jilek.modMerge_upScr (u : Fin 2) (f : Merge → Merge) (j : Jilek) : (j.modMerge u f).upScr = j.upScr := rfl
@[simp] theorem Jilek.modMerge_upState (u : Fin 2) (f : Merge → Merge) (j : Jilek) : (j.modMerge u f).upState = j.upState := rfl
@[simp] theorem Jilek.modMerge_responses (u : Fin 2) (f : Merge → Merge) (j : Jilek) : (j.modMerge u f).responses = j.responses := rfl
@[simp] theorem Jilek.modMerge_statuses (u : Fin 2) (f : Merge → Merge) (j : Jilek) : (j.modMerge u f).statuses = j.statuses := rfl
@[simp] theorem Jilek.modMerge_downlinks (u : Fin 2) (f : Merge → Merge) (j : Jilek) : (j.modMerge u f).downlinks = j.downlinks := rfl
@[simp] theorem Jilek.modMerge_due (u : Fin 2) (f : Merge → Merge) (j : Jilek) : (j.modMerge u f).due = j.due := rfl
@[simp] theorem Jilek.modMerge_src (u : Fin 2) (f : Merge → Merge) (j : Jilek) : (j.modMerge u f).src = j.src := rfl
@[simp] theorem Jilek.modMerge_holdover (u : Fin 2) (f : Merge → Merge) (j : Jilek) : (j.modMerge u f).holdover = j.holdover := rfl
@[simp] theorem Jilek.modMerge_srcNext (u : Fin 2) (f : Merge → Merge) (j : Jilek) : (j.modMerge u f).srcNext = j.srcNext := rfl
@[simp] theorem Jilek.modMerge_tickSet (u : Fin 2) (f : Merge → Merge) (j : Jilek) : (j.modMerge u f).tickSet = j.tickSet := rfl
@[simp] theorem Jilek.modMerge_slew (u : Fin 2) (f : Merge → Merge) (j : Jilek) : (j.modMerge u f).slew = j.slew := rfl
@[simp] theorem Jilek.modMerge_edgeMove (u : Fin 2) (f : Merge → Merge) (j : Jilek) : (j.modMerge u f).edgeMove = j.edgeMove := rfl
@[simp] theorem Jilek.modMerge_thrWas (u : Fin 2) (f : Merge → Merge) (j : Jilek) : (j.modMerge u f).thrWas = j.thrWas := rfl
@[simp] theorem Jilek.modMerge_thrAt (u : Fin 2) (f : Merge → Merge) (j : Jilek) : (j.modMerge u f).thrAt = j.thrAt := rfl
@[simp] theorem Jilek.modMerge_lease (u : Fin 2) (f : Merge → Merge) (j : Jilek) : (j.modMerge u f).lease = j.lease := rfl
@[simp] theorem Jilek.modMerge_injections (u : Fin 2) (f : Merge → Merge) (j : Jilek) : (j.modMerge u f).injections = j.injections := rfl
@[simp] theorem Jilek.modMerge_lastInjection (u : Fin 2) (f : Merge → Merge) (j : Jilek) : (j.modMerge u f).lastInjection = j.lastInjection := rfl
@[simp] theorem Jilek.modMerge_holdUntil (u : Fin 2) (f : Merge → Merge) (j : Jilek) : (j.modMerge u f).holdUntil = j.holdUntil := rfl
@[simp] theorem Jilek.modMerge_commit (u : Fin 2) (f : Merge → Merge) (j : Jilek) : (j.modMerge u f).commit = j.commit := rfl
@[simp] theorem Jilek.modMerge_epoch (u : Fin 2) (f : Merge → Merge) (j : Jilek) : (j.modMerge u f).epoch = j.epoch := rfl
@[simp] theorem Jilek.modMerge_switched (u : Fin 2) (f : Merge → Merge) (j : Jilek) : (j.modMerge u f).switched = j.switched := rfl
@[simp] theorem Jilek.modMerge_switchedLate (u : Fin 2) (f : Merge → Merge) (j : Jilek) : (j.modMerge u f).switchedLate = j.switchedLate := rfl
@[simp] theorem Jilek.modMerge_lastSwitch (u : Fin 2) (f : Merge → Merge) (j : Jilek) : (j.modMerge u f).lastSwitch = j.lastSwitch := rfl
@[simp] theorem Jilek.modMerge_lastTarget (u : Fin 2) (f : Merge → Merge) (j : Jilek) : (j.modMerge u f).lastTarget = j.lastTarget := rfl
@[simp] theorem Jilek.modMerge_regs (u : Fin 2) (f : Merge → Merge) (j : Jilek) : (j.modMerge u f).regs = j.regs := rfl
@[simp] theorem Jilek.modMerge_staged (u : Fin 2) (f : Merge → Merge) (j : Jilek) : (j.modMerge u f).staged = j.staged := rfl
@[simp] theorem Jilek.modMerge_taken (u : Fin 2) (f : Merge → Merge) (j : Jilek) : (j.modMerge u f).taken = j.taken := rfl
@[simp] theorem Jilek.modMerge_counters (u : Fin 2) (f : Merge → Merge) (j : Jilek) : (j.modMerge u f).counters = j.counters := rfl
@[simp] theorem Jilek.modMerge_overrunSeen (u : Fin 2) (f : Merge → Merge) (j : Jilek) : (j.modMerge u f).overrunSeen = j.overrunSeen := rfl
@[simp] theorem Jilek.modMerge_overageSeen (u : Fin 2) (f : Merge → Merge) (j : Jilek) : (j.modMerge u f).overageSeen = j.overageSeen := rfl
@[simp] theorem Jilek.modMerge_lastOverrun (u : Fin 2) (f : Merge → Merge) (j : Jilek) : (j.modMerge u f).lastOverrun = j.lastOverrun := rfl
@[simp] theorem Jilek.modMerge_latches (u : Fin 2) (f : Merge → Merge) (j : Jilek) : (j.modMerge u f).latches = j.latches := rfl
@[simp] theorem Jilek.modMerge_lastRead (u : Fin 2) (f : Merge → Merge) (j : Jilek) : (j.modMerge u f).lastRead = j.lastRead := rfl
@[simp] theorem Jilek.modMerge_unit (u : Fin 2) (f : Merge → Merge) (j : Jilek) : (j.modMerge u f).unit = j.unit := rfl
@[simp] theorem Jilek.modMerge_otpCrc (u : Fin 2) (f : Merge → Merge) (j : Jilek) : (j.modMerge u f).otpCrc = j.otpCrc := rfl
@[simp] theorem Jilek.modMerge_cause (u : Fin 2) (f : Merge → Merge) (j : Jilek) : (j.modMerge u f).cause = j.cause := rfl
@[simp] theorem Jilek.modMerge_unlockedSince (u : Fin 2) (f : Merge → Merge) (j : Jilek) : (j.modMerge u f).unlockedSince = j.unlockedSince := rfl
@[simp] theorem Jilek.modMerge_inReset (u : Fin 2) (f : Merge → Merge) (j : Jilek) : (j.modMerge u f).inReset = j.inReset := rfl
@[simp] theorem Jilek.modMerge_draws (u : Fin 2) (f : Merge → Merge) (j : Jilek) : (j.modMerge u f).draws = j.draws := rfl

@[simp] theorem Jilek.modDown_tick (d : Fin 2) (f : Downlink → Downlink) (j : Jilek) : (j.modDown d f).tick = j.tick := rfl
@[simp] theorem Jilek.modDown_up (d : Fin 2) (f : Downlink → Downlink) (j : Jilek) : (j.modDown d f).up = j.up := rfl
@[simp] theorem Jilek.modDown_shift (d : Fin 2) (f : Downlink → Downlink) (j : Jilek) : (j.modDown d f).shift = j.shift := rfl
@[simp] theorem Jilek.modDown_cells (d : Fin 2) (f : Downlink → Downlink) (j : Jilek) : (j.modDown d f).cells = j.cells := rfl
@[simp] theorem Jilek.modDown_tiles (d : Fin 2) (f : Downlink → Downlink) (j : Jilek) : (j.modDown d f).tiles = j.tiles := rfl
@[simp] theorem Jilek.modDown_merges (d : Fin 2) (f : Downlink → Downlink) (j : Jilek) : (j.modDown d f).merges = j.merges := rfl
@[simp] theorem Jilek.modDown_framers (d : Fin 2) (f : Downlink → Downlink) (j : Jilek) : (j.modDown d f).framers = j.framers := rfl
@[simp] theorem Jilek.modDown_upSent (d : Fin 2) (f : Downlink → Downlink) (j : Jilek) : (j.modDown d f).upSent = j.upSent := rfl
@[simp] theorem Jilek.modDown_upBlock (d : Fin 2) (f : Downlink → Downlink) (j : Jilek) : (j.modDown d f).upBlock = j.upBlock := rfl
@[simp] theorem Jilek.modDown_upScr (d : Fin 2) (f : Downlink → Downlink) (j : Jilek) : (j.modDown d f).upScr = j.upScr := rfl
@[simp] theorem Jilek.modDown_upState (d : Fin 2) (f : Downlink → Downlink) (j : Jilek) : (j.modDown d f).upState = j.upState := rfl
@[simp] theorem Jilek.modDown_responses (d : Fin 2) (f : Downlink → Downlink) (j : Jilek) : (j.modDown d f).responses = j.responses := rfl
@[simp] theorem Jilek.modDown_statuses (d : Fin 2) (f : Downlink → Downlink) (j : Jilek) : (j.modDown d f).statuses = j.statuses := rfl
@[simp] theorem Jilek.modDown_due (d : Fin 2) (f : Downlink → Downlink) (j : Jilek) : (j.modDown d f).due = j.due := rfl
@[simp] theorem Jilek.modDown_src (d : Fin 2) (f : Downlink → Downlink) (j : Jilek) : (j.modDown d f).src = j.src := rfl
@[simp] theorem Jilek.modDown_holdover (d : Fin 2) (f : Downlink → Downlink) (j : Jilek) : (j.modDown d f).holdover = j.holdover := rfl
@[simp] theorem Jilek.modDown_srcNext (d : Fin 2) (f : Downlink → Downlink) (j : Jilek) : (j.modDown d f).srcNext = j.srcNext := rfl
@[simp] theorem Jilek.modDown_tickSet (d : Fin 2) (f : Downlink → Downlink) (j : Jilek) : (j.modDown d f).tickSet = j.tickSet := rfl
@[simp] theorem Jilek.modDown_slew (d : Fin 2) (f : Downlink → Downlink) (j : Jilek) : (j.modDown d f).slew = j.slew := rfl
@[simp] theorem Jilek.modDown_edgeMove (d : Fin 2) (f : Downlink → Downlink) (j : Jilek) : (j.modDown d f).edgeMove = j.edgeMove := rfl
@[simp] theorem Jilek.modDown_thrWas (d : Fin 2) (f : Downlink → Downlink) (j : Jilek) : (j.modDown d f).thrWas = j.thrWas := rfl
@[simp] theorem Jilek.modDown_thrAt (d : Fin 2) (f : Downlink → Downlink) (j : Jilek) : (j.modDown d f).thrAt = j.thrAt := rfl
@[simp] theorem Jilek.modDown_lease (d : Fin 2) (f : Downlink → Downlink) (j : Jilek) : (j.modDown d f).lease = j.lease := rfl
@[simp] theorem Jilek.modDown_injections (d : Fin 2) (f : Downlink → Downlink) (j : Jilek) : (j.modDown d f).injections = j.injections := rfl
@[simp] theorem Jilek.modDown_lastInjection (d : Fin 2) (f : Downlink → Downlink) (j : Jilek) : (j.modDown d f).lastInjection = j.lastInjection := rfl
@[simp] theorem Jilek.modDown_holdUntil (d : Fin 2) (f : Downlink → Downlink) (j : Jilek) : (j.modDown d f).holdUntil = j.holdUntil := rfl
@[simp] theorem Jilek.modDown_commit (d : Fin 2) (f : Downlink → Downlink) (j : Jilek) : (j.modDown d f).commit = j.commit := rfl
@[simp] theorem Jilek.modDown_epoch (d : Fin 2) (f : Downlink → Downlink) (j : Jilek) : (j.modDown d f).epoch = j.epoch := rfl
@[simp] theorem Jilek.modDown_switched (d : Fin 2) (f : Downlink → Downlink) (j : Jilek) : (j.modDown d f).switched = j.switched := rfl
@[simp] theorem Jilek.modDown_switchedLate (d : Fin 2) (f : Downlink → Downlink) (j : Jilek) : (j.modDown d f).switchedLate = j.switchedLate := rfl
@[simp] theorem Jilek.modDown_lastSwitch (d : Fin 2) (f : Downlink → Downlink) (j : Jilek) : (j.modDown d f).lastSwitch = j.lastSwitch := rfl
@[simp] theorem Jilek.modDown_lastTarget (d : Fin 2) (f : Downlink → Downlink) (j : Jilek) : (j.modDown d f).lastTarget = j.lastTarget := rfl
@[simp] theorem Jilek.modDown_regs (d : Fin 2) (f : Downlink → Downlink) (j : Jilek) : (j.modDown d f).regs = j.regs := rfl
@[simp] theorem Jilek.modDown_staged (d : Fin 2) (f : Downlink → Downlink) (j : Jilek) : (j.modDown d f).staged = j.staged := rfl
@[simp] theorem Jilek.modDown_taken (d : Fin 2) (f : Downlink → Downlink) (j : Jilek) : (j.modDown d f).taken = j.taken := rfl
@[simp] theorem Jilek.modDown_counters (d : Fin 2) (f : Downlink → Downlink) (j : Jilek) : (j.modDown d f).counters = j.counters := rfl
@[simp] theorem Jilek.modDown_overrunSeen (d : Fin 2) (f : Downlink → Downlink) (j : Jilek) : (j.modDown d f).overrunSeen = j.overrunSeen := rfl
@[simp] theorem Jilek.modDown_overageSeen (d : Fin 2) (f : Downlink → Downlink) (j : Jilek) : (j.modDown d f).overageSeen = j.overageSeen := rfl
@[simp] theorem Jilek.modDown_lastOverrun (d : Fin 2) (f : Downlink → Downlink) (j : Jilek) : (j.modDown d f).lastOverrun = j.lastOverrun := rfl
@[simp] theorem Jilek.modDown_latches (d : Fin 2) (f : Downlink → Downlink) (j : Jilek) : (j.modDown d f).latches = j.latches := rfl
@[simp] theorem Jilek.modDown_lastRead (d : Fin 2) (f : Downlink → Downlink) (j : Jilek) : (j.modDown d f).lastRead = j.lastRead := rfl
@[simp] theorem Jilek.modDown_unit (d : Fin 2) (f : Downlink → Downlink) (j : Jilek) : (j.modDown d f).unit = j.unit := rfl
@[simp] theorem Jilek.modDown_otpCrc (d : Fin 2) (f : Downlink → Downlink) (j : Jilek) : (j.modDown d f).otpCrc = j.otpCrc := rfl
@[simp] theorem Jilek.modDown_cause (d : Fin 2) (f : Downlink → Downlink) (j : Jilek) : (j.modDown d f).cause = j.cause := rfl
@[simp] theorem Jilek.modDown_unlockedSince (d : Fin 2) (f : Downlink → Downlink) (j : Jilek) : (j.modDown d f).unlockedSince = j.unlockedSince := rfl
@[simp] theorem Jilek.modDown_inReset (d : Fin 2) (f : Downlink → Downlink) (j : Jilek) : (j.modDown d f).inReset = j.inReset := rfl
@[simp] theorem Jilek.modDown_draws (d : Fin 2) (f : Downlink → Downlink) (j : Jilek) : (j.modDown d f).draws = j.draws := rfl

@[simp] theorem Jilek.clearCtr_tick (a : Nat) (j : Jilek) : (j.clearCtr a).tick = j.tick := rfl
@[simp] theorem Jilek.clearCtr_up (a : Nat) (j : Jilek) : (j.clearCtr a).up = j.up := rfl
@[simp] theorem Jilek.clearCtr_shift (a : Nat) (j : Jilek) : (j.clearCtr a).shift = j.shift := rfl
@[simp] theorem Jilek.clearCtr_cells (a : Nat) (j : Jilek) : (j.clearCtr a).cells = j.cells := rfl
@[simp] theorem Jilek.clearCtr_tiles (a : Nat) (j : Jilek) : (j.clearCtr a).tiles = j.tiles := rfl
@[simp] theorem Jilek.clearCtr_merges (a : Nat) (j : Jilek) : (j.clearCtr a).merges = j.merges := rfl
@[simp] theorem Jilek.clearCtr_framers (a : Nat) (j : Jilek) : (j.clearCtr a).framers = j.framers := rfl
@[simp] theorem Jilek.clearCtr_upSent (a : Nat) (j : Jilek) : (j.clearCtr a).upSent = j.upSent := rfl
@[simp] theorem Jilek.clearCtr_upBlock (a : Nat) (j : Jilek) : (j.clearCtr a).upBlock = j.upBlock := rfl
@[simp] theorem Jilek.clearCtr_upScr (a : Nat) (j : Jilek) : (j.clearCtr a).upScr = j.upScr := rfl
@[simp] theorem Jilek.clearCtr_upState (a : Nat) (j : Jilek) : (j.clearCtr a).upState = j.upState := rfl
@[simp] theorem Jilek.clearCtr_responses (a : Nat) (j : Jilek) : (j.clearCtr a).responses = j.responses := rfl
@[simp] theorem Jilek.clearCtr_statuses (a : Nat) (j : Jilek) : (j.clearCtr a).statuses = j.statuses := rfl
@[simp] theorem Jilek.clearCtr_downlinks (a : Nat) (j : Jilek) : (j.clearCtr a).downlinks = j.downlinks := rfl
@[simp] theorem Jilek.clearCtr_due (a : Nat) (j : Jilek) : (j.clearCtr a).due = j.due := rfl
@[simp] theorem Jilek.clearCtr_src (a : Nat) (j : Jilek) : (j.clearCtr a).src = j.src := rfl
@[simp] theorem Jilek.clearCtr_holdover (a : Nat) (j : Jilek) : (j.clearCtr a).holdover = j.holdover := rfl
@[simp] theorem Jilek.clearCtr_srcNext (a : Nat) (j : Jilek) : (j.clearCtr a).srcNext = j.srcNext := rfl
@[simp] theorem Jilek.clearCtr_tickSet (a : Nat) (j : Jilek) : (j.clearCtr a).tickSet = j.tickSet := rfl
@[simp] theorem Jilek.clearCtr_slew (a : Nat) (j : Jilek) : (j.clearCtr a).slew = j.slew := rfl
@[simp] theorem Jilek.clearCtr_edgeMove (a : Nat) (j : Jilek) : (j.clearCtr a).edgeMove = j.edgeMove := rfl
@[simp] theorem Jilek.clearCtr_thrWas (a : Nat) (j : Jilek) : (j.clearCtr a).thrWas = j.thrWas := rfl
@[simp] theorem Jilek.clearCtr_thrAt (a : Nat) (j : Jilek) : (j.clearCtr a).thrAt = j.thrAt := rfl
@[simp] theorem Jilek.clearCtr_lease (a : Nat) (j : Jilek) : (j.clearCtr a).lease = j.lease := rfl
@[simp] theorem Jilek.clearCtr_injections (a : Nat) (j : Jilek) : (j.clearCtr a).injections = j.injections := rfl
@[simp] theorem Jilek.clearCtr_lastInjection (a : Nat) (j : Jilek) : (j.clearCtr a).lastInjection = j.lastInjection := rfl
@[simp] theorem Jilek.clearCtr_holdUntil (a : Nat) (j : Jilek) : (j.clearCtr a).holdUntil = j.holdUntil := rfl
@[simp] theorem Jilek.clearCtr_commit (a : Nat) (j : Jilek) : (j.clearCtr a).commit = j.commit := rfl
@[simp] theorem Jilek.clearCtr_epoch (a : Nat) (j : Jilek) : (j.clearCtr a).epoch = j.epoch := rfl
@[simp] theorem Jilek.clearCtr_switched (a : Nat) (j : Jilek) : (j.clearCtr a).switched = j.switched := rfl
@[simp] theorem Jilek.clearCtr_switchedLate (a : Nat) (j : Jilek) : (j.clearCtr a).switchedLate = j.switchedLate := rfl
@[simp] theorem Jilek.clearCtr_lastSwitch (a : Nat) (j : Jilek) : (j.clearCtr a).lastSwitch = j.lastSwitch := rfl
@[simp] theorem Jilek.clearCtr_lastTarget (a : Nat) (j : Jilek) : (j.clearCtr a).lastTarget = j.lastTarget := rfl
@[simp] theorem Jilek.clearCtr_regs (a : Nat) (j : Jilek) : (j.clearCtr a).regs = j.regs := rfl
@[simp] theorem Jilek.clearCtr_staged (a : Nat) (j : Jilek) : (j.clearCtr a).staged = j.staged := rfl
@[simp] theorem Jilek.clearCtr_taken (a : Nat) (j : Jilek) : (j.clearCtr a).taken = j.taken := rfl
@[simp] theorem Jilek.clearCtr_overrunSeen (a : Nat) (j : Jilek) : (j.clearCtr a).overrunSeen = j.overrunSeen := rfl
@[simp] theorem Jilek.clearCtr_overageSeen (a : Nat) (j : Jilek) : (j.clearCtr a).overageSeen = j.overageSeen := rfl
@[simp] theorem Jilek.clearCtr_lastOverrun (a : Nat) (j : Jilek) : (j.clearCtr a).lastOverrun = j.lastOverrun := rfl
@[simp] theorem Jilek.clearCtr_latches (a : Nat) (j : Jilek) : (j.clearCtr a).latches = j.latches := rfl
@[simp] theorem Jilek.clearCtr_lastRead (a : Nat) (j : Jilek) : (j.clearCtr a).lastRead = j.lastRead := rfl
@[simp] theorem Jilek.clearCtr_unit (a : Nat) (j : Jilek) : (j.clearCtr a).unit = j.unit := rfl
@[simp] theorem Jilek.clearCtr_otpCrc (a : Nat) (j : Jilek) : (j.clearCtr a).otpCrc = j.otpCrc := rfl
@[simp] theorem Jilek.clearCtr_cause (a : Nat) (j : Jilek) : (j.clearCtr a).cause = j.cause := rfl
@[simp] theorem Jilek.clearCtr_unlockedSince (a : Nat) (j : Jilek) : (j.clearCtr a).unlockedSince = j.unlockedSince := rfl
@[simp] theorem Jilek.clearCtr_inReset (a : Nat) (j : Jilek) : (j.clearCtr a).inReset = j.inReset := rfl
@[simp] theorem Jilek.clearCtr_draws (a : Nat) (j : Jilek) : (j.clearCtr a).draws = j.draws := rfl

@[simp] theorem Jilek.setRun_tick (t : Nat) (r : Run) (j : Jilek) : (j.setRun t r).tick = j.tick := rfl
@[simp] theorem Jilek.setRun_up (t : Nat) (r : Run) (j : Jilek) : (j.setRun t r).up = j.up := rfl
@[simp] theorem Jilek.setRun_shift (t : Nat) (r : Run) (j : Jilek) : (j.setRun t r).shift = j.shift := rfl
@[simp] theorem Jilek.setRun_cells (t : Nat) (r : Run) (j : Jilek) : (j.setRun t r).cells = j.cells := rfl
@[simp] theorem Jilek.setRun_merges (t : Nat) (r : Run) (j : Jilek) : (j.setRun t r).merges = j.merges := rfl
@[simp] theorem Jilek.setRun_framers (t : Nat) (r : Run) (j : Jilek) : (j.setRun t r).framers = j.framers := rfl
@[simp] theorem Jilek.setRun_upSent (t : Nat) (r : Run) (j : Jilek) : (j.setRun t r).upSent = j.upSent := rfl
@[simp] theorem Jilek.setRun_upBlock (t : Nat) (r : Run) (j : Jilek) : (j.setRun t r).upBlock = j.upBlock := rfl
@[simp] theorem Jilek.setRun_upScr (t : Nat) (r : Run) (j : Jilek) : (j.setRun t r).upScr = j.upScr := rfl
@[simp] theorem Jilek.setRun_upState (t : Nat) (r : Run) (j : Jilek) : (j.setRun t r).upState = j.upState := rfl
@[simp] theorem Jilek.setRun_responses (t : Nat) (r : Run) (j : Jilek) : (j.setRun t r).responses = j.responses := rfl
@[simp] theorem Jilek.setRun_statuses (t : Nat) (r : Run) (j : Jilek) : (j.setRun t r).statuses = j.statuses := rfl
@[simp] theorem Jilek.setRun_downlinks (t : Nat) (r : Run) (j : Jilek) : (j.setRun t r).downlinks = j.downlinks := rfl
@[simp] theorem Jilek.setRun_due (t : Nat) (r : Run) (j : Jilek) : (j.setRun t r).due = j.due := rfl
@[simp] theorem Jilek.setRun_src (t : Nat) (r : Run) (j : Jilek) : (j.setRun t r).src = j.src := rfl
@[simp] theorem Jilek.setRun_holdover (t : Nat) (r : Run) (j : Jilek) : (j.setRun t r).holdover = j.holdover := rfl
@[simp] theorem Jilek.setRun_srcNext (t : Nat) (r : Run) (j : Jilek) : (j.setRun t r).srcNext = j.srcNext := rfl
@[simp] theorem Jilek.setRun_tickSet (t : Nat) (r : Run) (j : Jilek) : (j.setRun t r).tickSet = j.tickSet := rfl
@[simp] theorem Jilek.setRun_slew (t : Nat) (r : Run) (j : Jilek) : (j.setRun t r).slew = j.slew := rfl
@[simp] theorem Jilek.setRun_edgeMove (t : Nat) (r : Run) (j : Jilek) : (j.setRun t r).edgeMove = j.edgeMove := rfl
@[simp] theorem Jilek.setRun_thrWas (t : Nat) (r : Run) (j : Jilek) : (j.setRun t r).thrWas = j.thrWas := rfl
@[simp] theorem Jilek.setRun_thrAt (t : Nat) (r : Run) (j : Jilek) : (j.setRun t r).thrAt = j.thrAt := rfl
@[simp] theorem Jilek.setRun_lease (t : Nat) (r : Run) (j : Jilek) : (j.setRun t r).lease = j.lease := rfl
@[simp] theorem Jilek.setRun_injections (t : Nat) (r : Run) (j : Jilek) : (j.setRun t r).injections = j.injections := rfl
@[simp] theorem Jilek.setRun_lastInjection (t : Nat) (r : Run) (j : Jilek) : (j.setRun t r).lastInjection = j.lastInjection := rfl
@[simp] theorem Jilek.setRun_holdUntil (t : Nat) (r : Run) (j : Jilek) : (j.setRun t r).holdUntil = j.holdUntil := rfl
@[simp] theorem Jilek.setRun_commit (t : Nat) (r : Run) (j : Jilek) : (j.setRun t r).commit = j.commit := rfl
@[simp] theorem Jilek.setRun_epoch (t : Nat) (r : Run) (j : Jilek) : (j.setRun t r).epoch = j.epoch := rfl
@[simp] theorem Jilek.setRun_switched (t : Nat) (r : Run) (j : Jilek) : (j.setRun t r).switched = j.switched := rfl
@[simp] theorem Jilek.setRun_switchedLate (t : Nat) (r : Run) (j : Jilek) : (j.setRun t r).switchedLate = j.switchedLate := rfl
@[simp] theorem Jilek.setRun_lastSwitch (t : Nat) (r : Run) (j : Jilek) : (j.setRun t r).lastSwitch = j.lastSwitch := rfl
@[simp] theorem Jilek.setRun_lastTarget (t : Nat) (r : Run) (j : Jilek) : (j.setRun t r).lastTarget = j.lastTarget := rfl
@[simp] theorem Jilek.setRun_regs (t : Nat) (r : Run) (j : Jilek) : (j.setRun t r).regs = j.regs := rfl
@[simp] theorem Jilek.setRun_staged (t : Nat) (r : Run) (j : Jilek) : (j.setRun t r).staged = j.staged := rfl
@[simp] theorem Jilek.setRun_taken (t : Nat) (r : Run) (j : Jilek) : (j.setRun t r).taken = j.taken := rfl
@[simp] theorem Jilek.setRun_counters (t : Nat) (r : Run) (j : Jilek) : (j.setRun t r).counters = j.counters := rfl
@[simp] theorem Jilek.setRun_overrunSeen (t : Nat) (r : Run) (j : Jilek) : (j.setRun t r).overrunSeen = j.overrunSeen := rfl
@[simp] theorem Jilek.setRun_overageSeen (t : Nat) (r : Run) (j : Jilek) : (j.setRun t r).overageSeen = j.overageSeen := rfl
@[simp] theorem Jilek.setRun_lastOverrun (t : Nat) (r : Run) (j : Jilek) : (j.setRun t r).lastOverrun = j.lastOverrun := rfl
@[simp] theorem Jilek.setRun_latches (t : Nat) (r : Run) (j : Jilek) : (j.setRun t r).latches = j.latches := rfl
@[simp] theorem Jilek.setRun_lastRead (t : Nat) (r : Run) (j : Jilek) : (j.setRun t r).lastRead = j.lastRead := rfl
@[simp] theorem Jilek.setRun_unit (t : Nat) (r : Run) (j : Jilek) : (j.setRun t r).unit = j.unit := rfl
@[simp] theorem Jilek.setRun_otpCrc (t : Nat) (r : Run) (j : Jilek) : (j.setRun t r).otpCrc = j.otpCrc := rfl
@[simp] theorem Jilek.setRun_cause (t : Nat) (r : Run) (j : Jilek) : (j.setRun t r).cause = j.cause := rfl
@[simp] theorem Jilek.setRun_unlockedSince (t : Nat) (r : Run) (j : Jilek) : (j.setRun t r).unlockedSince = j.unlockedSince := rfl
@[simp] theorem Jilek.setRun_inReset (t : Nat) (r : Run) (j : Jilek) : (j.setRun t r).inReset = j.inReset := rfl
@[simp] theorem Jilek.setRun_draws (t : Nat) (r : Run) (j : Jilek) : (j.setRun t r).draws = j.draws := rfl

@[simp] theorem Jilek.setReg_tick (j : Jilek) (a : Nat) (v : Word) : (j.setReg a v).tick = j.tick := rfl
@[simp] theorem Jilek.setReg_up (j : Jilek) (a : Nat) (v : Word) : (j.setReg a v).up = j.up := rfl
@[simp] theorem Jilek.setReg_shift (j : Jilek) (a : Nat) (v : Word) : (j.setReg a v).shift = j.shift := rfl
@[simp] theorem Jilek.setReg_cells (j : Jilek) (a : Nat) (v : Word) : (j.setReg a v).cells = j.cells := rfl
@[simp] theorem Jilek.setReg_tiles (j : Jilek) (a : Nat) (v : Word) : (j.setReg a v).tiles = j.tiles := rfl
@[simp] theorem Jilek.setReg_merges (j : Jilek) (a : Nat) (v : Word) : (j.setReg a v).merges = j.merges := rfl
@[simp] theorem Jilek.setReg_framers (j : Jilek) (a : Nat) (v : Word) : (j.setReg a v).framers = j.framers := rfl
@[simp] theorem Jilek.setReg_upSent (j : Jilek) (a : Nat) (v : Word) : (j.setReg a v).upSent = j.upSent := rfl
@[simp] theorem Jilek.setReg_upBlock (j : Jilek) (a : Nat) (v : Word) : (j.setReg a v).upBlock = j.upBlock := rfl
@[simp] theorem Jilek.setReg_upScr (j : Jilek) (a : Nat) (v : Word) : (j.setReg a v).upScr = j.upScr := rfl
@[simp] theorem Jilek.setReg_upState (j : Jilek) (a : Nat) (v : Word) : (j.setReg a v).upState = j.upState := rfl
@[simp] theorem Jilek.setReg_responses (j : Jilek) (a : Nat) (v : Word) : (j.setReg a v).responses = j.responses := rfl
@[simp] theorem Jilek.setReg_statuses (j : Jilek) (a : Nat) (v : Word) : (j.setReg a v).statuses = j.statuses := rfl
@[simp] theorem Jilek.setReg_downlinks (j : Jilek) (a : Nat) (v : Word) : (j.setReg a v).downlinks = j.downlinks := rfl
@[simp] theorem Jilek.setReg_due (j : Jilek) (a : Nat) (v : Word) : (j.setReg a v).due = j.due := rfl
@[simp] theorem Jilek.setReg_src (j : Jilek) (a : Nat) (v : Word) : (j.setReg a v).src = j.src := rfl
@[simp] theorem Jilek.setReg_holdover (j : Jilek) (a : Nat) (v : Word) : (j.setReg a v).holdover = j.holdover := rfl
@[simp] theorem Jilek.setReg_srcNext (j : Jilek) (a : Nat) (v : Word) : (j.setReg a v).srcNext = j.srcNext := rfl
@[simp] theorem Jilek.setReg_tickSet (j : Jilek) (a : Nat) (v : Word) : (j.setReg a v).tickSet = j.tickSet := rfl
@[simp] theorem Jilek.setReg_slew (j : Jilek) (a : Nat) (v : Word) : (j.setReg a v).slew = j.slew := rfl
@[simp] theorem Jilek.setReg_edgeMove (j : Jilek) (a : Nat) (v : Word) : (j.setReg a v).edgeMove = j.edgeMove := rfl
@[simp] theorem Jilek.setReg_thrWas (j : Jilek) (a : Nat) (v : Word) : (j.setReg a v).thrWas = j.thrWas := rfl
@[simp] theorem Jilek.setReg_thrAt (j : Jilek) (a : Nat) (v : Word) : (j.setReg a v).thrAt = j.thrAt := rfl
@[simp] theorem Jilek.setReg_lease (j : Jilek) (a : Nat) (v : Word) : (j.setReg a v).lease = j.lease := rfl
@[simp] theorem Jilek.setReg_injections (j : Jilek) (a : Nat) (v : Word) : (j.setReg a v).injections = j.injections := rfl
@[simp] theorem Jilek.setReg_lastInjection (j : Jilek) (a : Nat) (v : Word) : (j.setReg a v).lastInjection = j.lastInjection := rfl
@[simp] theorem Jilek.setReg_holdUntil (j : Jilek) (a : Nat) (v : Word) : (j.setReg a v).holdUntil = j.holdUntil := rfl
@[simp] theorem Jilek.setReg_commit (j : Jilek) (a : Nat) (v : Word) : (j.setReg a v).commit = j.commit := rfl
@[simp] theorem Jilek.setReg_epoch (j : Jilek) (a : Nat) (v : Word) : (j.setReg a v).epoch = j.epoch := rfl
@[simp] theorem Jilek.setReg_switched (j : Jilek) (a : Nat) (v : Word) : (j.setReg a v).switched = j.switched := rfl
@[simp] theorem Jilek.setReg_switchedLate (j : Jilek) (a : Nat) (v : Word) : (j.setReg a v).switchedLate = j.switchedLate := rfl
@[simp] theorem Jilek.setReg_lastSwitch (j : Jilek) (a : Nat) (v : Word) : (j.setReg a v).lastSwitch = j.lastSwitch := rfl
@[simp] theorem Jilek.setReg_lastTarget (j : Jilek) (a : Nat) (v : Word) : (j.setReg a v).lastTarget = j.lastTarget := rfl
@[simp] theorem Jilek.setReg_staged (j : Jilek) (a : Nat) (v : Word) : (j.setReg a v).staged = j.staged := rfl
@[simp] theorem Jilek.setReg_taken (j : Jilek) (a : Nat) (v : Word) : (j.setReg a v).taken = j.taken := rfl
@[simp] theorem Jilek.setReg_counters (j : Jilek) (a : Nat) (v : Word) : (j.setReg a v).counters = j.counters := rfl
@[simp] theorem Jilek.setReg_overrunSeen (j : Jilek) (a : Nat) (v : Word) : (j.setReg a v).overrunSeen = j.overrunSeen := rfl
@[simp] theorem Jilek.setReg_overageSeen (j : Jilek) (a : Nat) (v : Word) : (j.setReg a v).overageSeen = j.overageSeen := rfl
@[simp] theorem Jilek.setReg_lastOverrun (j : Jilek) (a : Nat) (v : Word) : (j.setReg a v).lastOverrun = j.lastOverrun := rfl
@[simp] theorem Jilek.setReg_latches (j : Jilek) (a : Nat) (v : Word) : (j.setReg a v).latches = j.latches := rfl
@[simp] theorem Jilek.setReg_lastRead (j : Jilek) (a : Nat) (v : Word) : (j.setReg a v).lastRead = j.lastRead := rfl
@[simp] theorem Jilek.setReg_unit (j : Jilek) (a : Nat) (v : Word) : (j.setReg a v).unit = j.unit := rfl
@[simp] theorem Jilek.setReg_otpCrc (j : Jilek) (a : Nat) (v : Word) : (j.setReg a v).otpCrc = j.otpCrc := rfl
@[simp] theorem Jilek.setReg_cause (j : Jilek) (a : Nat) (v : Word) : (j.setReg a v).cause = j.cause := rfl
@[simp] theorem Jilek.setReg_unlockedSince (j : Jilek) (a : Nat) (v : Word) : (j.setReg a v).unlockedSince = j.unlockedSince := rfl
@[simp] theorem Jilek.setReg_inReset (j : Jilek) (a : Nat) (v : Word) : (j.setReg a v).inReset = j.inReset := rfl
@[simp] theorem Jilek.setReg_draws (j : Jilek) (a : Nat) (v : Word) : (j.setReg a v).draws = j.draws := rfl

end Sys2Proof.Machine
end

