-- ==== Sys2Proof/Machine/Package.lean ====
section
/-!
DEFINITION. Where the pads of the Jilek and the balls of the Bolov stand, and what each carries (21 R380 to R391). Nothing here
changes: no command acts on it.
-/

namespace Sys2Proof.Machine

/-! ### Jilek die (R380 to R383), in µm -/

/-- The centre of the sensor pad at column `x` and row `y` (R381). -/
def sensorPad (x : Fin 64) (y : Fin 32) : Nat × Nat := (400 + 400 * x, 2050 + 400 * y)

/-- The bumps of guard ring `k`, 1 inner and 2 outer (R382): at the columns on the long sides, at the rows on the short ones, and at
the corners. -/
def guardBumps (k : Nat) : List (Nat × Nat) :=
  let d := 120 * k
  let left := 400 - d
  let right := 25600 + d
  let low := 2050 - d
  let high := 14450 + d
  (List.finRange 64).flatMap (fun x => [((sensorPad x 0).1, low), ((sensorPad x 0).1, high)]) ++
  (List.finRange 32).flatMap (fun y => [(left, (sensorPad 0 y).2), (right, (sensorPad 0 y).2)]) ++
  [(left, low), (left, high), (right, low), (right, high)]

/-- What a wire-bond pad carries (R383). -/
inductive BondPad where
  | vdda | gnda | vddd | gndd | vddl | gndl
  | up (u : Nat) (pos : Bool)
  | down (d : Nat) (pos : Bool)
  | resetN | testEn | atest
deriving DecidableEq, Repr

/-- The centre of wire-bond pad `n`, and what it carries (R383): in a supply range the even pads are the supply. -/
def bondCentre (n : Fin 100) : Nat × Nat := (625 + 250 * n, 400)
def bondPad (n : Fin 100) : BondPad :=
  let i := n.val
  let pair := fun (s g : BondPad) => if i % 2 = 0 then s else g
  if i ≤ 15 ∨ 81 ≤ i then pair .vdda .gnda
  else if i ≤ 33 ∨ 63 ≤ i then pair .vddd .gndd
  else if i ≤ 39 ∨ 57 ≤ i then pair .vddl .gndl
  else match i with
    | 41 => .up 0 true
    | 42 => .up 0 false
    | 44 => .down 0 true
    | 45 => .down 0 false
    | 47 => .resetN
    | 48 => .testEn
    | 49 => .atest
    | 51 => .down 1 true
    | 52 => .down 1 false
    | 54 => .up 1 true
    | 55 => .up 1 false
    | _ => .gndl

/-! ### Bolov package (R386 to R391) -/

/-- Signals of one GDDR6 channel, in the order of R389, and those of the device. -/
inductive GdSignal where
  | dq (i : Nat) | dbi (i : Nat) | edc (i : Nat) | wck (i : Nat) (true' : Bool) | ca (i : Nat) | cabi | cke
  | ck (true' : Bool) | rst
deriving DecidableEq, Repr

/-- What a ball carries. -/
inductive Ball where
  | vss | agnd | vddCore | vddSram | vddSds | vddSdsh | vddq | vddIo | vddAna | vddAon
  | upRx (port : Nat) (pos : Bool)
  | dnTx (port : Nat) (pos : Bool)
  | lane (n : Nat) (pos : Bool)
  | timing (tx pos : Bool)
  | pod (tx pos : Bool)
  | gddr (device : Nat) (channelB : Bool) (s : GdSignal)
  | mon (i : Nat) | trigIn (i : Nat) | refclk (pos : Bool) | ppsIn | gateIn | guardIn (i : Nat) | ilkIn | hvEn (i : Nat)
  | xoff (i : Nat) | throttle (i : Nat) | alert (i : Nat) | scl | sda | addrSel (i : Nat) | podPref | bringup (i : Nat)
  | resetN | ppsOut | qspiClk | qspiCs | qspiIo (i : Nat) | fenceOut | fenceIn | tck | tms | tdi | tdo | trstN
deriving DecidableEq, Repr

/-- A ball of a port quad (R387), by its row from 0 and column from 0 within the block. -/
def quadBall (q row col : Nat) : Ball :=
  let pos := decide (col % 2 = 0)
  match row with
  | 0 => .upRx (4 * q + col / 2) pos
  | 1 => .dnTx (4 * q + col / 2) pos
  | _ => if col < 2 then .upRx (4 * q + 3) pos else if col < 4 then .dnTx (4 * q + 3) pos else .vss

/-- A ball of the lane band (R388): columns 7 and 48 carry P. -/
def laneBall (r c : Nat) : Ball :=
  let pos := decide (c = 7 ∨ c = 48)
  let right := decide (c ≥ 47)
  if r = 42 then (if right then .pod true pos else .timing true pos)
  else if r = 44 then (if right then .pod false pos else .timing false pos)
  else if r < 42 ∧ r % 4 = 2 then .lane ((r - 10) / 4 + (if right then 8 else 0)) pos
  else .vss

/-- The signals of a GDDR6 channel in order (R389); channel A takes the device's own after them. -/
def gdSignals (channelB : Bool) : List GdSignal :=
  (List.range 16).map (fun i => .dq (15 - i)) ++ [.dbi 1, .dbi 0, .edc 1, .edc 0, .wck 0 true, .wck 0 false, .wck 1 true, .wck 1 false] ++
  (List.range 10).map (fun i => .ca (9 - i)) ++ [.cabi, .cke] ++ (if channelB then [] else [.ck true, .ck false, .rst])

/-- A ball of Tarn (R389): a channel fills five columns row by row from the edge. DEDUCED (log 196): `DQ[15:0]` starts with DQ15. -/
def tarnBall (r c : Nat) : Ball :=
  let d := (c - 7) / 10 + (if r ≤ 9 then 0 else 4)
  let col := (c - 7) % 10
  let row := if r ≤ 9 then r - 1 else 54 - r
  let b := decide (col ≥ 5)
  match (gdSignals b)[5 * row + col % 5]? with
  | some s => .gddr d b s
  | none => .vddq

/-- A ball of the low-speed band (R390). -/
def lowBall (r c : Nat) : Ball :=
  match r with
  | 10 =>
    if c ≤ 24 then .mon (c - 9) else if 26 ≤ c ∧ c ≤ 29 then .trigIn (c - 26) else if c = 31 then .refclk true
    else if c = 32 then .refclk false else if c = 34 then .ppsIn else if c = 35 then .gateIn
    else if 37 ≤ c ∧ c ≤ 40 then .guardIn (c - 37) else if c = 41 then .ilkIn else .agnd
  | 11 =>
    if c ≤ 24 then .vddAna else if c ≤ 31 then .agnd else if c ≤ 35 then .vddAon else if c ≤ 39 then .hvEn (c - 36) else .vss
  | 12 =>
    if c ≤ 24 then .xoff (c - 9) else if c ≤ 32 then .throttle (c - 25) else if c ≤ 36 then .alert (c - 33)
    else if c = 37 then .scl else if c = 38 then .sda else if c ≤ 41 then .addrSel (c - 39) else if c = 42 then .podPref
    else if c ≤ 44 then .bringup (c - 43) else if c = 45 then .resetN else .ppsOut
  | _ =>
    if c = 9 then .qspiClk else if c = 10 then .qspiCs else if c ≤ 14 then .qspiIo (c - 11) else if c = 15 then .fenceOut
    else if c = 16 then .fenceIn else if c = 17 then .tck else if c = 18 then .tms else if c = 19 then .tdi
    else if c = 20 then .tdo else if c = 21 then .trstN else if c ≤ 45 then .vddIo else .vss

/-- A ball of the core field (R391). -/
def coreBall (r c : Nat) : Ball :=
  if (r + c) % 2 = 1 then .vss
  else if c ≤ 10 ∨ 45 ≤ c then .vddSdsh
  else if c ≤ 13 ∨ 42 ≤ c then .vddSds
  else if r ≤ 17 then .vddSram
  else .vddCore

/-- The ball at a row and column from 1 to 54 (R386). -/
def ballAt (r c : Nat) : Ball :=
  if c ≤ 6 ∨ 49 ≤ c then
    if 4 ≤ r ∧ r ≤ 51 then
      let left := decide (c ≤ 6)
      quadBall ((r - 4) / 3 + (if left then 0 else 16)) ((r - 4) % 3) (if left then c - 1 else 54 - c)
    else .vss
  else if r ≤ 9 ∨ 46 ≤ r then (if c ≤ 46 then tarnBall r c else .vss)
  else if c ≤ 8 ∨ 47 ≤ c then laneBall r c
  else if r ≤ 13 then lowBall r c
  else coreBall r c

end Sys2Proof.Machine
end

