-- ==== Sys2Proof/Tests/Slice0.lean ====
section
/-!
SUPPORT. Tests of the model's own: an ill-formed command for each check; worked examples of the spec, one step each; and for
every obligation with hypotheses a state that meets them.
-/

namespace Sys2Proof.Tests
open Sys2Proof.Machine

/-- A set whose Jilek is `j`, at tick 0 and with the Bolov as at reset. -/
def sJ (j : Jilek) : State := { State.reset with j := j }

/-- A set whose Bolov is `b`. -/
def sB (b : Bolov) : State := { State.reset with b := b }

/-- The Jilek that a command of tick 0 meets. -/
def jAt (j : Jilek) : Jilek := (reachJ 0 (sJ j)).j

/-- The Bolov that a command of tick 0 meets. -/
def bAt (b : Bolov) : Bolov := (reachB 0 (sB b)).b

/-! ### Ill-formed commands, one for each check -/

theorem test_wf_phase : (Instr.deadTimeEnd 0 0 3125000).wellFormed = false := by decide
theorem test_wf_period : (Instr.oscBStart 0 0 0 false).wellFormed = false := by decide
theorem test_wf_stamp : (Instr.gateInEdge true 0 1251).wellFormed = false := by decide
theorem test_wf_slew : (Instr.tickPllLock 0 1251).wellFormed = false := by decide
theorem test_wf_line : (Instr.frameBegin 0 [⟨0x100000, [0]⟩] 0).wellFormed = false := by decide
theorem test_wf_line_noFetch : (Instr.frameBegin 0 [⟨0, []⟩] 0).wellFormed = false := by decide
theorem test_wf_line_fetches : (Instr.contextMergeEnd [⟨0, [0, 0, 0]⟩] 0).wellFormed = false := by decide
theorem test_wf_counts : (Instr.calRunComplete 0 0 [(1, 1)]).wellFormed = false := by decide
theorem test_wf_ptp : (Instr.ptpFollowUpReceived ⟨.ethernet, true, false, 0, 0, 0, 2, 1, 0, false, 2 ^ 48 * 1000000000, 0, 0⟩ 0).wellFormed = false := by decide
theorem test_wf_accepts : (Instr.gateInEdge true 0 1249).wellFormed = true := by decide

/-! ### Worked examples of the spec -/

/-- 01, 03: the hit of cell 813 counts NA = 8 and NV = 42 with a nominal ring pair. -/
theorem test_counts_of_the_hit :
    let v : Conv := { crossAt := 0, ta := 156250, tb := 153750, entry := 0, span := 1198000, na := 8 }
    countNA v.ta v.span false = 8 ∧ bPeriods v false = some 42 ∧ catches v 42 = true := by decide

/-- 03: an A edge less than 1 ps after the tick edge, counted or not. -/
theorem test_edge_on_the_tick :
    countNA 156250 1093250 true = 8 ∧ countNA 156250 1093250 false = 7 ∧
      bPeriods { crossAt := 0, ta := 156250, tb := 153750, entry := 0, span := 1093250, na := 7 } false = some 63 ∧
      bPeriods { crossAt := 0, ta := 156250, tb := 153750, entry := 0, span := 1093250, na := 8 } false = some 1 := by decide

/-- 04: cell 813 after a run. -/
theorem test_run_results : calTa 327365 = 10250 ∧ calDt 327365 332726 = 2642 := by decide

/-- 05: the limit at two paces, 32 tiles in redundant and 16 in aggregated mode. -/
theorem test_limits :
    admissionLimit 24576 24600 32 16 = 5 ∧ admissionLimit 24576 24600 16 16 = 11 ∧ admissionLimit 12288 12350 32 16 = 4 ∧
      admissionLimit 12288 12350 16 16 = 8 := by decide

/-- 05: three refusals at tile 12. -/
theorem test_refusal_report : deadTimePayload 0 12 3 4 (1000130 % 65536) = 0x1800300442C2 := by decide

/-- 06: the delays and the phase of a 4 m cable. -/
theorem test_cable :
    phaseOf (delayDown (47790 * 256) 2984 0) = (7, 678) ∧ phaseWord 7 678 = 0x80003AA6 := by decide

/-- 07: one update from PPS. -/
theorem test_pps_update :
    let b : Bolov := { time := { todValid := true, holdover := false, refLock := true, integ := 40 }, regs := [(Reg.TM_CTRL, 0x100)] }
    let t := (b.applySample (12800 * 2 ^ 22)).time
    t.integ = 46 ∧ t.schedIncr = some 0x31FFFFF6E := by decide

/-- 08: the output value of cell 813. -/
theorem test_output_value :
    let c := setFld (setFld (setFld (setFld (setFld (setFld (setFld 0 127 112 10250) 111 96 2642) 95 80 1280) 79 68 1600) 67 56 2) 47 44 3) 43 40 1
    let w : W64 := word64 [(2, 1), (11, 813), (12, 16), (5, 8), (6, 42), (9, 38), (19, 0)]
    ctime c 16 8 42 38 = 49491 ∧ calEntry c false w 16 = 0x2000C153 := by decide

/-- 10: the blocks of a mark. -/
theorem test_mark_blocks :
    (threeBlocks 0xD1 (markValue 1 false true false 1000010 0x31 400 4 0xFF)).map (fun x => x.2.toNat / 2 ^ 16) =
      [0x140000000F, 0x31190040, 0xFF00000000] := by decide +kernel

/-- 10: the annotation of that mark. -/
theorem test_annotation :
    let map : FMap (BitVec 16) := [(5 * 32 + 12, 37), (40 * 32, 37), (40 * 32 + 1, 37)]
    let tile : DtRec := { cause := dtAdmission, scope := scTile, port := 5, sub := 12, start := 1000040, stop := 1000044, count := 3 }
    let link : DtRec := { cause := dtLinkDown, scope := scPort, port := 40, start := 999937, stop := 1000181, count := dtUnknown }
    let b : Bolov := { tick := 1012362, sort := { cfg := { regionMap := map } }, issued := [(0, tile), (0, link)] }
    let m : Mark := { source := 1, tick := 1000010, w := 4, seq := 0x31, protect := true, windowOpen := false, dropped := false, edge := 0, at' := 0 }
    b.annotation m = [0x0207003100000000, 0x00400000000F424A, 0x0000002000000000, 0, 0, 0, 0x4100] ∧ m.issueTick = 1012362 := by decide +kernel

/-- 15: a four-wire RTD; 500 µA through 109.7347 Ω and 1,600 Ω. -/
theorem test_rtd :
    let b : Bolov := { regs := [(Reg.MON_SLOT_ROUTE 2, 0x91234800), (Reg.MON_SLOT_CONV 2, 0x400FA338)] }
    let pins : MonPins := #v[0, 254867350, 200000000, 1100000000, 300000000, 0, 0, 0, 0, 0, 0, 0, 0, 0, 0, 0]
    b.monCode 2 pins 0 = (0x463AEF, false) ∧ b.monCode 2 pins 100000 = (0x463AEF + 131, false) := by decide

/-- 16: a pipe at 10 °C in air of 20 °C keeps 3 °C to the dew point at 40 % and at 42.8 % humidity, and not at 55 %. -/
theorem test_dew_point : dewClear 20 40 10 3 = true ∧ dewClear 20 (428 / 10) 10 3 = true ∧ dewClear 20 55 10 3 = false := by decide +kernel

/-- 17: the request that reads a tile's limit. -/
theorem test_remote_request :
    ∃ t, Machine.exec (.rmtReqWrite 0x814031C4) State.reset = .next t ∧ t.b.rmt.requests.map (fun r => (r.port, r.op, r.addr)) = [(5, 2, 0x31C4)] :=
  ⟨_, rfl, by decide⟩

/-- 19: the identity of a Jilek as its registers read. -/
theorem test_identity :
    let j : Jilek := { unit := 0x5076827 * 2 ^ 36 + 0x0B8494A01 }
    j.wide Reg.JID_UNIT = 0x50768270B8494A01 := by decide

/-- A context of the examples, status in window. -/
def ctxOfExample (ta dt : Nat) : BitVec 128 :=
  setFld (setFld (setFld (setFld (setFld (setFld (setFld 0 127 112 ta) 111 96 dt) 95 80 1280) 79 68 1600) 67 56 2) 47 44 3) 43 40 1

/-- 09: the frame of slice 31,250 on lane 6, up to its slice check; the hit checks are left 0. -/
theorem test_frame :
    let cfg : SliceCfg := { epoch := 3, streamId := 0x0A01, feIds := [(5, 0x105), (9, 0x109)] }
    let s : Slice := { num := 31250, start := 1000000, cfg := cfg, tod := 1760000000250000000 * 2 ^ 32, incr := 0x31FFFFF6E, timeFlags := 24, chains := [(37 * 128 + 5, ⟨[0x59680822A1300000], [0]⟩), (37 * 128 + 9, ⟨[0x46400A1111A00000], [1]⟩)] }
    let b : Bolov := { tick := 1000700, sort := { running := true, slices := [s], cfg := cfg, contexts := [(ctxIndex 5 813, ctxOfExample 10250 2642), (ctxIndex 9 200, ctxOfExample 10240 2621)] } }
    (b.formNative s ⟨6, false, false⟩).2.words.take 13 =
      [0x5CE1000000007A12, 0x00000000000F4240, 0x0000000068E77800, 0x0EE6B28000000000, 0x031FFFFF6EC00000, 0x3680010000000A01, 0x250A010500000001,
       0x59680822A1300000, 0x2000C15340000000, 0x2512010900000001, 0x46400A1111A00000, 0x2000F63E40000000, 0x0000000E00000002] ∧
      (b.formNative s ⟨6, false, false⟩).2.words.length = 14 := by decide +kernel

/-- 18: the report of the commit at full input. -/
theorem test_commit_report :
    let done : List CmtPort := (List.range 128).map fun p => ⟨p, some (if p = 9 then (2000504, true) else (2000224, false))⟩
    let b : Bolov := { tick := 2065760, cmt := { busy := true, t := 2000224, pending := 4, reached := true, switched := true, ports := done, merged := 8192, mergeEnd := some 2065760, firstSlice := 62507 } }
    ((b.commitComplete).notices.map Notice.words) =
      [[0x040543C040000000, 0x00000000001E8560, 0x000000000000F42B, 0x20000000001F8560, 0x12000000001E8678]] := by decide +kernel

/-- The table of syndromes at the ends of the check, data and address fields against the CRC-32C of the bit alone (R247). -/
theorem test_bit_syndromes : ∀ i ∈ [0, 31, 32, 287, 288, 319], syndromeOf (2 ^ i) = bitSyndromes.getD i 0 := by decide +kernel
/-! ### The Jilek: hypotheses that a state meets, clause by clause -/

theorem wit_StepRunsTheFront : State.reset.pending = [] := by decide

theorem wit_StepsKeepTheInvariant : StateInv State.reset ∧ ∃ t, Sys2Proof.Machine.step State.reset = .next t :=
  ⟨by unfold StateInv CountersOk CtrOk FMapWf; decide, _, rfl⟩

theorem wit_NACountsEdgesAndPairsCatchUp :
    let v : Conv := { crossAt := 0, ta := 150000, tb := 147550, entry := 0, span := 3135000, na := BitVec.ofNat 5 (countNA 150000 3135000 true) }
    (1000 ≤ v.ta ∧ 0 < v.span) ∧ 150000 ≤ v.ta ∧ v.ta ≤ 160000 ∧ v.tb < v.ta ∧ 2450 ≤ v.ta - v.tb ∧ v.ta - v.tb ≤ 3000 ∧
      v.ta ≤ 63 * (v.ta - v.tb) ∧ 0 < v.span ∧ v.span ≤ 3135000 ∧ v.na = BitVec.ofNat 5 (countNA v.ta v.span true) := by decide

theorem wit_NVIsTheFirstCatchingPeriod :
    let v : Conv := { crossAt := 0, ta := 152000, tb := 149400, entry := 0, span := 3125000, na := 21 }
    let r : Int := (v.span : Int) - ((v.na.toNat : Int) - 1) * v.ta
    v.tb < v.ta ∧ r < v.ta ∧ v.ta ≤ 63 * (v.ta - v.tb) := by decide

theorem wit_NVIsTheFirstCatchingPeriod_slow :
    let v : Conv := { crossAt := 0, ta := 150000, tb := 150000, entry := 0, hit := some 0, span := 3000000, na := 21 }
    v.ta ≤ v.tb ∧ (v.span : Int) - ((v.na.toNat : Int) - 1) * v.ta ≤ (v.ta : Int) - v.tb := by decide

theorem wit_CellConversionEvents_crossing :
    let j := jAt { cells := [(2047, { entry := 0, lastCross := some 0 })], up := 100 }
    let x := j.cell 2047
    j.inReset = false ∧ x.high = false ∧ j.tileOn (2047 / 64) = true ∧ j.maskedAt 2047 (j.tick + 1) = false ∧
      x.inDead (j.now 3124999) = false ∧ j.closedAt (2047 / 64) (j.tick + 1) = false := by decide

theorem wit_CellConversionEvents_start :
    let v : Conv := { crossAt := 0, ta := 152000, entry := 0 }
    let j := jAt { cells := [(0, { entry := 0, high := true, dead := true, conv := some v })], up := 1 }
    let x := j.cell 0
    j.inReset = false ∧ x.conv = some v ∧ v.hit = none ∧ v.crossAt < j.now 0 ∧ j.now 0 - v.crossAt < ((tickFs : Int) + j.edgeMove * codeFs).toNat + 10000 ∧
      j.maskedAt 0 j.tick = false ∧ j.closedAt (0 / 64) j.tick = false := by decide

theorem wit_CellConversionEvents_drop :
    let v : Conv := { crossAt := 0, ta := 152000, entry := 0 }
    let j := jAt { cells := [(0, { entry := 0x200, high := true, dead := true, conv := some v })], up := 1 }
    j.inReset = false ∧ (j.cell 0).conv = some v ∧ v.hit = none ∧ v.crossAt < j.now 0 ∧
      j.now 0 - v.crossAt < ((tickFs : Int) + j.edgeMove * codeFs).toNat + 10000 ∧ (j.maskedAt 0 j.tick || j.closedAt (0 / 64) j.tick) = true := by decide

theorem wit_CellConversionEvents_latch :
    let v : Conv := { crossAt := 0, ta := 152000, tb := 149400, entry := 0, hit := some 0, span := 3125000, na := 21 }
    let j := jAt { cells := [(5, { entry := 0, high := true, dead := true, conv := some v })], up := 2 }
    let x := j.cell 5
    j.inReset = false ∧ x.conv = some v ∧ v.hit = some 0 ∧ v.nv = none ∧ v.tot = none ∧ bPeriods v false = some 33 ∧
      catches v 33 = true ∧ v.crossAt + v.span + 33 * v.tb ≤ j.now 1805200 := by decide

theorem wit_CellConversionEvents_trail :
    let v : Conv := { crossAt := 0, ta := 152000, tb := 149400, entry := 0, hit := some 0, span := 3125000, na := 21 }
    let j := jAt { cells := [(5, { entry := 0, high := true, dead := true, conv := some v })], up := 2 }
    let x := j.cell 5
    j.inReset = false ∧ x.high = true ∧ x.dead = true ∧ x.deadTrail = none ∧ x.conv = some v ∧ v.tot = none ∧ v.nv = none := by decide

theorem wit_CellConversionEvents_saturation :
    let v : Conv := { crossAt := 0, ta := 152000, entry := 0 }
    let j := jAt { cells := [(5, { entry := 0, high := true, dead := true, conv := some v })], up := 24 }
    let x := j.cell 5
    j.inReset = false ∧ x.high = true ∧ x.conv = some v ∧ v.tot = none ∧ v.nv = none ∧ v.crossAt + 511 * v.ta ≤ j.now 2672000 := by decide

theorem wit_CellConversionEvents_end :
    let j := jAt { cells := [(5, { entry := 0, dead := true, deadTrail := some 0 })], up := 4 }
    let x := j.cell 5
    j.inReset = false ∧ x.dead = true ∧ x.deadEnd = some 15000000 ∧ 15000000 ≤ j.now 1500000 + 1000000 := by decide

theorem wit_CellUpkeepEvents_overrun :
    let v : Conv := { crossAt := 0, ta := 150000, tb := 150000, entry := 0, hit := some 0, span := 3125000, na := 20 }
    let j := jAt { cells := [(9, { entry := 0, high := true, conv := some v })], up := 5 }
    let x := j.cell 9
    j.inReset = false ∧ x.conv = some v ∧ v.hit = some 0 ∧ v.nv = none ∧ v.tot = none ∧
      (∀ n, bPeriods v false = some n → catches v n = false) ∧ v.crossAt + 14500000 ≤ j.now 0 ∧
      (j.ctr Reg.VN_OVERRUN).val + 1 < 2 ^ 48 - 1 :=
  ⟨by decide, by decide, by decide, by decide, by decide, fun n h => (by cases h), by decide, by decide⟩

theorem wit_CellUpkeepEvents_stuck :
    let j := jAt { cells := [(9, { entry := 0, high := true }), (10, { entry := 0, stuck := true })], up := 65536 }
    let x := j.cell 9
    let y := j.cell 10
    j.inReset = false ∧ (x.high = true ∧ x.stuck = false ∧ x.edgeAt + 2 ^ (13 + fld (j.reg Reg.FE_CTRL) 2 1) * 3125000 ≤ j.now 0) ∧
      y.high = false ∧ y.stuck = true ∧ bit (j.reg Reg.FE_CTRL).toNat 4 = true ∧ y.edgeAt + 65536 * 3125000 ≤ j.now 0 := by decide

theorem wit_CellUpkeepEvents_rest :
    let j := jAt { cells := [(9, { settle := some 0 })], up := 16000, injections := [0] }
    j.inReset = false ∧ (j.cell 9).settle = some 0 ∧ 0 + 16000 ≤ j.up ∧ j.tick ∈ j.injections := by decide

theorem wit_CalibrationRequests_sample :
    let j := jAt { tiles := [(31, { due := none })] }
    let x := j.tile 31
    let r : BitVec 12 := 2000
    j.inReset = false ∧ j.tileOn 31 = true ∧ x.sampledAt = none ∧ bit (j.reg Reg.CAL_CTRL).toNat 2 = true ∧
      x.sensorFault = false ∧ -960 ≤ signed 12 r.toNat ∧ signed 12 r.toNat ≤ 2000 ∧ x.sameRun < 63 ∧
      (max 1 (fld (j.reg Reg.CAL_CTRL) 19 12) : Nat) < (signed 12 r.toNat - signed 12 x.sensorRef.toNat).natAbs ∧
      x.due = none ∧ x.run = none := by decide

theorem wit_CalibrationRequests_interval :
    let j := jAt { tiles := [(31, { due := none, resumeAt := some 0 })], up := 2 ^ 31, holdUntil := some (2 ^ 31), lease := some ⟨1, 7, 100⟩ }
    let x := j.tile 31
    j.inReset = false ∧ (j.tileOn 31 = true ∧ x.resumeAt = some 0 ∧ bit (j.reg Reg.CAL_CTRL).toNat 1 = true ∧
      0 + 2 ^ (24 + fld (j.reg Reg.CAL_CTRL) 22 20) ≤ j.up ∧ x.due = none ∧ x.run = none) ∧
      (j.holdUntil = some (2 ^ 31) ∧ 2 ^ 31 ≤ j.up) ∧ j.lease = some ⟨1, 7, 100⟩ ∧
      ∀ k, k < 32 → (0xFFFFFFFF#32).getLsbD k = true → (j.tile k).run = none := by decide

theorem wit_CalibrationRunPhases_start :
    let j := jAt { tiles := (List.range 31).map (fun k => (k, { due := none })) }
    let x := j.tile 31
    let d : DueRun := ⟨0, false, 0⟩
    j.inReset = false ∧ x.due = some d ∧ x.run = none ∧ j.tileOn 31 = true ∧ (d.forced || !j.held) = true ∧
      (∀ o < 32, o ≠ 31 → (j.tile o).due = none) ∧ j.runningTiles ≤ fld (j.reg Reg.CAL_CTRL) 9 8 ∧ j.tick.toNat % 64 = 0 := by decide

theorem wit_CalibrationRunPhases_rings :
    let r : Run := { s := 0, cause := 3 }
    let j := jAt { tiles := [(3, { due := none, run := some r })] }
    j.inReset = false ∧ (j.tile 3).run = some r ∧ r.phase = .started ∧ notBefore j.tick r.s = true ∧
      ∀ k < 64, (j.cell (64 * 3 + k)).conv = none := by decide

theorem wit_CalibrationRunPhases_later :
    let r : Run := { s := -81920, cause := 3, phase := .rings }
    let j := jAt { tiles := [(3, { due := none, run := some r }), (4, { due := none, run := some { r with phase := .selected } }),
      (5, { due := none, run := some { r with phase := .final } }), (6, { due := none, run := some { r with phase := .complete } })] }
    j.inReset = false ∧
      ((j.tile 3).run = some r ∧ r.phase = .rings ∧ notBefore j.tick (r.s + 1088) = true) ∧
      ((j.tile 4).run = some { r with phase := .selected } ∧ notBefore j.tick (r.s + 57344) = true) ∧
      ((j.tile 5).run = some { r with phase := .final } ∧ notBefore j.tick (r.s + 73728) = true) ∧
      (j.tile 6).run = some { r with phase := .complete } ∧ notBefore j.tick (r.s + 81920) = true := by decide

theorem wit_RecordEntryAndSpans :
    let r : LatchRec := ⟨0, 1, 1, 1, false, false, false, 0⟩
    let p : Span := ⟨0, 0, [0]⟩
    let free := jAt { cells := [(2047, { latch := some r })], tiles := [(31, { limit := 1 })], upState := #v[.data, .off], up := 1 }
    let full := jAt { cells := [(2047, { latch := some r })], upState := #v[.data, .off] }
    let out := jAt { cells := [(2047, { latch := some r })], tiles := [(0, { span := some p })], up := 64 }
    (free.inReset = false ∧ (free.cell 2047).latch = some r ∧ (free.tile 31).queue.length < free.limitNow 31) ∧
      (full.inReset = false ∧ (full.cell 2047).latch = some r ∧ ¬ (full.tile 31).queue.length < full.limitNow 31 ∧
        full.tileInData 31 = true ∧ (full.tile 31).span = none) ∧
      out.inReset = false ∧ (out.cell 2047).latch = some r ∧ ¬ (out.tile 31).queue.length < out.limitNow 31 ∧
        out.tileInData 31 = false ∧ (out.tile 0).span = some p ∧ (p.lastAt + 64 ≤ out.up ∨ p.openAt + 1024 ≤ out.up) := by decide

theorem wit_AdmissionLimitBound :
    (jAt {}).inReset = false ∧ (jAt {}).tick.toNat % 1024 = 0 ∧ admissionLimit 20000 20000 2 16 ≠ 0 := by decide

theorem wit_MergeServesInTurn :
    let q : QRec := ⟨1, true, 2, true⟩
    let h : HalfRead := ⟨31, 1, false⟩
    let j := jAt { tiles := [(31, { queue := [q] })], merges := #v[{}, { half := some h }] }
    j.inReset = false ∧
      (j.merges[(0 : Fin 2)].half = none ∧ (31 : Nat) < 32 ∧
        (∀ k < 31, j.linkOf ((j.merges[(0 : Fin 2)].lastTile + 1 + k) % 32) ≠ 0 ∨
          (j.tile ((j.merges[(0 : Fin 2)].lastTile + 1 + k) % 32)).queue = []) ∧
        j.linkOf ((j.merges[(0 : Fin 2)].lastTile + 1 + 31) % 32) = 0 ∧
        (j.tile ((j.merges[(0 : Fin 2)].lastTile + 1 + 31) % 32)).queue = q :: []) ∧
      j.merges[(1 : Fin 2)].half = some h ∧ (j.tile h.tile).queue = q :: [] := by decide

/-- A redundant chip in data whose framer 0 is `f`, with responses and status words queued. -/
def jFr (f : Framer) (r st : List W64) : Jilek :=
  jAt { upState := #v[.data, .data], framers := #v[f, {}], responses := r, statuses := st }

theorem wit_FramerSendsByPriority_control :
    let e : EchoDue := ⟨1, 5, 0⟩
    let f := fun (f : Framer) => (jFr f [] []).framers[(0 : Fin 2)]
    ((jFr {} [] []).inReset = false ∧ (∀ v ∈ (jFr {} [] []).framerLinks 0, (jFr {} [] []).upState[v] = .data)) ∧
      ((f { echo := [e] }).entry = 0 ∧ (f { echo := [e] }).echo = [e]) ∧
      ((f { entry := 2, headerDue := some 0 }).entry = 2 ∧ (f { headerDue := some 0 }).echo = [] ∧ (f { headerDue := some 0 }).headerDue = some 0) ∧
      ((f { entry := 1, horizonDue := true }).entry = 1 ∧ (f { horizonDue := true }).headerDue = none ∧ (f { horizonDue := true }).horizonDue = true) ∧
      (jFr {} [] []).tick.toNat % 64 = 0 ∧ (jFr {} [] []).tick.toNat % 4096 = 0 := by decide

theorem wit_FramerSendsByPriority_share :
    let c : CalWord := ⟨1, 3, false⟩
    let d : CalWord := ⟨2, 4, true⟩
    let f := fun (f : Framer) => (jFr f [] []).framers[(0 : Fin 2)]
    let quiet := fun (f : Framer) => f.entry = 0 ∧ f.echo = [] ∧ f.headerDue = none ∧ f.horizonDue = false
    (quiet (f { cal := [c, d] }) ∧ (f { cal := [c, d] }).sinceShare ≥ 7 ∧ (f { cal := [c, d] }).cal = [c] ++ d :: [] ∧ d.start = true ∧
        ∀ x ∈ [c], x.start = false ∧ x.tile ≠ d.tile) ∧
      ((f { cal := [c] }).cal = [] ++ c :: [] ∧ ∀ x ∈ c :: [], x.start = false) ∧
      ((f {}).cal = [] ∧ (jFr {} [1] []).replyFramer = 0 ∧ (jFr {} [1] []).responses = [1] ∧ (f {}).deadTime = [] ∧
        (f { lastWasDeadTime := true }).lastWasDeadTime = true) ∧
      ((f { deadTime := [1] }).cal = [] ∧ (f { deadTime := [1] }).deadTime = [1] ∧ (jFr {} [] []).responses = []) ∧
      (jFr {} [] [1]).responses = [] ∧ (jFr {} [] [1]).statuses = [1] := by decide

theorem wit_FramerSendsByPriority_records :
    let r : FrRec := ⟨.hit, 0, 0, 0, 0⟩
    let o : FrRec := ⟨.hit, 0, 0, -509, -509⟩
    let p : FrRec := ⟨.poisoned, 0, 0, 0, 0⟩
    let j := fun (l : List FrRec) => jFr { sinceShare := 6, records := l } [] []
    let quiet := fun (f : Framer) => f.entry = 0 ∧ f.echo = [] ∧ f.headerDue = none ∧ f.horizonDue = false ∧ f.sinceShare < 7
    (quiet (j [r]).framers[(0 : Fin 2)] ∧ (j [r]).framers[(0 : Fin 2)].records = [r] ∧ r.kind = .hit ∧ tickDiff (j [r]).tick r.tick < 509) ∧
      ((j [o]).framers[(0 : Fin 2)].records = [o] ∧ later (j [o]).tick o.tick = true ∧ 509 ≤ tickDiff (j [o]).tick o.tick ∧
        ((j [o]).ctr Reg.TP_OVERAGE).val + 1 < 2 ^ 48 - 1) ∧
      ((j [p]).framers[(0 : Fin 2)].records = [p] ∧ p.kind = .poisoned ∧ ((j [p]).ctr Reg.TP_POISON).val + 1 < 2 ^ 48 - 1) ∧
      (j []).framers[(0 : Fin 2)].records = [] := by decide

theorem wit_FlushAndResetTiles :
    let a := jAt { lease := some ⟨1, 7, 100⟩ }
    let b := jAt { upState := #v[.data, .off] }
    (a.inReset = false ∧ OwnedBy 1 a ∧ ¬ OwnedBy 0 a ∧ a.anyData = false ∧ (1 : Word).getLsbD 1 = false) ∧ b.inReset = false ∧ b.anyData = true ∧ (1 : Word) ≠ b.reg Reg.TP_LINK_MAP ∧
      (1 : Word) &&& 1 ≠ b.reg Reg.TP_CTRL :=
  ⟨⟨by decide, ⟨_, rfl, by decide⟩, by rintro ⟨x, h, h', _⟩; cases h; exact absurd h' (by decide), by decide, by decide⟩,
    by decide, by decide, by decide, by decide⟩

theorem wit_LeaseTable :
    let l : Lease := ⟨1, 7, 1⟩
    let free := jAt {}
    let held := jAt { lease := some l }
    let late := jAt { lease := some { l with expiry := 0 } }
    (free.inReset = false ∧ free.lease = none ∧ ((jAt { lease := some l, src := some 1, srcNext := some (0, 3), downlinks := #v[{ lock := true }, {}], regs := [(Reg.LK_PHASE 0, 0x80000000)] }).locked 0 = true)) ∧
      (held.inReset = false ∧ held.lease = some l ∧ notBefore held.tick l.expiry = false ∧ l.owner = 1 ∧ l.owner ≠ 0) ∧
      late.inReset = false ∧ late.lease = some { l with expiry := 0 } ∧ notBefore late.tick 0 = true := by decide

theorem wit_LinkCommandsAtTheJilek :
    let l : Lease := ⟨0, 7, 100⟩
    let j := jAt { lease := some l, tickSet := true, injections := [100, 101, 102, 103], downlinks := #v[{ lastEcho := some 0 }, {}], up := 1024 }
    let i := jAt { lease := some l, tickSet := true, upState := #v[.data, .off], downlinks := #v[{ lastEcho := some 0 }, {}], up := 1023 }
    (j.inReset = false ∧ OwnedBy 0 j ∧ ¬ OwnedBy 1 j ∧ j.anyData = false ∧
      j.tickSet = true ∧ notBefore 16 (j.tick + 16) = true ∧ 16 ∉ j.injections ∧ 4 ≤ j.injections.length ∧
      notBefore 15 (j.tick + 16) = false ∧ j.downlinks[(0 : Fin 2)].lastEcho = some 0 ∧ 0 + 1024 ≤ j.up ∧ j.holdover = false) ∧
    i.inReset = false ∧ OwnedBy 0 i ∧ i.anyData = true ∧ 16 ∉ i.injections ∧ i.injections.length < 4 ∧
      i.tick = (-17 : Tick) + BitVec.ofNat 48 (fld (i.reg (Reg.LK_PHASE 0)) 20 11) + 17 ∧
      i.tick ≠ (0 : Tick) + BitVec.ofNat 48 (fld (i.reg (Reg.LK_PHASE 0)) 20 11) + 17 ∧
      i.downlinks[(0 : Fin 2)].lastEcho = some 0 ∧ i.up < 0 + 1024 :=
  ⟨⟨by decide, ⟨_, rfl, by decide⟩, by rintro ⟨x, h, h', _⟩; cases h; exact absurd h' (by decide), by decide, by decide, by decide,
    by decide, by decide, by decide, by decide, by decide, by decide⟩, by decide, ⟨_, rfl, by decide⟩, by decide, by decide,
    by decide, by decide, by decide, by decide, by decide⟩

theorem wit_EyeScans :
    let j := jAt { downlinks := #v[{}, { eye := some 0 }], up := 2 ^ 21 }
    let b := bAt { ports := [(127, { eye := some 0 })], up := 2 ^ 19 }
    (j.inReset = false ∧ j.downlinks[(Fin.ofNat 2 127 : Fin 2)].eye = some 0 ∧ 0 + 2 ^ 21 ≤ j.up) ∧
      (b.port 127).eye = some 0 ∧ 0 + 2 ^ 19 ≤ b.up := by decide

theorem wit_FramesOnADownlink :
    let off := jAt { regs := [(Reg.JPW_LINK_ON, 0x10B)] }
    let on := jAt { downlinks := #v[{ goodRun := 6 }, { lock := true }] }
    let last := jAt { downlinks := #v[{ goodRun := 7 }, { lock := true, badSyncRun := 3 }] }
    let good := downFrame false false 0 0
    (off.inReset = false ∧ bit (off.reg Reg.JPW_LINK_ON).toNat (2 + (0 : Fin 2)) = false) ∧
      scrambleFrame (scrambleFrame good) = good ∧
      (on.inReset = false ∧ bit (on.reg Reg.JPW_LINK_ON).toNat (2 + (0 : Fin 2)) = true ∧ on.downlinks[(0 : Fin 2)].lock = false ∧
        fld good 127 126 = 2 ∧ frameCrcOk good = true ∧ on.downlinks[(0 : Fin 2)].goodRun + 1 < 8 ∧ frameCrcOk (good ^^^ 1) = false) ∧
      (8 ≤ last.downlinks[(0 : Fin 2)].goodRun + 1 ∧ last.tickSet = false) ∧
      (on.downlinks[(1 : Fin 2)].lock = true ∧ on.downlinks[(1 : Fin 2)].badSyncRun + 1 < 4 ∧
        ((true :: on.downlinks[(1 : Fin 2)].crcWindow).take 64).countP id < 16 ∧ on.phaseOk 1 (good.getLsbD 124) = true) ∧
      4 ≤ last.downlinks[(1 : Fin 2)].badSyncRun + 1 := by decide +kernel

theorem wit_FramesOnADownlink_acts :
    let e : DueFrame := ⟨2, 1, 0⟩
    let j : Jilek := { due := [e] }
    let k : Jilek := { due := [e], up := 2, downlinks := #v[{}, { lock := true }] }
    j.due = [e] ∧ j.up < e.at' ∧ e.at' = j.up + 2 ∧ j.srcNext = none ∧ k.due = [e] ∧ e.at' ≤ k.up ∧ (k.downlinks[e.downlink]).lock = true := by decide

theorem wit_JilekRegisterAccess :
    let j := jAt { lease := some ⟨0, 7, 100⟩ }
    j.inReset = false ∧ OwnedBy 0 j ∧ ¬ OwnedBy 1 j ∧
      jilekRow (0xFFFC#16).toNat = none ∧ (BitVec.ofNat 16 Reg.TP_GOV).toNat ∈ [Reg.TP_GOV, Reg.CAL_CTRL, Reg.TP_LINK_MAP, Reg.JPW_TILE_ON] ∧
      fget none j.staged Reg.TP_GOV = none ∧ fget none j.taken Reg.TP_GOV = none ∧
      (BitVec.ofNat 16 Reg.LK_STATE).toNat ∈ [Reg.LK_STATE, Reg.CM_STATE, Reg.JPW_STATUS, Reg.JID_STATUS, Reg.FE_STUCK_COUNT] ∧
      (BitVec.ofNat 16 Reg.FE_TP_CHARGE).toNat = Reg.FE_TP_CHARGE :=
  ⟨by decide, ⟨_, rfl, by decide⟩, by rintro ⟨x, h, h', _⟩; cases h; exact absurd h' (by decide), by decide, by decide, by decide,
    by decide, by decide, by decide⟩

theorem wit_CommitAtTheJilek_take :
    let j := jAt { lease := some ⟨0, 7, 100⟩, tickSet := true, staged := [(Reg.FE_TP_CHARGE, some ⟨5, 0, none⟩)] }
    j.inReset = false ∧ OwnedBy 0 j ∧ j.tickSet = true ∧ (j.switched && (3 : BitVec 4) == j.epoch) = false ∧
      j.commit = none ∧ FMapWf none j.staged ∧ ¬ OwnedBy 1 j :=
  ⟨by decide, ⟨_, rfl, by decide⟩, by decide, by decide, by decide, ⟨by decide, by decide⟩,
    by rintro ⟨x, h, h', _⟩; cases h; exact absurd h' (by decide)⟩

theorem wit_CommitAtTheJilek_later :
    let c : JCommit := ⟨3, 0, 0, false⟩
    let j := jAt { lease := some ⟨0, 7, 100⟩, tickSet := true, switched := true, epoch := 2, commit := some c, taken := [(Reg.FE_TP_CHARGE, some 5), (0x10000 + 2047, some 0)] }
    j.inReset = false ∧ OwnedBy 0 j ∧ j.tickSet = true ∧ j.switched = true ∧ (2 : BitVec 4) = j.epoch ∧
      (j.switched && (3 : BitVec 4) == j.epoch) = false ∧ j.commit ≠ none ∧ j.commit = some c ∧ notBefore j.tick c.switchAt = true ∧
      FMapWf none j.taken ∧ (∀ e ∈ j.taken, e.1 < 0x10000 → e.1 ≠ Reg.JPW_TILE_ON) ∧ (∀ e ∈ j.taken, e.1 < 0x10000 + 2048) := by
  refine ⟨by decide, ⟨_, rfl, by decide⟩, by decide, by decide, by decide, by decide, by decide, by decide, by decide, ?_, by decide, by decide⟩
  exact ⟨by decide, by decide⟩

theorem wit_JilekPowerAndReset :
    let held := jAt { inReset := true, up := 32000 }
    let lost := jAt { up := 2 ^ 24 }
    (held.inReset = true ∧ 32000 ≤ held.up) ∧ lost.inReset = false ∧ lost.unlockedSince = some 0 ∧
      bit (lost.reg Reg.JPW_LINK_ON).toNat 8 = true ∧ lost.locked 0 = false ∧ lost.locked 1 = false ∧ 0 + 2 ^ 24 ≤ lost.up ∧
      lost.lease = none ∧ fld (0x104 : Word) 3 2 ≠ 0 ∧ fld (0 : Word) 3 2 = 0 ∧ fld (lost.reg Reg.JPW_LINK_ON) 3 2 = 3 := by decide

/-! ### Time base, PTP and ports -/

theorem wit_CountClearsOfTheBolov :
    (bAt { up := 2621440, sort := { walk := some 0 } }).sort.walk.isSome = true ∧
      (bAt { up := 2621440, sort := { walk := some 0 } }).walkPos = 262144 := by decide

theorem wit_ReferenceAndTickCounter :
    let busy := bAt { ports := [(127, { rx := .data })] }
    let b := bAt { time := { pllOnce := true, presetPending := true, snapBusy := some 0 } }
    ((bAt {}).time.refLock = false ∧ (bAt {}).time.pllOnce = false) ∧ (b.time.refLock = false ∧ b.time.pllOnce = true) ∧
      (busy.anyPortData = true ∨ busy.sort.running = true) ∧ (b.anyPortData = false ∧ b.sort.running = false) ∧
      b.time.presetPending = true ∧ b.tick.toNat % 16 = 0 ∧ (∀ n : Fin 4, (b.unit n).opened = none) ∧
      b.time.snapBusy.isSome = true := by decide

theorem wit_TimeOfDayAndServo_update :
    let set := bAt { time := { hostSet := some 5 } }
    let step := bAt { time := { schedStep := some (-1) } }
    (set.isUpdateTick = true ∧ set.time.hostSet = some 5) ∧
      (step.isUpdateTick = true ∧ step.time.hostSet = none ∧ step.time.schedStep = some (-1)) ∧
      (bAt {}).isUpdateTick = true ∧ (bAt {}).time.hostSet = none ∧ (bAt {}).time.schedStep = none := by decide

theorem wit_TimeOfDayAndServo_pps :
    let b := bAt { regs := [(Reg.TM_CTRL, 2), (Reg.TM_PPS_OUT, 0x80010000)], time := { ppsSecWritten := true, todValid := true } }
    let soon := bAt { up := 319679999, time := { lastPps := some 0 } }
    let old := bAt { up := 8 * 320000000, time := { ppsOut := true } }
    ((bAt {}).time.ppsSecWritten = false ∨ ∃ u, (bAt {}).time.lastPps = some u ∧ (bAt {}).up < u + 319680000) ∧
      (soon.time.lastPps = some 0 ∧ soon.up < 0 + 319680000) ∧
      (b.time.ppsSecWritten = true ∧ b.time.lastPps = none ∧ b.regFld Reg.TM_CTRL 1 0 = 2 ∧ b.regBit Reg.TM_CTRL 10 = false) ∧
      (b.regBit Reg.TM_PPS_OUT 31 = true ∧ b.time.todValid = true ∧ b.ppsOutNow = true) ∧
      old.time.lastSample + old.holdoverAfter ≤ old.up ∧ (2 : BitVec 2).toNat ≠ (sB {}).b.regFld Reg.TM_CTRL 1 0 ∧
      old.time.ppsOut = true ∧ old.time.ppsRose + max 1 (old.regFld Reg.TM_PPS_OUT 23 16) * 320000 ≤ old.up :=
  ⟨.inl (by decide), by decide, by decide, by decide, by decide, by decide, by decide, by decide⟩

theorem wit_PtpMessages :
    let m : PtpMsg := ⟨.ethernet, true, false, 0, 0, 0, 2, 1, 65535, true, 0, 0, 0⟩
    let q : PtpState := { pending := some ⟨65535, 0, 0⟩, pair := some ⟨0, 0⟩, req := some ⟨65535, 0⟩ }
    let b := bAt { regs := [(Reg.TM_CTRL, 1), (Reg.PTP_CTRL, 0x100)], ptp := q }
    let d := bAt { regs := [(Reg.TM_CTRL, 1), (Reg.PTP_CTRL, 0x100)], ptp := { q with delays := [4] } }
    let e := bAt { regs := [(Reg.PTP_CTRL, 0x100)], ptp := { req := some ⟨1, 0⟩ } }
    ({ m with multicast := false }.multicast = false ∧ { m with transport := .ipv6 }.transport = .ipv6) ∧
      (b.ptpOn = true ∧ { m with version := 3 }.unsupported = false ∧ b.ptpAccepts { m with version := 3 } = false ∧
      b.fromMaster { m with portNo := 9 } = false) ∧
      (m.unsupported = false ∧ b.ptpAccepts m = true ∧ b.fromMaster m = true ∧ m.twoStep = true ∧ { m with twoStep := false }.twoStep = false ∧
        b.ptp.delays = [] ∧ b.ptp.pending = some ⟨65535, 0, 0⟩ ∧ (65535 : BitVec 16) = m.seq ∧ b.ptp.req = some ⟨65535, 0⟩ ∧ b.ptp.pair = some ⟨0, 0⟩) ∧
      (d.ptpOn = true ∧ d.ptpAccepts m = true ∧ d.fromMaster m = true ∧ d.ptp.pending = some ⟨65535, 0, 0⟩ ∧ d.pathDelay = some 4 ∧
        d.regFld Reg.TM_CTRL 1 0 = 1) ∧
      (e.ptpOn = true ∧ e.ptpAccepts m = true ∧ e.fromMaster m = true ∧ e.ptp.pending = none ∧ e.ptp.req = some ⟨1, 0⟩ ∧ (1 : BitVec 16) ≠ m.seq) ∧
      (5 : BitVec 64).toNat ≠ (sB {}).b.reg64 Reg.PTP_MASTER_ID := by decide

theorem wit_PortReceivesBlocks_lock :
    let good := controlWord sIdle 0
    let line := scramble 0 good
    let w := descramble 0 line
    let off := bAt { regs := [(Reg.PWR_DOM_ON0, 0)] }
    let b := bAt { regs := [(Reg.QD_LINK_CTRL 127, 1)], ports := [(127, { rx := .blockLock, goodControl := 63 })] }
    off.domOn (127 / 4) = false ∧ (b.domOn (0 / 4) = true ∧ (b.port 0).rx = .acquiring ∧ (1 : BitVec 2) = 1 ∧ (2 : BitVec 2) ≠ 1) ∧
      b.domOn (127 / 4) = true ∧ (b.port 127).rx = .blockLock ∧ (b.port 127).scr = 0 ∧ fld w 63 62 = 0 ∧ controlOk w = true ∧
      ((false :: (b.port 127).headers).take 64).countP id < 16 ∧ (b.port 127).goodControl + 1 ≥ 64 ∧
      b.regBit (Reg.QD_LINK_CTRL 127) 3 = false ∧ (b.port 127).goodControl = 63 := by decide +kernel

theorem wit_PortReceivesBlocks_data :
    let b := bAt { ports := [(1, { rx := .ready }), (2, { rx := .data }), (3, { rx := .data, base := some 4096, lastH := some 64 })] }
    (b.port 1).rx = .ready ∧ ((b.port 2).rx = .data ∧ (b.port 2).base = none ∧ (b.port 2).lastH = none ∧ (b.port 2).downFrom = none) ∧
      (b.port 3).rx = .data ∧ (b.port 3).base = some ((8192 : Tick) - 4096) ∧ (8193 : Tick) ≠ 4096 + 4096 ∧
      (b.port 3).lastH = some 64 ∧ later 64 (64 : Tick) = false ∧ later 64 (63 : Tick) = true ∧ (b.port 3).downFrom = none := by decide

theorem wit_PortReceivesBlocks_outage :
    let b := bAt { ports := [(1, { rx := .data, downFrom := some 64 }), (9, { rx := .ready, headers := List.replicate 15 true })] }
    ((b.port 1).rx = .data ∧ (b.port 1).lastH = none ∧ (b.port 1).downFrom = some 64 ∧ later 128 (64 : Tick) = true) ∧
      (b.port 9).rx ≠ .acquiring ∧ 16 ≤ ((true :: (b.port 9).headers).take 64).countP id := by decide

theorem wit_PortDelayAndDownlink :
    let m : Measure := { unit := 3, want := 4, sent := 3, seq0 := 0, tag := some 0 }
    let on : Word := 1
    let c : PortCmd := ⟨9, 0, 0, none, false⟩
    let b := bAt { regs := [(Reg.QD_LINK_CTRL 5, on), (Reg.QD_LINK_CTRL 6, on)], ports := [(4, { rx := .ready, measure := some m }), (5, { rx := .data, commands := [c] }), (6, {}), (7, { measure := some { m with sent := 4 } })] }
    ((b.port 6).measure = none ∧ (b.unit (b.measureUnit 6)).link = none ∧ b.isRun (b.measureUnit 6) = false) ∧
      ((b.port 4).measure.isSome = true ∨ (b.unit (b.measureUnit 4)).link.isSome = true) ∧ (b.port 6).rx = .acquiring ∧
      ((b.port 4).rx ≠ .acquiring ∧ (b.port 4).measure = some m ∧ m.lag = none ∧ m.tag = some (fld (0x0500000000 : BitVec 48) 47 40)) ∧ m.tag ≠ some 9 ∧ m.sent < m.want ∧
      ((b.port 7).measure = some { m with sent := 4 } ∧ m.want ≤ 4) ∧ fld (0x400000000000 : BitVec 48) 47 46 ≤ 1 ∧
      (b.tick.toNat % 16 ≠ 0 ∨ b.txOn 4 = false) ∧
      (b.tick.toNat % 16 = 0 ∧ b.txOn 6 = true ∧ (b.port 6).measure = none ∧ (b.port 6).commands = []) ∧
      b.txOn 5 = true ∧ (b.port 5).measure = none ∧ (b.port 5).commands = [c] ∧ c.request = none ∧ c.fc = false ∧ c.op ≠ 1 ∧
      ∀ k ∈ (b.port 5).commands, k.op ≠ 6 := by decide

theorem wit_CalibrationWordsAtTheBolov_runs :
    let k : PortTile := { lastSeq := some 127 }
    let b := bAt { ports := [(0, { rx := .data }), (1, { rx := .data, tiles := [(0, k)] }), (2, { rx := .data, tiles := [(0, { k with expecting := some (64, 63) })] })] }
    let start : BitVec 48 := 0
    ((b.port 0).rx ≠ .acquiring ∧ fld start 47 46 = 0 ∧ (b.portTile 0 (fld start 45 41)).expecting = none ∧ (b.portTile 0 0).lastSeq = none) ∧
      ((b.port 1).rx ≠ .acquiring ∧ (b.portTile 1 0).expecting = none ∧ (b.portTile 1 0).lastSeq = some ((BitVec.ofNat 7 (fld start 32 26)) - 1)) ∧
      (b.port 2).rx ≠ .acquiring ∧ (b.portTile 2 0).expecting = some (64, 63) ∧
      (b.portTile 2 0).lastSeq = some ((BitVec.ofNat 7 (fld start 32 26)) - 1) := by decide

theorem wit_CalibrationWordsAtTheBolov_results :
    let set : CalSet := { port := 3, tile := 31, s := 64 }
    let report : BitVec 48 := BitVec.ofNat 48 (2 ^ 46 + 31 * 2 ^ 41 + 3 * 2 ^ 38 + 64)
    let poor : BitVec 48 := BitVec.ofNat 48 (2 ^ 46 + 31 * 2 ^ 41 + 4 * 2 ^ 38 + 64)
    let result : BitVec 48 := BitVec.ofNat 48 (2 ^ 47 + 31 * 2 ^ 41 + 63 * 2 ^ 35 + 20000 * 2 ^ 14)
    let b := bAt { ports := [(3, { rx := .data, tiles := [(31, { lastSeq := some 0, started := some 64 })] }), (4, { rx := .data, tiles := [(31, { expecting := some (64, 63) })] })], sort := { calSets := [{ set with port := 4 }] } }
    (b.port 3).rx ≠ .acquiring ∧ fld report 47 46 = 1 ∧ fld report 45 41 = 31 ∧ (b.portTile 3 31).expecting = none ∧
      (b.portTile 3 31).lastSeq = some (BitVec.ofNat 7 (fld report 32 26)) ∧ (b.portTile 3 31).started = some 64 ∧
      (64 : Tick) = rebuild (b.lastH 3 - BitVec.ofNat 48 (2 ^ 19)) 20 (fld report 19 0) ∧ fld report 40 38 ≤ 3 ∧ 4 ≤ fld poor 40 38 ∧
      (fld result 47 46 = 2 ∧ (b.portTile 3 (fld result 45 41)).expecting = none) ∧ (b.port 4).rx ≠ .acquiring ∧
      (b.portTile 4 31).expecting = some (64, fld result 40 35) ∧  b.sort.calSets = [{ set with port := 4 }] ∧ set.lost = false ∧
      fld result 34 33 = 0 ∧ 0 < fld result 32 14 ∧ 0 < (fld result 32 14 : Int) + signed 14 (fld result 13 0) ∧
      fld (BitVec.ofNat 48 (2 ^ 33) : BitVec 48) 34 33 ≠ 0 := by decide

theorem wit_CleanLine : ∀ a, CleanLine a (bAt { sort := { calSets := [{ port := 4, tile := 31, s := 64 }] } }) :=
  fun _ => ⟨rfl, rfl, rfl⟩

theorem wit_StagedSetsMerge :
    let set : CalSet := { port := 127, tile := 31, s := 64, results := List.replicate 64 (22369, 65535, 0) }
    let lost : CalSet := { port := 127, tile := 31, s := 64, lost := true }
    let b := bAt { sort := { calSets := [set] } }
    let c := bAt { sort := { calSets := [lost] } }
    (∀ x ∈ b.sort.calSets, x.port ≠ (0 : Fin 128) ∨ x.tile ≠ (0 : Fin 32)) ∧ b.sort.calSets = [set] ∧ set.port = (127 : Fin 128) ∧
      set.tile = (31 : Fin 32) ∧ b.calMergeable set = true ∧ b.mere.flaws = [] ∧ b.mere.tracker = [] ∧ (∀ a, b.poisoned a = false) ∧ set.lost = false ∧
      set.results[63]? = some (22369, 65535, 0) ∧ 22369 < 65536 ∧ 65535 < 65536 ∧ c.sort.calSets = [lost] ∧ c.calMergeable lost = true ∧ lost.lost = true :=
  ⟨by decide, by decide, by decide, by decide, by decide, by decide, by decide, fun _ => rfl, by decide, by decide, by decide, by decide, by decide, by decide, by decide⟩

theorem wit_ReadsAndRepairsOfLines :
    let e : TrkEntry := ⟨9, 1, true, false, false, 0⟩
    let b := bAt { regs := [(Reg.MERE_CTRL, 3)] }
    let c := bAt { regs := [(Reg.MERE_CTRL, 3)], mere := { tracker := [(63, some e)] } }
    (b.regBit Reg.MERE_CTRL 0 = true ∧ b.mereInUse 9 = true ∧ b.mere.flaws = [] ∧ b.mere.remap = [] ∧
        b.up ≤ b.mere.mereFrom + 2 * max 100 (b.regFld Reg.MERE_SCRUB 15 0) * 320000) ∧
      (b.mere.poison = [] ∧ b.mere.tracker = [] ∧ fget 0 b.mere.levels (9 / 65536 % 16) < b.bktCap) ∧
      (bAt { mere := { poison := [(9, true)] } }).mere.poison = [(9, true)] ∧
      (c.mere.poison = [] ∧ c.mere.tracker = [(63, some e)] ∧ e.hard = false ∧ e.wb = true ∧ e.addr = 9 ∧ fget 0 c.mere.spares (9 / 65536) < 512) ∧
      (b.regBit Reg.MERE_CTRL 1 = true ∧ b.up ≤ b.mere.tarnFrom + 2 * max 1 (b.regFld Reg.MERE_SCRUB 31 16) * 320000000) ∧
      b.up % (max 1 (b.regFld Reg.MERE_BKT_CFG 31 16) * 320000) = 0 ∧ FMapWf 0 b.mere.levels := by
  refine ⟨by decide, by decide, by decide, by decide, by decide, by decide, ⟨?_, ?_⟩⟩ <;> simp [bAt, sB, reachB, advance, ticksTo, Bolov.advance, later]

theorem wit_ReadsAndRepairsOfLines_lost :
    Bolov.readOutcome {} ⟨9, [5, 5]⟩ = .uncorrectable 0 := by decide +kernel

theorem wit_SortEngineStartsAndStops :
    let u : Span := ⟨0, 0, [5, 4]⟩
    let idle := bAt { regs := [(Reg.SORT_S0, 1024)], ports := [(127, { refusal := some u, lateDrop := some u })] }
    let run := bAt { up := 64, sort := { running := true }, ports := [(127, { refusal := some u, lateDrop := some u })] }
    let drain := bAt { sort := { running := true, final := some 0 } }
    (idle.sort.running = false ∧ (idle.domOn 72 && idle.domOn 73 && idle.domOn 74 && idle.domOn 75 && later idle.s0 idle.tick &&
        decide (1024 ≤ tickDiff idle.s0 idle.tick)) = true) ∧
      (bAt {}).sort.running = false ∧ later (bAt {}).s0 (bAt {}).tick = false ∧ (run.sort.running = true ∧ run.sort.final = none) ∧
      run.sliceNum run.tick ≥ 0 ∧ (bAt { sort := { running := true, nextStart := 1 } }).sliceNum 0 < 0 ∧
      (drain.sort.running = true ∧ drain.sort.final ≠ none) ∧ (idle.port 127).refusal = some u ∧ (idle.port 127).lateDrop = some u ∧
      (decide (u.lastAt + 64 ≤ idle.up) || decide (u.openAt + 1024 ≤ idle.up)) = false ∧ (idle.port 0).refusal = none ∧
      (idle.port 0).lateDrop = none ∧ u.hits = 5 :: [4] ∧ [4].length + 1 < 0xFFFFFFFF ∧ (run.port 127).refusal = some u ∧
      (decide (u.lastAt + 64 ≤ run.up) || decide (u.openAt + 1024 ≤ run.up)) = true := by decide

/-! ### Sort engine, output, triggers, interval units, Tarn -/

/-- A hit of cell 2,047 at tick 5 after its horizon. -/
def hitWord : W64 := word64 [(2, 1), (11, 2047), (12, 5), (39, 0)]

/-- Port 127 with one word queued, and a sort engine. -/
def bSort (w : W64) (x : SortState) : Bolov :=
  bAt { regs := [(Reg.SORT_CTRL, 5)], ports := [(127, { rx := .data, queue := [.word w (parityOf w) 0] })], sort := x }

/-- The last tile of port 127 feeds region 255. -/
def cfgLast : SliceCfg := { regionMap := [(4095, 0x00FF)] }

theorem wit_RecordsAreSorted_marker :
    let b := bAt { sort := { running := true }, ports := [(127, { rx := .data, queue := [.marker 64] })] }
    ((bAt {}).sort.running = false ∨ ((bAt {}).port 127).queue = []) ∧ b.sort.running = true ∧ (b.port 127).queue = .marker 64 :: [] ∧
      b.endedSlices = [] ∧ ∀ k, (b.portTile 127 k).expecting = none :=
  ⟨by decide, by decide, by decide, by decide, fun _ => rfl⟩

theorem wit_RecordsAreSorted_clean : ∀ a, CleanLine a (bSort hitWord { running := true }) := fun _ => ⟨rfl, rfl, rfl⟩

/-- The tick that a record word names against horizon 0. -/
def tickIn (w : W64) : Tick := 0 + BitVec.ofNat 48 ((fld w 50 39 + 4096 - (0 : Tick).toNat % 4096) % 4096)

theorem wit_RecordsAreSorted_outside :
    let w3 : W64 := word64 [(2, 3), (62, 0)]
    let far : W64 := word64 [(2, 1), (11, 2047), (12, 600), (39, 0)]
    let express : W64 := word64 [(2, 1), (11, 2047), (12, 5), (22, 0), (1, 1), (16, 0)]
    let a := bSort w3 { running := true }
    let b := bSort hitWord { running := true }
    let c := bSort far { running := true, cfg := cfgLast, final := some 0 }
    let before := bSort hitWord { running := true, cfg := cfgLast, nextStart := 64 }
    let e := bAt { regs := [(Reg.OUT_EXPRESS, 0x80000000)], ports := [(127, { rx := .data, queue := [.word express (parityOf express) 0] })], sort := { running := true, cfg := cfgLast } }
    (a.sort.running = true ∧ (a.port 127).queue = .word w3 (parityOf w3) 0 :: [] ∧ fld w3 63 62 = 3) ∧
      (b.sort.running = true ∧ (b.port 127).queue = .word hitWord (parityOf hitWord) 0 :: [] ∧ fld hitWord 63 62 ≠ 3 ∧ tickIn hitWord = 5 ∧
        b.sliceOf 5 = none ∧ (b.cfgAt 5).region 127 (fld hitWord 61 51 / 64) = none) ∧
      (tickIn far = 600 ∧ c.sliceOf 600 = none ∧ (c.cfgAt 600).region 127 (fld far 61 51 / 64) ≠ none ∧ c.sort.final = some 0 ∧ (0 : Nat) < c.sliceNum 600) ∧
      (before.sliceOf 5 = none ∧ (before.cfgAt 5).region 127 31 ≠ none ∧ before.sliceNum 5 < 0) ∧
      (e.sort.running = true ∧ tickIn express = 5 ∧ e.sliceOf 5 = none ∧ (e.cfgAt 5).region 127 (fld express 61 51 / 64) ≠ none ∧ fld express 63 62 = 1 ∧
        bit express.toNat 16 = true ∧ e.expressOn = true ∧ e.emitsExpress = true ∧ 0 ≤ e.sliceNum 5 ∧ e.sort.final = none) := by decide +kernel

theorem wit_RecordsAreSorted_slice :
    let sl : Slice := { num := 0, start := 0, cfg := cfgLast }
    let x : SortState := { running := true, cfg := cfgLast, nextSlice := 1, nextStart := 32 }
    let far : W64 := word64 [(2, 1), (11, 2047), (12, 600), (39, 0)]
    let b := bSort hitWord { x with slices := [sl] }
    let ahead := bSort far x
    let late := bSort hitWord { x with slices := [{ sl with open' := 0 }] }
    let drop := bAt { regs := [(Reg.SORT_CTRL, 1)], ports := (bSort hitWord {}).ports, sort := { x with slices := [{ sl with phase := .closed }] } }
    let refused := bSort hitWord { x with slices := [{ sl with refused := BitVec.allOnes 256 }] }
    let half := bSort hitWord { x with slices := [{ sl with chains := [(255 * 128 + 127, ⟨[0], [7]⟩)] }] }
    let back := bSort hitWord { x with slices := [sl], freeLines := [9] }
    let full := bSort hitWord { x with slices := [sl], freshLine := 327680 }
    let skip := bSort hitWord { x with slices := [sl], skips := [0] }
    (b.sliceOf 5 = some sl ∧ sl.cfg.region 127 31 = some 255 ∧ fld hitWord 63 62 = 1 ∧ bit hitWord.toNat 16 = false ∧
      b.sliceInRun 5 = some 0 ∧ later (b.sliceStart 0) (b.tick + 64) = false ∧ b.sort.skips.contains sl.num = false ∧
      sl.phase = .collecting ∧ sl.open'.getLsbD 255 = true ∧ sl.refused.getLsbD 255 = false ∧
      (fget {} sl.chains (255 * 128 + 127)).recs.length % 4 = 0 ∧ b.sort.freeLines = [] ∧ b.sort.freshLine < 327680) ∧
    ((ahead.cfgAt 600).region 127 31 ≠ none ∧ ahead.sliceInRun 600 = some 18 ∧ later (ahead.sliceStart 18) (ahead.tick + 64) = true ∧
      ahead.ek4 = false ∧ ahead.sort.late.length < 4096) ∧
    (late.sliceOf 5 = some { sl with open' := 0 } ∧ late.sliceInRun 5 = some 0 ∧ late.regBit Reg.SORT_CTRL 2 = true ∧ late.ek4 = false ∧ late.sort.late.length < 4096) ∧
    (drop.sliceOf 5 = some { sl with phase := .closed } ∧ drop.sliceInRun 5 = some 0 ∧ drop.regBit Reg.SORT_CTRL 2 = false) ∧
    refused.sliceOf 5 = some { sl with refused := BitVec.allOnes 256 } ∧
    (half.sliceOf 5).map (fun y => decide ((fget {} y.chains (255 * 128 + 127)).recs.length % 4 ≠ 0)) = some true ∧
    (back.sliceOf 5 = some sl ∧ back.sort.freeLines = 9 :: []) ∧
    full.sliceOf 5 = some sl ∧ full.sort.freshLine = 327680 ∧ skip.sliceInRun 5 = some 0 ∧ skip.sort.skips.contains 0 = true := by decide +kernel

theorem wit_SlicesOpenAndClose :
    let b := bAt { regs := [(Reg.RATE_CTRL, 0)], sort := { running := true } }
    let busy := bAt { regs := [(Reg.RATE_CTRL, 0)], sort := { running := true, final := some 256, nextSlice := 256, slices := [{ num := 0, start := 0, cfg := {}, phase := .closed }] } }
    let sl : Slice := { num := 0, start := -512, cfg := {} }
    let over' := bAt { sort := { running := true, nextSlice := 1, slices := [sl] } }
    (b.sort.running = true ∧ b.sort.nextStart = b.tick ∧ b.sort.final = none ∧ b.endedSlices = [] ∧ b.cmt.busy = false ∧
      b.regBit Reg.RATE_CTRL 0 = false ∧ b.regFld Reg.RATE_CTRL 3 2 = b.rate.stage ∧ b.pod.state = .off ∧
      b.sort.slices.any (fun x => !x.skipped && decide (x.num % 256 = b.sort.nextSlice % 256)) = false) ∧
    (busy.sort.running = true ∧ busy.sort.nextStart = busy.tick ∧ busy.sort.final = some 256 ∧ busy.sort.nextSlice ≤ 256 ∧ busy.endedSlices = [] ∧
      busy.cmt.busy = false ∧ busy.sort.slices.any (fun x => !x.skipped && decide (x.num % 256 = busy.sort.nextSlice % 256)) = true) ∧
    (bAt {}).sort.running = false ∧ over'.sort.slices = [sl] ∧ sl.phase = .collecting ∧
      notBefore over'.tick (sl.start + BitVec.ofNat 48 over'.sliceLen) = true ∧
      (∀ p, (over'.port p).rx ≠ .data ∨ (over'.port p).inTest = false ∨ later (sl.start + BitVec.ofNat 48 over'.sliceLen) (over'.port p).hEff = false) ∧
      sl.lost = [] ∧ sl.refused = 0 ∧ sl.open' ≠ 0 ∧ ∀ p, (over'.port p).downFrom = none :=
  ⟨by decide, by decide, by decide, by decide, by decide, by decide, fun _ => .inr (.inl rfl), by decide, by decide, by decide, fun _ => rfl⟩

theorem wit_ResponsesAndStatusWords :
    let r : Request := { seq := 0x01FF, port := 127, op := 1, once := false, addr := 4, data := 9, attempts := 1, issued := true }
    let pl : BitVec 48 := BitVec.ofNat 48 (0xFF * 2 ^ 40)
    let a := bAt { ports := [(127, { rx := .ready })], rmt := { requests := [r] } }
    let b := bAt { ports := [(127, { rx := .ready, owner := true, publish := { reads := [(Reg.JID_UNIT, 0xFF)] } })], cmt := { busy := true, pending := 5, ports := [{ port := 127 }] } }
    let c := bAt { regs := [(Reg.POD_LEASE_ID, 7)], ports := [(127, { rx := .ready })] }
    ((bAt {}).port 0).rx = .acquiring ∧
      ((a.port 127).rx ≠ .acquiring ∧ a.rmt.requests = [r] ∧ r.port = 127 ∧ r.issued = true ∧ r.answer = none ∧ r.seq.toNat % 256 = fld pl 47 40) ∧
      ((c.port 127).rx ≠ .acquiring ∧ c.rmt.requests = [] ∧ (∀ r ∈ (c.port 127).publish.reads, r.2.toNat ≠ fld pl 47 40)) ∧
      ((b.port 127).rx ≠ .acquiring ∧ b.rmt.requests = [] ∧ (b.port 127).publish.reads = [(Reg.JID_UNIT, 0xFF)] ∧ (0xFF : BitVec 8).toNat = fld pl 47 40) ∧
      ((5 : Byte) ≠ 6 ∧ (5 : Byte) ≠ 7) ∧
      (b.cmt.busy = true ∧ fld (0x58 : Byte) 7 4 = b.cmt.pending.toNat ∧ b.cmt.ports = [{ port := 127 }]) ∧ c.cmt.busy = false ∧
      fld (0x00074000 : Word) 15 14 ≠ 0 ∧ fld (0x00074000 : Word) 31 16 = c.leaseId ∧ c.pod.state = .off ∧ b.pod.state = .off ∧
      fld (0x00004000 : Word) 31 16 = b.leaseId ∧ (b.port 127).owner = true ∧ (c.port 127).owner = false := by decide

/-- A chip with `l` as lane 15. -/
def bLane (up : Nat) (l : Lane) (b : Bolov) : Bolov := bAt { b with up := up, lanes := (Vector.replicate 16 {}).set 15 l }

theorem wit_FramesAndExpressUnits_frames :
    let sl : Slice := { num := 15, start := 0, cfg := {}, phase := .closed, open' := 0 }
    let f : FrameOut := { slice := 15, words := [0], lines := [(1, 3)], lane := 15, twin := ⟨15, 0, 0, 0, false⟩ }
    let on : Lane := { enabledAt := some 0, ranFrom := some 0, started := true }
    let x : SortState := { running := true, nextSlice := 16, nextFrame := 15, slices := [sl] }
    let b := bLane 0 on { sort := x }
    let none' := bAt { sort := x }
    let busy := bLane 0 { on with frame := some f } { sort := x }
    let held := bLane 100 { on with heldFrom := some 0, frame := some f } { sort := x }
    let done := bLane 100 { on with frame := some f, replay := some (7, [0]) } { sort := x }
    (b.pod.state = .off ∧ b.pod.resend = none ∧ (∀ y ∈ (bAt {}).sort.slices, y.num = (bAt {}).sort.nextFrame → y.phase ≠ .closed) ∧
      (bAt { pod := { state := .pairing } }).pod.state = .pairing) ∧
    (b.pod.emitFrom ≤ sl.num ∧ b.nextClosed = some sl ∧ b.syncMerge.nextClosed = some sl ∧ b.chooseLane (Fin.ofNat 16 (sl.cfg.lane (sl.num % 256))) = some 15 ∧
      b.laneFree 15 = true ∧ b.tarnOn = false ∧ b.ek4 = false ∧ b.sort.final = none ∧ b.sort.walk = none ∧ b.sort.late = [] ∧ b.notices = [] ∧
      sl.chains = [] ∧ b.trg.testPulses = [] ∧ b.rate.stage = 0 ∧ sl.stageAtStart = 0 ∧ sl.skipped = false) ∧
    none'.chooseLane 15 = none ∧ (busy.chooseLane 15 = some 15 ∧ busy.laneFree 15 = false) ∧
    ((b.lanes[(15 : Fin 16)]).frame = none ∧ (busy.lanes[(15 : Fin 16)]).frame = some f ∧ busy.wordsRoom (busy.lanes[(15 : Fin 16)]) busy.up < f.words.length ∧
      (held.lanes[(15 : Fin 16)]).frame = some f ∧ held.laneStopped (held.lanes[(15 : Fin 16)]) = true) ∧
    (done.lanes[(15 : Fin 16)]).frame = some f ∧ f.words.length ≤ done.wordsRoom (done.lanes[(15 : Fin 16)]) done.up ∧
      done.laneStopped (done.lanes[(15 : Fin 16)]) = false ∧ done.pod.state = .off ∧ f.again = false ∧ (∀ y ∈ f.lines, y.1 ≤ f.words.length) ∧
      done.sort.final = none ∧ (done.lanes[(15 : Fin 16)]).cut = none ∧ (done.lanes[(15 : Fin 16)]).replay = some (7, [0]) ∧ ([0] : List W64) ≠ [] := by decide

theorem wit_FramesAndExpressUnits_clean : ∀ a, CleanLine a (bLane 0 { enabledAt := some 0, ranFrom := some 0, started := true }
    { sort := { running := true, nextSlice := 16, nextFrame := 15, slices := [{ num := 15, start := 0, cfg := {}, phase := .closed, open' := 0 }] } }) :=
  fun _ => ⟨rfl, rfl, rfl⟩

theorem wit_FramesAndExpressUnits_express :
    let on : Lane := { enabledAt := some 0, ranFrom := some 0, started := true }
    let m : ExpressUnit := .mark 3 true false 5 0xFFFF 1250 255 255
    let h : ExpressUnit := .hit hitWord 5 127 0xFFFF
    let a := bLane 0 { on with markQ := [m] } { regs := [(Reg.OUT_EXPRESS, 0x8000000F)] }
    let b := bLane 0 { on with hitQ := [h] } { regs := [(Reg.OUT_EXPRESS, 0x8000000F)], sort := { cfg := { cal := false } } }
    (a.cmt.toMerge = [] ∧ a.expressLane = some 15 ∧ a.laneStopped (a.lanes[(15 : Fin 16)]) = false ∧ a.pod.state = .off ∧ a.tarnOn = false ∧
      a.ek4 = false ∧ a.regBit Reg.OUT_EXPRESS 31 = true ∧ (∀ k : Fin 16, k ≠ 15 → (a.lanes[k]).markQ = []) ∧ (a.lanes[(15 : Fin 16)]).markQ = m :: []) ∧
      (b.cmt.toMerge = [] ∧ b.expressLane = some 15 ∧ b.tarnOn = false ∧ b.ek4 = false ∧ (∀ k : Fin 16, (b.lanes[k]).markQ = []) ∧
        (∀ k : Fin 16, k ≠ 15 → (b.lanes[k]).hitQ = []) ∧ (b.lanes[(15 : Fin 16)]).hitQ = h :: [] ∧ 127 < 128 ∧ (b.cfgAt 5).cal = false ∧ b.sort.walk = none) ∧
      (bAt {}).cmt.toMerge = [] ∧ (bAt {}).expressLane ≠ some 15 := by decide

theorem wit_FramesAndExpressUnits_count : CleanLine (ctxLine (2048 * 127 + fld hitWord 61 51)) (bLane 0 {} { sort := { cfg := { cal := false } } }) :=
  ⟨rfl, rfl, rfl⟩

theorem wit_LanesAndHolds :
    let at' := fun (up : Nat) (l : Lane) => bLane up l {}
    let held : Lane := { enabledAt := some 0, ranFrom := some 0, heldFrom := some 100 }
    let broken : Lane := { enabledAt := some 0, ranFrom := some 0, breach := true, breachAt := 5 }
    let b := at' 40000 held
    (((at' 0 {}).lanes[(15 : Fin 16)]).heldFrom = none ∧ ((at' 0 {}).lanes[(15 : Fin 16)]).enabledAt = none) ∧
      ((b.lanes[(15 : Fin 16)]).heldFrom = some 100 ∧ (b.lanes[(15 : Fin 16)]).ranFrom = some 0 ∧ (b.lanes[(15 : Fin 16)]).enabledAt = some 0 ∧ b.domOn (32 + 15) = true ∧
        b.ek4 = false ∧ (b.lanes[(15 : Fin 16)]).breach = false ∧
        (b.up - 0) * 3125 / 2560 > (100 - 0) * 3125 / 2560 + max 1 (b.regFld Reg.OUT_XOFF_HOLD 15 0)) ∧
      ((((at' 0 broken).lanes[(15 : Fin 16)]).breach = true ∧ ((at' 0 broken).lanes[(15 : Fin 16)]).heldFrom = none ∧ ((at' 0 broken).lanes[(15 : Fin 16)]).holds = [] ∧
        ((at' 0 broken).lanes[(15 : Fin 16)]).enabledAt = some 0) ∧ ((at' 0 broken).up - 0) * 3125 / 2560 < 2 ^ max 10 (min 20 ((at' 0 broken).regFld Reg.OUT_XOFF_WIN 4 0)) ∧
        5 < 2 ^ max 10 (min 20 ((at' 1000000 broken).regFld Reg.OUT_XOFF_WIN 4 0)) ∧
        2 ^ max 10 (min 20 ((at' 1000000 broken).regFld Reg.OUT_XOFF_WIN 4 0)) ≤ ((at' 1000000 broken).up - 0) * 3125 / 2560) ∧
      ((at' 3355 broken).up - 0) * 3125 / 2560 < 4096 ∧ 4096 ≤ ((at' 3356 broken).up - 0) * 3125 / 2560 ∧
      (sB { sort := { running := true } }).b.sort.running = true ∧ (sB {}).b.sort.running = false ∧ (sB {}).b.tarn.requests = [] := by decide

theorem between_bounds (lo hi v : Int) (h : lo ≤ hi) : lo ≤ between lo hi v ∧ between lo hi v ≤ hi := by
  unfold between; omega

/-- A rising comparator fires on an input that went from far below to far above its threshold. -/
theorem comparator_far (n : Nat) (b : Bolov) (h : b.regBit (Reg.TRG_SRC_CFG n) 30 = false) :
    b.comparator n (-10000000000) 10000000000 = (true, false) := by
  have ht : ∀ m : Nat, m ≤ 3000 → ∀ v, let set : Int := (m : Int) * 1000 - 1000000
      set + between (-(5000 + set.natAbs / 200 : Nat)) (5000 + set.natAbs / 200 : Nat) v < 10000000 ∧
      -10000000 < set + between (-(5000 + set.natAbs / 200 : Nat)) (5000 + set.natAbs / 200 : Nat) v := by
    intro m hm v
    have := between_bounds (-(5000 + ((m : Int) * 1000 - 1000000).natAbs / 200 : Nat)) (5000 + ((m : Int) * 1000 - 1000000).natAbs / 200 : Nat) v (by omega)
    simp only; omega
  have hh : ∀ m : Nat, m ≤ 200 → ∀ v, ((m * 1000 : Nat) : Int) + between (-(m * 1000 / 5 + 2000 : Nat)) (m * 1000 / 5 + 2000 : Nat) v < 10000000 := by
    intro m hm v
    have := between_bounds (-(m * 1000 / 5 + 2000 : Nat)) (m * 1000 / 5 + 2000 : Nat) v (by omega)
    omega
  have t1 := (ht _ (Nat.min_le_left 3000 (b.regFld (Reg.TRG_SRC_LEVEL n) 27 16)) (Config.trigThreshold n b.up)).1
  have t2 := (ht _ (Nat.min_le_left 3000 (b.regFld (Reg.TRG_SRC_LEVEL n) 27 16)) (Config.trigThreshold n b.up)).2
  have t3 := hh (max 5 (min 200 (b.regFld (Reg.TRG_SRC_LEVEL n) 7 0))) (by omega) (Config.trigHysteresis n b.up)
  have a1 : b.trgThreshold n < 10000000000 := by unfold Bolov.trgThreshold; exact Int.lt_trans t1 (by decide)
  have a2 : -10000000000 < b.trgThreshold n - b.trgHysteresis n := by
    unfold Bolov.trgThreshold Bolov.trgHysteresis; simp only at *; omega
  simp [Bolov.comparator, h, a1, a2]

theorem wit_TriggerMarks :
    let cfg : Word := 0x80010004
    let m : Mark := { at' := 0, edge := 0, source := 3, tick := 5, w := 0, seq := 0, protect := true, windowOpen := true, dropped := false }
    let r : FMap Word := [(Reg.OUT_EXPRESS, 0x80000000), (Reg.TRG_SRC_CFG 3, cfg), (Reg.TRG_SRC_CFG 4, cfg)]
    let x : Bolov := { regs := r, up := 10, trg := { lastMark := [(3, some (-3, 3))] } }
    let b := bAt x
    let c := bAt { x with regs := (Reg.OUT_EXPRESS, 0) :: r.drop 1, trg := { lastMark := [(3, some (-4, 3))] } }
    let full := bAt { x with lanes := (Vector.replicate 16 {}).set 0 { markQ := List.replicate 16 (.mark 3 false false 0 0 0 0 0) } }
    let later' := bAt { regs := [(Reg.OUT_EXPRESS, 0), (Reg.TRG_SRC_CFG 3, cfg)], trg := { seq := 1, marks := [{ m with source := 4, dropped := true }] } }
    let d := bAt { x with tick := 12293, trg := { marks := [m] } }
    (b.regBit (Reg.TRG_SRC_CFG 3) 30 = false ∧ bit (b.reg (Reg.TRG_SRC_CFG 3)).toNat 30 = false) ∧
    (bit ((bAt {}).reg (Reg.TRG_SRC_CFG 0)).toNat 31 = false ∧ bit ((bAt {}).reg (Reg.TRG_SRC_CFG 4)).toNat 31 = false) ∧
      (bit (b.reg (Reg.TRG_SRC_CFG 3)).toNat 31 = true ∧ b.reg (Reg.TRG_SRC_DELAY 3) = 0 ∧ fget none b.trg.lastMark 3 = some (-3, 3) ∧
        b.recent 3 = true ∧ later ((-3 : Tick) + BitVec.ofNat 48 (max 4 (fld (b.reg (Reg.TRG_SRC_CFG 3)) 15 0))) b.tick = true ∧
        later ((-3 : Tick) + BitVec.ofNat 48 (max 4 (fld (b.reg (Reg.TRG_SRC_CFG 3)) 15 0))) (b.tick + 1) = false ∧ b.pod.state = .off ∧
        bit (b.reg (Reg.TRG_SRC_CFG 3)).toNat 28 = false ∧ b.expressOn = true ∧ (b.lanes[b.expressHome]).markQ.length < 16 ∧
        ∀ m ∈ b.trg.marks, m.edge ≠ b.up ∨ m.source ≤ 3) ∧
      (fget none c.trg.lastMark 3 = some (-4, 3) ∧ later ((-4 : Tick) + 4) c.tick = false ∧ c.expressOn = false) ∧
      (full.expressOn = true ∧ 16 ≤ (full.lanes[full.expressHome]).markQ.length) ∧
      (later'.trg.marks = [] ++ [{ m with source := 4, dropped := true }] ∧ m.edge = later'.up ∧ later'.recent m.at' = true ∧ m.seq = later'.trg.seq - 1 ∧
        m.annotated = false ∧ later'.expressOn = false) ∧
      (bit (b.reg (Reg.TRG_SRC_CFG 4)).toNat 31 = true ∧ bit (b.reg (Reg.TRG_SRC_CFG 4)).toNat 28 = false ∧ ∀ m ∈ b.trg.marks, m.edge ≠ b.up + 1 ∨ m.source ≤ 4) ∧
      (∀ m ∈ b.trg.marks, m.seq = 9 → m.annotated = true) ∧
      (d.trg.marks.find? (fun m => m.seq == 0 && !m.annotated) = some m ∧ notBefore (5 : Tick) (m.tick + BitVec.ofNat 48 (16 * m.w + 12288)) = false) ∧
      b.rate.stage < 2 ∧ (∀ m ∈ b.trg.marks, m.protect = false ∨ m.windowOpen = false) ∧ m ∈ d.trg.marks ∧ m.protect = true ∧ m.windowOpen = true := by decide

theorem wit_TriggerMarks_fires :
    (bAt { regs := [(Reg.TRG_SRC_CFG 3, 0x80010004)] }).comparator (3 : Fin 4) (-10000000000) 10000000000 = (true, false) :=
  comparator_far 3 _ (by decide)

theorem wit_TriggerMarks_annotation :
    let m : Mark := { at' := 0, edge := 0, source := 3, tick := 5, w := 0, seq := 0, protect := true, windowOpen := true, dropped := false }
    let d := (reachB 12293 (sB { tick := 12293, trg := { marks := [m] } })).b
    d.trg.marks.find? (fun m => m.seq == 0 && !m.annotated) = some m ∧ notBefore d.tick (m.tick + BitVec.ofNat 48 (16 * m.w + 12288)) = true ∧
      d.ek4 = false ∧ ∀ e ∈ d.ports, e.2.downFrom = none := by decide

/-- Unit 3 as `u`, its registers as `r`. -/
def bUnit (r : FMap Word) (u : IsUnit) : Bolov := bAt { regs := r, isu := (Vector.replicate 4 {}).set 3 u }

theorem wit_IntervalUnits_run :
    let run : FMap Word := [(Reg.IS_n_CTRL 3, 0x80000000)]
    ((bUnit [] { link := some 127 }).unit 3).link.isSome = true ∧ ((bUnit [] {}).unit 3).link = none ∧ (bUnit [] {}).isRun 3 = false ∧
      (bUnit run {}).isRun 3 = true ∧ (bUnit run {}).reg (Reg.IS_n_CTRL 3) = (0x80000000 &&& 0x3E000000) ||| 0x80000000 ∧
      ((bUnit run {}).unit 3).acc.count = 0 ∧ ((bUnit run { acc := { count := 1 } }).unit 3).acc.count ≠ 0 ∧ ∀ k, (bUnit [] {}).isActive k = false := by decide

theorem wit_IntervalUnits_edges :
    let r : FMap Word := [(Reg.IS_n_CTRL 3, 0x80000000), (Reg.IS_n_SRC 3, 0x30004000), (Reg.IS_n_N 3, 2)]
    let a : Stamp := ⟨0, 0⟩
    let b := bUnit r {}
    let c := bUnit r { opened := some a }
    let f := bUnit [(Reg.IS_n_CTRL 3, 0x90000000), (Reg.IS_n_N 3, 2)] { opened := some a }
    (b.isActive 3 = true ∧ (∀ k, k ≠ 3 → b.isActive k = false) ∧ b.isFreq 3 = false ∧ (b.unit 3).opened = none ∧
      b.isStart 3 = ((3 : BitVec 4).toNat, false, 0) ∧ (b.unit 3).closed = none ∧ b.isArmed 3 = true) ∧
      ((c.unit 3).opened = some a ∧ stampDiff a ⟨0, 0⟩ < 192 ∧ c.isStop 3 = ((4 : BitVec 4).toNat, false, 0) ∧ c.isStart 3 ≠ ((4 : BitVec 4).toNat, false, 0) ∧
        200 ≤ stampDiff a ⟨1, 1050⟩ ∧ stampDiff a ⟨1, 1050⟩ ≤ (c.isTimeout 3 : Int) * 1250 ∧ (c.unit 3).acc.count = 0 ∧ (c.unit 3).acc.edges = 0 ∧
        1 < c.isN 3 ∧ (c.unit 3).link = none ∧ stampDiff a ⟨c.tick, 0⟩ < c.isBound 3) ∧
      (f.isFreq 3 = true ∧ f.isRun 3 = true ∧ (f.unit 3).opened = some a ∧ (f.isGate 3 : Int) * 1250 ≤ stampDiff a ⟨BitVec.ofNat 48 (f.isGate 3), 0⟩ ∧
        stampDiff a ⟨BitVec.ofNat 48 (f.isGate 3), 0⟩ ≤ f.isBound 3 ∧ (f.unit 3).acc.count + 1 < f.isN 3 ∧ f.isArmed 3 = true) ∧
      b.gateIn = false ∧ ¬ b.gateIn = true ∧ (∀ k, (bAt {}).isActive k = false) := by decide

theorem wit_IntervalUnits_unarmed :
    let e := bUnit [(Reg.IS_n_CTRL 3, 0x82000000), (Reg.IS_n_SRC 3, 0x30004000)] {}
    let late := bAt { up := 2 ^ 40, tick := 0, regs := [(Reg.IS_n_CTRL 3, 0x80000000)], isu := (Vector.replicate 4 {}).set 3 { opened := some ⟨BitVec.ofNat 48 (2 ^ 47 + 1), 0⟩ } }
    (e.isActive 3 = true ∧ (e.unit 3).opened = none) ∧ (late.unit 3).opened = some ⟨BitVec.ofNat 48 (2 ^ 47 + 1), 0⟩ ∧
      late.isBound 3 ≤ stampDiff ⟨BitVec.ofNat 48 (2 ^ 47 + 1), 0⟩ ⟨late.tick, 0⟩ := by decide

theorem wit_TarnRingAndTraining :
    let rp : Replay := { id := 9, lane := 15, priority := 0, express := false, mask := 0, next := 0, stop := .slice 5, truncated := false }
    let e : TEntry := { pos := 8, kind := 1, lane := 0, words := [0, 0, 0, 0], seq := 0, filled := 1, sent := some 0 }
    let old : TEntry := { pos := 0, kind := 1, lane := 0, words := [0, 0, 0, 0], seq := 0, filled := 2, sent := some 0 }
    let b := bAt { up := 65536, tarn := { ready := true, hist := 100, entries := [old, e], w := 10, seq := 1 } }
    let next := bAt { up := 65536, tarn := { ready := true, hist := 100, entries := [e, { old with pos := 10, seq := 1 }] } }
    (sB {}).b.tarn.requests = [] ∧ ((sB { tarn := { requests := [rp] } }).b.tarn.requests = [rp] ∧ rp.active = false) ∧
      (b.tarn.training = false ∧ (bAt { tarn := { training := true } }).tarn.training = true ∧ (∀ k < 8, (bAt {}).domOn (64 + k) = true) ∧ (0x80 : BitVec 8) ≠ 0) ∧
      (b.tarn.ready = true ∧ b.tarn.requests = [] ∧ (bAt {}).tarn.ready = false) ∧ (∀ x ∈ b.tarn.entries, x.pos ≠ 9) ∧
      (b.tarn.entries.find? (fun x => x.pos == 8) = some e ∧ e.filled < e.lines ∧ b.tarnOn = true ∧ b.lineSent e e.filled b.up = true ∧ b.lineKept 9 = false ∧
        (∀ x ∈ b.tarn.entries, x.pos < 8 → x.pos + x.lines ≤ 9 ∧ 9 + 1 ≤ x.pos + b.tarn.hist) ∧
        (∀ x ∈ b.tarn.entries, x.pos < 8 → x.pos + x.lines ≤ 8 ∧ 8 + e.lines ≤ x.pos + b.tarn.hist) ∧
        fget none b.tarn.groups (9 % b.tarn.hist / 8) = none ∧ 8 * (9 % b.tarn.hist / 8) + 7 < b.tarn.hist ∧
        65536 ≤ b.up ∧ b.lineSent e e.filled (b.up - 65536) = true ∧ e.kind ≠ 0xF ∧ ∀ x ∈ b.tarn.entries, 8 < x.pos → x.kind = 0xF ∨ x.filled = 0) ∧
      (∃ x ∈ next.tarn.entries, 8 < x.pos ∧ x.kind ≠ 0xF ∧ x.filled ≠ 0) ∧
      (bAt { up := 65535 }).up < 65536 ∧ { e with filled := 2 }.lines ≤ { e with filled := 2 }.filled := by decide

theorem wit_TarnRingAndTraining_kept (q : Nat) : (bAt { tarn := { ready := true, hist := 100 } }).lineKept q = false := rfl

/-! ### Marks, replays, Pod, monitor -/

theorem wit_TarnMarks :
    let e : TEntry := { pos := 8, kind := 1, lane := 0, words := [0, 0, 0, 0], seq := 0, slice := 5, tod := 7, filled := 2, sent := some 0 }
    let on : TarnState := { ready := true, hist := 4096, entries := [e], marks := [(62, { state := .overtaken }), (63, { state := .live, pos := 8 })] }
    let big : TarnState := { on with hist := 5000 }
    let b := (sB { tarn := on }).b
    let c := (sB { tarn := big }).b
    (∀ a, CleanLine a b) ∧ ((sB { tarn := { markUntil := 1 } }).b.up < (sB { tarn := { markUntil := 1 } }).b.tarn.markUntil ∧ b.tarn.markUntil ≤ b.up) ∧ (sB {}).b.tarnOn = false ∧ b.tarnOn = true ∧ (b.mark 63).state ≠ .free ∧ (b.mark 0).state = .free ∧
      b.frameOf 5 = some e ∧ (b.frameOf 6 = none ∧ ∀ x ∈ b.tarn.entries, x.isFrame = true → x.slice < 6) ∧
      (b.frameOf 4 = none ∧ b.newestFrame = some e ∧ 4 ≤ e.slice) ∧ (b.newestWritten = some e ∧ 7 ≤ e.tod ∧ b.tarn.entries.find? (fun x => x.isFrame && decide (7 ≤ x.tod)) = some e) ∧
      e.tod < 8 ∧ ((b.mark 62).state = .free ∨ (b.mark 62).state = .overtaken) ∧
      (b.mark 63).state = .live ∧ (∀ k, k ≠ 63 → (c.mark k).pinned = false) ∧ (c.mark 63).pos % c.tarn.hist + 1 * 4096 ≤ c.tarn.hist ∧
      c.tarn.hist * min 90 (c.regFld Reg.TARN_PIN_MAX 6 0) / 100 < 1 * 4096 ∧
      1 * 4096 ≤ 100000 * min 90 (c.regFld Reg.TARN_PIN_MAX 6 0) / 100 := by
  refine ⟨fun _ => ⟨rfl, rfl, rfl⟩, by decide, by decide, by decide, by decide, by decide, by decide, by decide, by decide, by decide, by decide, by decide, by decide, ?_, by decide, by decide, by decide⟩
  intro k h
  by_cases h2 : k = 62
  · subst h2; rfl
  · simp [Bolov.mark, sB, fget, h, h2]

/-- A descriptor from the oldest to the newest frame, id 9, lane 15. -/
def descAll (abort : Bool) : W64 := word64 [(16, 9), (2, 2), (2, 2), (4, 15), (2, 3), (1, 1), (1, b2n abort), (6, 0), (6, 0), (4, 15), (20, 0)]

theorem wit_ReplayRequests_accept :
    let e0 : TEntry := { pos := 8, kind := 1, lane := 0, words := [0], seq := 1, slice := 5, filled := 1, sent := some 0 }
    let e1 : TEntry := { pos := 9, kind := 1, lane := 0, words := [0], seq := 2, slice := 6, filled := 1, sent := some 0 }
    let r : Replay := { id := 9, lane := 15, priority := 3, express := true, mask := 15, next := 8, stop := .slice 6, truncated := false }
    let going : Replay := { r with active := true, unit := some (true, 5, false) }
    let q := fun (d : W64) => (Vector.replicate 8 ({} : Queue)).set 3 { records := [[d, 0, 0, 0]] }
    let on : TarnState := { ready := true, hist := 4096, entries := [e0, e1] }
    let ls : Vector Lane 16 := (Vector.replicate 16 {}).set 15 { enabledAt := some 0, ranFrom := some 0, started := true }
    let a := bAt { queues := q (descAll false), tarn := on, lanes := ls }
    let b := bAt { queues := q (descAll true), tarn := { requests := [r] } }
    let under := bAt { queues := q (descAll true), tarn := { requests := [going] }, lanes := (Vector.replicate 16 {}).set 15 { replay := some (9, [0, 0]) } }
    let c := bAt { queues := q (descAll true) }
    (∀ x, CleanLine x a) ∧ (bAt {}).queues[(3 : Fin 8)].records = [] ∧
      (a.queues[(3 : Fin 8)].records = [descAll false, 0, 0, 0] :: [] ∧ bit (descAll false).toNat 36 = false ∧
        a.tarn.requests.length < 32 ∧ a.qRoom 4 = true ∧ a.tarnOn = true ∧ a.laneEnabled (Fin.ofNat 16 (fld (descAll false) 43 40)) = true ∧
        fld (descAll false) 47 46 = 2 ∧ fld (descAll false) 45 44 = 2 ∧ a.oldestFrame = some e0 ∧ a.newestWritten = some e1 ∧ e0.slice ≤ e1.slice) ∧
      (b.queues[(3 : Fin 8)].records = [descAll true, 0, 0, 0] :: [] ∧ bit (descAll true).toNat 36 = true ∧ b.tarn.requests = [r] ∧
        r.id = BitVec.ofNat 16 (fld (descAll true) 63 48) ∧ r.aborted = false ∧ r.active = false) ∧
      (under.tarn.requests = [going] ∧ going.active = true ∧ going.unit.isSome = true ∧ under.replayIdle going.lane = false) ∧
      c.tarn.requests = [] ∧ c.qRoom 4 = true ∧ c.tarnOn = false :=
  ⟨fun _ => ⟨rfl, rfl, rfl⟩, by decide, by decide, by decide, by decide, by decide, by decide, by decide⟩

theorem wit_ReplayRequests_read :
    let e : TEntry := { pos := 8, kind := 1, lane := 0, words := [0], seq := 1, slice := 5, filled := 1, sent := some 0 }
    let r : Replay := { id := 9, lane := 15, priority := 3, express := true, mask := 15, next := 8, prevSeq := some 0, stop := .slice 6, truncated := false }
    let tarn := fun (q : Replay) => ({ ready := true, hist := 238609288, w := 9, entries := [e], requests := [q] } : TarnState)
    let on := fun (q : Replay) => bAt { tarn := tarn q, lanes := (Vector.replicate 16 {}).set 15 { enabledAt := some 0, ranFrom := some 0 } }
    let b := on { r with active := true }
    let held := bAt { lanes := (Vector.replicate 16 {}).set 15 { heldFrom := some 0 } }
    (∀ a, CleanLine a (b.withFlaws [])) ∧ ((on r).tarn.requests = [r] ∧ r.lane = 15 ∧ r.active = false ∧ (on r).laneEnabled 15 = true) ∧
      (∀ x ∈ (on r).tarn.requests, x.lane ≠ 14) ∧ (bAt {}).laneEnabled 14 = false ∧ (held.lanes[(15 : Fin 16)]).heldFrom.isSome = true ∧
      b.tarn.requests = [{ r with active := true }] ∧ (b.lanes[(15 : Fin 16)]).heldFrom = none ∧ (b.lanes[(15 : Fin 16)]).breach = false ∧
      b.replayIdle 15 = true ∧ (b.withFlaws []).tarn.entries.find? (fun x => decide (r.next ≤ x.pos)) = some e ∧ e.isFrame = true ∧ r.fromSlice = none ∧
      (r.aborted = false ∧ { r with aborted := true }.aborted = true) ∧ (r.ended = false ∧ { r with ended := true }.ended = true) ∧
      r.prevSeq = some (e.seq - 1) ∧ 0 < e.seq ∧ e.seq < 2 ^ 32 ∧ e.filled = e.lines ∧
      max 1 (b.regFld Reg.TARN_GUARD 15 0) * 4096 ≤ ((e.pos + e.lines - 1) % b.tarn.hist + b.tarn.hist - b.tarn.w % b.tarn.hist) % b.tarn.hist ∧
      fget none b.tarn.masks r.mask = none ∧ r.stop = .slice 6 ∧ e.slice ≤ 6 ∧ { r with stop := .slice 4 }.stop = .slice 4 ∧ 4 < e.slice := by
  refine ⟨fun _ => ⟨rfl, rfl, rfl⟩, ?_⟩
  decide

/-- A Bolov in a Pod state. -/
def bPod (p : PodState) : Bolov := bAt { regs := [(Reg.POD_CTRL, 1)], pod := p }

theorem wit_PodStateChanges :
    let t : PodState := { state := .takingOver }
    let y : PodState := { state := .yielding, x := 6, through := some 5 }
    let live := bAt { ports := [(127, { rx := .data })], pod := t }
    let own := bAt { ports := [(127, { rx := .data, owner := true })], pod := y }
    let pref := bAt { regs := [(Reg.POD_CTRL, 3)], up := 639, pod := { state := .active, fenceOut := true } }
    ((sB { regs := [(Reg.POD_CTRL, 1)] }).b.regBit Reg.POD_CTRL 0 = true ∧ (sB {}).b.regBit Reg.POD_CTRL 0 = false ∧ (sB {}).b.pod.fenceIn = false ∧
      ((sB { pod := { fenceIn := true } }).b.pod.fenceIn = true ∧ (sB { pod := { fenceIn := true } }).b.pod.fenceOut = false) ∧
      (sB { sort := { running := true } }).b.sort.running = true ∧ (sB {}).b.sort.running = false ∧ (sB {}).b.anyPortData = false) ∧
    ((bPod {}).pod.state = .off ∧ (bPod t).pod.state ≠ .off ∧ (bPod t).pod.state = .takingOver ∧ (bPod t).atSliceStart = true ∧
      (∀ p ∈ (bPod t).livePorts, ((bPod t).port p).owner = true) ∧ (bPod t).pod.fenceIn = false ∧ (bPod t).pod.byHandover = false ∧ (bPod { t with partnerR := some 5 }).pod.partnerR = some 5 ∧ (bPod { t with byHandover := true }).pod.byHandover = true) ∧
    (∃ p ∈ live.livePorts, (live.port p).owner = false) ∧ (bPod { state := .active }).pod.state = .active ∧
    (own.pod.state = .yielding ∧ own.pod.released = false ∧ own.pod.through = some 5 ∧ own.pod.x ≤ 5 + 1 ∧ (own.port 127).owner = true ∧ 127 ∈ fkeys own.ports) ∧
    ((bPod { y with x := 7 }).pod.through = some 5 ∧ 5 + 1 < (bPod { y with x := 7 }).pod.x ∧ (bPod { y with through := none }).pod.through = none ∧ y.x ≠ 0) ∧
    ((bPod { fenceOut := true }).pod.fenceOut = true ∧ (bPod {}).pod.fenceOut = false) ∧
    (pref.regBit Reg.POD_CTRL 1 && pref.pod.fenceOut && decide (pref.up < pref.pod.fenceAt + 640)) = true ∧
    ((bPod t).pod.state ≠ .fenced ∧ ((bPod t).regBit Reg.POD_CTRL 1 && (bPod t).pod.fenceOut && decide ((bPod t).up < (bPod t).pod.fenceAt + 640)) = false) ∧
    ((bPod { state := .fenced }).pod.state = .fenced ∧ (bPod { state := .fenced }).pod.fenceIn = false) ∧
    ((bPod t).up < (bPod t).claimWindow) ∧ (bAt { up := 2 ^ 20, pod := t }).claimWindow ≤ (bAt { up := 2 ^ 20, pod := t }).up :=
  ⟨by decide, by decide, ⟨127, by decide, by decide⟩, by decide, by decide, by decide, by decide, by decide, by decide, by decide, by decide +kernel, by decide +kernel⟩

/-- A cross-link frame with its CRC. -/
def xlFrame (sync st health r type content : Nat) : BitVec 128 :=
  let body := pack [(2, sync), (1, 0), (1, 0), (3, st), (1, 0), (8, health), (16, r), (4, type), (76, content)]
  BitVec.ofNat 128 (pack [(112, body), (16, crc16 body 112)])

/-- A frame whose line form is scrambled again is plain. -/
theorem wit_CrossLinkAndHeartbeats_line (f : BitVec 128) : scrambleFrame (scrambleFrame f) = f := by
  rw [scrambleFrame, scrambleFrame, BitVec.xor_assoc, BitVec.xor_self, BitVec.xor_zero]

theorem wit_CrossLinkAndHeartbeats_received :
    let twin : TwinRec := ⟨5, 7, 9, 0, false⟩
    let p : PodState := { state := .standby, lock := true, built := [twin] }
    let c := bPod p
    let f := fun (type content : Nat) => xlFrame 2 3 255 0 type content
    let ok := fun (x : BitVec 128) => frameCrcOk x = true ∧ bits x.toNat 127 126 = 2 ∧ (c.pod.xlLock (bits x.toNat 127 126 == 2) (frameCrcOk x)).lock = true ∧ bit x.toNat 120 = false
    let same := f 1 (pack [(16, 5), (24, 7), (32, 9), (4, 0)])
    let diff := f 1 (pack [(16, 5), (24, 7), (32, 8), (4, 0)])
    let early := f 1 (pack [(16, 6), (24, 7), (32, 8), (4, 0)])
    let offer := f 5 (pack [(16, 5), (1, 0), (59, 0)])
    frameCrcOk (f 0 0 ^^^ 1) = false ∧ (frameCrcOk (xlFrame 1 3 255 0 0 0) = true ∧ bits (xlFrame 1 3 255 0 0 0).toNat 127 126 ≠ 2) ∧
      (ok (f 0 0) ∧ bits (f 0 0).toNat 95 92 = 0 ∧ (bPod { p with state := .active }).pod.state = .active) ∧
      (c.domOn 78 = true ∧ c.pod.fenceIn = false ∧ c.pod.state = .standby ∧ c.preferred = false ∧ c.pod.lostOnce = false ∧ c.pod.silent = false) ∧
      (ok same ∧ bits same.toNat 95 92 = 1 ∧ (c.pod.built.take 256).find? (fun x => x.slice % 65536 == bits same.toNat 91 76) = some twin ∧
        twin.records % 2 ^ 24 = bits same.toNat 75 52 ∧ twin.digest = bits same.toNat 51 20) ∧
      (ok diff ∧ bits diff.toNat 95 92 = 1 ∧ (c.pod.built.take 256).find? (fun x => x.slice % 65536 == bits diff.toNat 91 76) = some twin ∧
        twin.digest ≠ bits diff.toNat 51 20 ∧ bits diff.toNat 19 16 = 0 ∧ twin.flags = 0 ∧ twin.outage = false) ∧
      (ok early ∧ bits early.toNat 95 92 = 1 ∧ ∀ x ∈ c.pod.built, x.slice % 65536 ≠ bits early.toNat 91 76) ∧
      ok offer ∧ bits offer.toNat 95 92 = 5 ∧ bit offer.toNat 75 = false :=
  ⟨by decide +kernel, by decide +kernel, ⟨⟨by decide +kernel, by decide +kernel, by decide +kernel, by decide +kernel⟩, by decide +kernel, by decide⟩, by decide,
    ⟨⟨by decide +kernel, by decide +kernel, by decide +kernel, by decide +kernel⟩, by decide +kernel, by decide +kernel, by decide +kernel, by decide +kernel⟩,
    ⟨⟨by decide +kernel, by decide +kernel, by decide +kernel, by decide +kernel⟩, by decide +kernel, by decide +kernel, by decide +kernel, by decide +kernel, by decide, by decide⟩,
    ⟨⟨by decide +kernel, by decide +kernel, by decide +kernel, by decide +kernel⟩, by decide +kernel, by decide +kernel⟩,
    ⟨by decide +kernel, by decide +kernel, by decide +kernel, by decide +kernel⟩, by decide +kernel, by decide +kernel⟩

theorem wit_CrossLinkAndHeartbeats_sent :
    let a := bPod { state := .active, handover := some (65536, true, 2) }
    let b := bPod { state := .active, stageDue := true }
    let c := bPod { state := .standby, twinQ := [⟨5, 7, 9, 0, false⟩], missed := 31, partnerState := .active }
    let late := bAt { tick := 1 }
    (a.pod.fenceIn = false ∧ a.tick.toNat % 16 = 0 ∧ a.domOn 78 = true ∧ a.pod.handover = some (65536, true, 2)) ∧ late.tick.toNat % 16 ≠ 0 ∧ late.tick.toNat % 128 ≠ 0 ∧
      (b.pod.handover = none ∧ b.pod.state = .active ∧ b.pod.stageDue = true) ∧
      (c.pod.handover = none ∧ c.pod.state = .standby ∧ c.pod.twinQ = ⟨5, 7, 9, 0, false⟩ :: []) ∧
      (c.pod.state ≠ .off ∧ c.tick.toNat % 128 = 0 ∧ c.pod.hbSeen = false ∧ b.pod.missed + 1 ≠ 32 ∧ c.pod.missed = 31 ∧ c.pod.partnerLost = false ∧
        c.pod.partnerState = .active) ∧ (bPod { state := .yielding }).pod.state = .yielding := by decide

theorem wit_PodUpkeep :
    let c := bAt { regs := [(Reg.POD_LEASE_ID, 7)], ports := [(126, { rx := .data, owner := true, leaseOwned := true }), (127, { rx := .data })] }
    let odd := bAt { tick := 1 }
    let fit := bAt { regs := [(Reg.POD_CTRL, 11), (Reg.POD_REVERT_HOLD, 0)], up := 320000000, pod := { state := .standby, fitSince := some 0 } }
    let again := bAt { regs := [(Reg.POD_CTRL, 11), (Reg.POD_REVERT_HOLD, 0)], up := 320000000, pod := { state := .standby, fitSince := some 0, requestAt := some 60000000 } }
    let e : TEntry := { pos := 8, kind := 2, lane := 0, words := [0, 1], seq := 1, slice := 5, filled := 1, sent := some 0 }
    let good : TEntry := { e with words := [0, BitVec.ofNat 64 (sliceCheck [0, 0])] }
    let test := fun (x : TEntry) => bAt { pod := { state := .standby }, tarn := { entries := [x] } }
    ((test e).pod.state = .standby ∧ (test e).tarn.entries.find? (fun x => x.kind == 2 && x.written && decide ((test e).pod.retest ≤ x.pos)) = some e ∧
      (∀ x ∈ (test e).tarn.entries, x.pos = e.pos → x = e) ∧ fld (e.words.getLastD 0) 31 0 ≠ sliceCheck e.words ∧
      (test good).tarn.entries.find? (fun x => x.kind == 2 && x.written && decide ((test good).pod.retest ≤ x.pos)) = some good ∧
      fld (good.words.getLastD 0) 31 0 = sliceCheck good.words) ∧
    ((bAt {}).sec.quote = none ∧ (bAt {}).isActive 0 = false ∧ (∀ x ∈ (bAt {}).tarn.entries, x.kind = 2 → x.pos < 0)) ∧
    (odd.tick.toNat % 1024 ≠ 0 ∧ odd.tick.toNat % 128 ≠ 0 ∧ odd.pod.state = .off) ∧
      (c.tick.toNat % 1024 = 0 ∧ c.tick.toNat % 128 = 0 ∧ c.pod.state = .off ∧ 126 ∈ fkeys c.ports ∧ (c.port 126).owner = true ∧ (c.port 127).owner = false) ∧
      (127 ∈ c.livePorts ∧ (c.port 127).leaseOwned = false ∧ (c.port 126).leaseOwned = true) ∧ (bPod { state := .pairing }).pod.state = .pairing ∧
      ((bPod { state := .standby }).pod.fenceIn = false ∧ (bPod { state := .standby }).tick.toNat % 1024 = 0 ∧ (bPod { state := .standby }).pod.state ≠ .off ∧ (bPod { state := .standby }).pod.partnerBelow = none ∧
        255 - (bPod { state := .standby }).penalties.foldl (· + ·) 0 ≥ fld ((bPod { state := .standby }).reg Reg.POD_HEALTH_CFG) 31 24) ∧
      ((fit.regBit Reg.POD_CTRL 3 && fit.regBit Reg.POD_CTRL 1 && fit.pod.state == .standby && !fit.pod.silent) = true ∧ fit.pod.fitSince = some 0 ∧
        0 + max 1 (fit.regFld Reg.POD_REVERT_HOLD 15 0) * 320000000 ≤ fit.up ∧ fit.pod.requestAt = none) ∧
      (again.pod.requestAt = some 60000000 ∧ again.up < 60000000 + 2 ^ 28) ∧ 0 + 2 ^ 28 ≤ again.up ∧ ((bPod {}).pod.state ≠ .standby ∧ fit.pod.state = .standby ∧ (3 : Fin 4) ≠ 2) ∧
      c.up < c.pod.wdogAt + max 1 (c.regFld Reg.POD_WDOG 15 0) * 320000 ∧
      (bAt { up := 2 ^ 40 }).pod.wdogAt + max 1 ((bAt { up := 2 ^ 40 }).regFld Reg.POD_WDOG 15 0) * 320000 ≤ (bAt { up := 2 ^ 40 }).up :=
  ⟨by decide +kernel, by decide⟩

/-- The monitor on, converter 3 as `x`, slot 15 routed to it, further registers `r`. -/
def bMon (r : FMap Word) (x : MonConv) (up : Nat := 0) : Bolov :=
  bAt { regs := r ++ [(Reg.MON_CTRL, 1), (Reg.MON_SLOT_ROUTE 15, 0xB0000000)], up := up, mon := { convs := (Vector.replicate 4 {}).set 3 x } }

theorem wit_MonitorStarts_go :
    let a := bMon [(Reg.MON_C_START 3, 0x30000000)] {}
    let p := bMon [] { powered := true }
    let i := bMon [(Reg.MON_SLOT_CONV 15, 0xC0000000)] {}
    let busy := bMon [(Reg.MON_C_START 3, 0x30000000)] { running := true }
    (bAt {}).monOn = false ∧ (a.monOn = true ∧ a.isGuard 3 = false ∧ (a.conv 3).running = false ∧ a.slotsOf 3 = [15] ∧ a.slotInvalid 15 = false ∧
      a.slotConflict 3 15 = false ∧ (a.conv 3).powered = false ∧ a.convSrc 3 = 3 ∧ (∀ k, k ≠ 3 → a.convSrc k ≠ 3)) ∧
      (p.monOn = true ∧ (p.conv 3).powered = true ∧ ∀ k, p.convSrc k ≠ 3) ∧ (i.monOn = true ∧ i.slotsOf 3 = [15] ∧ i.slotInvalid 15 = true ∧ (i.conv 3).guardOn = false ∧ i.qRoom 5 = true) ∧
      (busy.monOn = true ∧ busy.isGuard 3 = false ∧ (busy.conv 3).running = true ∧ busy.convSrc 3 = 3) ∧ a.slotsOf 2 = [] := by decide

theorem wit_MonitorStarts_timed :
    let tm := bMon [(Reg.MON_C_START 3, 0x10000001)] {} 320000
    let early := bMon [(Reg.MON_C_START 3, 0x10000001)] {} 319999
    let pwm := fun (up : Nat) (l : List (Nat × Bool)) => bAt { regs := [(Reg.MON_CTRL, 1), (Reg.MON_PWM, 0x80000064), (Reg.MON_C_START 3, 0x20000000), (Reg.MON_C_DELAY 3, 1)], up := up, mon := { edges := l } }
    let st := bMon [] { running := true, startup := some 0 }
    (tm.convSrc 3 = 1 ∧ (tm.conv 3).timerFrom + max 1 (min 60000 (tm.regFld (Reg.MON_C_START 3) 15 0)) * 320000 ≤ tm.up ∧ ((3 : Fin 4) ≠ 0 ∨ tm.regBit Reg.MON_CTRL 29 = false) ∧
      tm.monOn = true ∧ tm.isGuard 3 = false ∧ (tm.conv 3).running = false) ∧
      early.up < (early.conv 3).timerFrom + max 1 (min 60000 (early.regFld (Reg.MON_C_START 3) 15 0)) * 320000 ∧
      ((pwm 0 []).domOn 76 = true ∧ (pwm 0 []).regBit Reg.MON_PWM 31 = true ∧ (∀ k, ((pwm 0 []).conv k).running = false ∨ (pwm 0 []).slotChop ((pwm 0 []).conv k).slot = false) ∧ (pwm 0 []).mon.edges = []) ∧
      ((pwm 16000 [(0, true)]).mon.edges = (0, true) :: [] ∧ 0 + max 100 ((pwm 16000 [(0, true)]).regFld Reg.MON_PWM 15 0) * 160 ≤ (pwm 16000 [(0, true)]).up) ∧
      (pwm 15999 [(0, true)]).up < 0 + max 100 ((pwm 15999 [(0, true)]).regFld Reg.MON_PWM 15 0) * 160 ∧
      ((pwm 320 [(0, true)]).convSrc 3 = 2 ∧ (0, true) ∈ (pwm 320 [(0, true)]).mon.edges ∧ (pwm 320 [(0, true)]).pwmChosen 3 true = true ∧
        0 + (pwm 320 [(0, true)]).regFld (Reg.MON_C_DELAY 3) 15 0 * 320 = (pwm 320 [(0, true)]).up ∧ (pwm 320 [(0, true)]).isGuard 3 = false) ∧
      ((st.conv 3).startup = some 0 ∧ (st.conv 3).running = true ∧ st.up < 0 + 80000 ∧ 0 + 80000 ≤ (bMon [] { running := true, startup := some 0 } 80000).up) ∧
      (tm.conv 3).startup = none ∧ ((pwm 320 [(0, true)]).conv 3).pwmFrom ≠ some (pwm 320 [(0, true)]).up := by decide

theorem wit_MonitorStarts_pins :
    let c := bMon [(Reg.MON_SLOT_CONV 15, 0x40080080)] { running := true, slot := 15 }
    (∀ m, ((bAt {}).conv m).running = false ∧ ((bAt {}).conv m).guardOn = false) ∧ (∀ m : Fin 4, m ≠ 3 → (c.conv m).running = false ∧ (c.conv m).guardOn = false) ∧
      (c.conv 3).running = true ∧ c.slotInvalid (c.conv 3).slot = false ∧ c.slotChop (c.conv 3).slot = false ∧ c.slotSrc (c.conv 3).slot = 1 := by decide

/-- Settled code of slot 15 for these pins, as R286 gives it. -/
def codeIn (b : Bolov) (pins : MonPins) : Int :=
  (2 * ((pins[Fin.ofNat 16 (b.regFld (Reg.MON_SLOT_ROUTE 15) 27 24)] -
    (if b.regBit (Reg.MON_SLOT_ROUTE 15) 5 then 0 else pins[Fin.ofNat 16 (b.regFld (Reg.MON_SLOT_ROUTE 15) 23 20)])) * (2 ^ (23 + b.slotGain 15) : Nat)) + 2500000000) / 5000000000

theorem wit_MonitorResults :
    let x : MonConv := { running := true, slot := 15, settleFrom := some 0 }
    let done := bMon [(Reg.MON_SLOT_CONV 15, 0x00000084), (Reg.MON_SLOT_ROUTE 15, 0xB1200000)] x 240000
    let plain := bMon [(Reg.MON_SLOT_ROUTE 15, 0xB1200000), (Reg.MON_SLOT_CONV 15, 0x00000080)] x 240000
    let early := bMon [] x 239999
    let slow := bMon [(Reg.MON_SLOT_CONV 15, 0xC0000080)] { x with settleFrom := none } 960000
    let cur := bMon [(Reg.MON_SLOT_CONV 15, 0x40080080)] x 1600
    let small : MonPins := (Vector.replicate 16 0).set 1 1
    let big : MonPins := (Vector.replicate 16 0).set 1 2501000000
    (∀ m, done.isGuard m = false ∧ (done.conv m).guardOn = false ∧ (done.conv m).guardFault = none) ∧
      ((done.conv 3).running = true ∧ (done.conv 3).slot = 15 ∧ ∀ j ∈ done.slotsOf 3, j ≤ 15) ∧ done.convSettled 3 = true ∧
      done.regBit (Reg.MON_SLOT_ROUTE 15) 11 = false ∧ (codeIn done small + 0 < 2 ^ 23 ∧ -(2 ^ 23) < codeIn done small + 0) ∧
      (2 ^ 23 ≤ codeIn done big ∧ done.slotBurnout 15 = true) ∧ (2 ^ 23 ≤ codeIn plain big ∧ plain.convSettled 3 = true ∧ plain.slotBurnout 15 = false) ∧
      early.convSettled 3 = false ∧ slow.convSettled 3 = false ∧ (slow.conv 3).began + 4 * slow.settleTicks (slow.conv 3).slot ≤ slow.up ∧
      slow.slotSrc 15 = 3 ∧ 6000000 < (⟨6000001, 0⟩ : ExcSense).current ∧ (slow.conv 3).excAt + 1600 ≤ slow.up ∧
      (cur.slotSrc 15 = 1 ∧ (cur.conv 3).excAt + 1600 ≤ cur.up ∧ 0 < 900 * max 1 (min 1000 (cur.regFld (Reg.MON_SLOT_CONV 15) 20 11))) ∧
      (bMon [] x 1599).up < ((bMon [] x 1599).conv 3).excAt + 1600 ∧ done.qRoom 5 = true ∧ slow.mon.broken.getLsbD 15 = false ∧ (∀ m, m ≠ 3 → (done.conv m).running = false) ∧
      (∀ m, ((bMon [] {}).conv m).running = false ∨ ((bMon [] {}).conv m).slot ≠ 15) ∧ done.monOn = true := by decide

theorem wit_MonitorResults_write :
    let b := (bMon [] { running := true, slot := 15 })
    let ok := b.setReg (Reg.MON_SLOT_CONV 15) (0x00000080 &&& 0xFFFFFFFC)
    let twice := b.setReg (Reg.MON_SLOT_CONV 15) (0xC0000080 &&& 0xFFFFFFFC)
    (b.conv 3).startup = none ∧ (ok.slotInvalid 15 = false ∧ ok.slotConflict 3 15 = false) ∧ twice.slotInvalid 15 = true ∧ ∀ j ∈ twice.slotsOf 3, j ≤ 15 := by decide

theorem wit_MonitorResults_guard :
    let g := bMon [(Reg.GRD_CONV, 8), (Reg.MON_SLOT_CONV 15, 0x00000080)] { guardOn := true, guardNext := 5, slot := 15 } 5
    let e := bMon [] { guardOn := true, guardNext := 6, slot := 15 } 5
    let w := bMon [(Reg.GRD_CONV, 8), (Reg.MON_SLOT_CONV 15, 0x00000080)] { guardFault := some 0 } 3200000
    ((g.conv 3).guardOn = true ∧ (g.conv 3).guardNext ≤ g.up ∧ (g.conv 3).slot = 15 ∧ g.regBit (Reg.MON_SLOT_ROUTE 15) 11 = false) ∧ e.up < (e.conv 3).guardNext ∧
      ((w.conv 3).guardFault = some 0 ∧ 0 + 3200000 ≤ w.up ∧ w.isGuard 3 = true ∧ w.monOn = true ∧ w.slotsOf 3 = [15] ∧ w.slotChop 15 = false ∧ w.convSrc 3 = 0 ∧
        (w.conv 3).guardOn = false ∧ (w.conv 3).running = false ∧ w.slotInvalid 15 = false ∧ w.slotConflict 3 15 = false) ∧
      (g.conv 3).guardFault = none := by decide

/-! ### Guard -/

/-- A Bolov with a Guard in a state and some registers, at an edge count. -/
def bGrd (g : GuardState) (r : FMap Word := []) (up : Nat := 0) : Bolov := bAt { grd := g, regs := r, up := up }

theorem wit_GuardConditionsTrip :
    let fine : GuardState := { fails := Vector.replicate 4 0, on := 15, pOk := 15, pAlive := true, ilk := true }
    let h : Word := 0x88031405
    let inW := (fld h 15 8 : Int) * 10000
    (bAt { sec := { recovery := true } }).sec.recovery = true ∧ (bAt {}).sec.recovery = false ∧
      (bGrd {}).grd.pAlive = false ∧ (bGrd fine [] 3199999).up < (bGrd fine [] 3199999).grd.pAt + 3200000 ∧
      ((bGrd fine [] 3200000).grd.pAlive = true ∧ (bGrd fine [] 3200000).grd.pAt + 3200000 ≤ (bGrd fine [] 3200000).up) ∧
      ((bGrd fine [(Reg.GRD_H_CFG 3, h)]).reg (Reg.GRD_H_CFG 3)).getLsbD 31 = true ∧ ((bGrd {}).reg (Reg.GRD_H_CFG 3)).getLsbD 31 = false ∧
      ¬ (inW ≤ 30001 ∧ (30001 : Int) ≤ (fld h 23 16 : Int) * 10000) ∧
      (((0 : Int) ≤ 30000) ∧ (30000 : Int) ≤ (fld h 23 16 : Int) * 10000) ∧
      ((bGrd {} [(Reg.GRD_P_CFG 15, 0xC0000000)]).reg (Reg.GRD_P_CFG 15)).getLsbD 30 = true ∧
      ((bGrd {}).reg (Reg.GRD_P_CFG 15)).getLsbD 30 = false := by decide

theorem wit_GuardCommands :
    let g : GuardState := { password := some (0, 7), readback := 8, pOk := 15, pAlive := true, ilk := true, fails := Vector.replicate 4 0,
                            clearSince := Vector.replicate 4 (some 0) }
    let a := (sB { grd := g, regs := [(Reg.GRD_HOLD, 0)], up := 320000000 }).b
    let z := (sB { grd := g, regs := [(Reg.GRD_HOLD, 0)], up := 319999999 }).b
    let hi := bGrd { on := 0 } [] 640000
    let lo := bGrd { on := 8 } [] 320000
    (a.grd.password.isSome = true ∧ a.grd.readback.getLsbD (3 : Fin 4) = true ∧ a.failsNow 3 = 0 ∧
      (∃ u, a.grd.clearSince[(3 : Fin 4)] = some u ∧ u + max 1 (fld (a.reg Reg.GRD_HOLD) 7 0) * 320000000 ≤ a.up)) ∧
      (¬ ∃ u, z.grd.clearSince[(3 : Fin 4)] = some u ∧ u + max 1 (fld (z.reg Reg.GRD_HOLD) 7 0) * 320000000 ≤ z.up) ∧
      ((8 : BitVec 4) = BitVec.ofNat 4 (2 ^ (3 : Fin 4).val)) ∧ a.grd.log.length < 16384 ∧ a.qRoom 6 = true ∧
      ((8 : BitVec 4).getLsbD (3 : Fin 4) = (sB { grd := { on := 8 } }).b.grd.on.getLsbD (3 : Fin 4)) ∧
      (0 + 320000 ≤ lo.up ∧ lo.grd.changedAt[(3 : Fin 4)] = 0 ∧ (8 : BitVec 4).getLsbD (3 : Fin 4) = lo.grd.on.getLsbD (3 : Fin 4)) ∧
      (0 + 640000 ≤ hi.up ∧ (7 : BitVec 4).getLsbD (3 : Fin 4) = hi.grd.on.getLsbD (3 : Fin 4)) ∧
      (¬ (8 : BitVec 4).getLsbD (3 : Fin 4) = hi.grd.on.getLsbD (3 : Fin 4)) :=
  ⟨⟨by decide, by decide, by decide, 0, by decide, by decide⟩, by rintro ⟨u, h, k⟩; cases h; exact absurd k (by decide), by decide, by decide, by decide,
    by decide, by decide, by decide, by decide⟩

/-- Twelve bytes of a password, in a Guard whose digest is `d`. -/
def pwGuard (d : Nat) (failures : Nat) : GuardState := { password := some (0, d), salts := 1, buffer := List.replicate 12 65, failures := failures }

theorem wit_GuardSessions_password :
    let len := fun (n : Nat) => [(Reg.GRD_PW_LEN, BitVec.ofNat 32 n)]
    let right := Config.passwordDigest 0 (List.replicate 12 65)
    let a := (sB { grd := pwGuard right 0, regs := len 12 }).b
    let bad := (sB { grd := pwGuard (right + 1) 3, regs := len 12 }).b
    let fifth := (sB { grd := pwGuard (right + 1) 4, regs := len 12 }).b
    let given := fun (x : Bolov) => (x.grd.buffer.take (fld (x.reg Reg.GRD_PW_LEN) 6 0)).map BitVec.toNat
    (a.grd.lockEnd = none ∧ a.grd.password = some (0, right) ∧ 12 ≤ fld (a.reg Reg.GRD_PW_LEN) 6 0 ∧ fld (a.reg Reg.GRD_PW_LEN) 6 0 ≤ 64 ∧
      Config.passwordDigest 0 (given a) = right ∧ a.grd.opened = false) ∧
      (bad.grd.password = some (0, right + 1) ∧ Config.passwordDigest 0 (given bad) ≠ right + 1 ∧ bad.grd.failures < 4) ∧
      (fifth.grd.password = some (0, right + 1) ∧ Config.passwordDigest 0 (given fifth) ≠ right + 1 ∧ 4 ≤ fifth.grd.failures) ∧
      fld ((sB { regs := len 64 }).b.reg Reg.GRD_PW_LEN) 6 0 = 64 ∧ ¬ (12 ≤ fld ((sB { regs := len 65 }).b.reg Reg.GRD_PW_LEN) 6 0 ∧ fld ((sB { regs := len 65 }).b.reg Reg.GRD_PW_LEN) 6 0 ≤ 64) ∧
      (sB {}).b.grd.password = none ∧ (sB { grd := { lockEnd := some 5 } }).b.grd.lockEnd ≠ none :=
  ⟨⟨rfl, rfl, by decide, by decide, rfl, rfl⟩, ⟨rfl, by show Config.passwordDigest 0 (List.replicate 12 65) ≠ _ + 1; omega, by decide⟩,
    ⟨rfl, by show Config.passwordDigest 0 (List.replicate 12 65) ≠ _ + 1; omega, by decide⟩, by decide, by decide, rfl, by decide⟩

theorem wit_GuardSessions_time :
    let o : GuardState := { opened := true, password := some (0, 7) }
    let late := bGrd o [] 192000000000
    ((sB { grd := o }).b.grd.opened = true ∧ (sB {}).b.grd.opened = false) ∧ (late.grd.opened = true ∧ late.grd.lockedAt + 600 * 320000000 ≤ late.up) ∧
      (bGrd o [] 191999999999).up < (bGrd o [] 191999999999).grd.lockedAt + 600 * 320000000 ∧
      (bGrd { lockEnd := some 9 } [] 9).grd.lockEnd = some 9 ∧ 9 ≤ (bGrd { lockEnd := some 9 } [] 9).up ∧ (bGrd {}).grd.lockEnd = none := by decide

theorem wit_GuardSessions_locked :
    ∃ a n w : BitVec 16, (∃ r, r < 16 ∧ (a.toNat = 0xE200 + 16 * r ∨ a.toNat = 0xE204 + 16 * r ∨ a.toNat = 0xE208 + 16 * r ∨ a.toNat = 0xE300 + 8 * r ∨ a.toNat = 0xE304 + 8 * r)) ∧
      (∃ i, i < 4 ∧ w.toNat = 0xE060 + 4 * i) ∧
      ¬ (n.toNat = 0xE028 ∨ n.toNat = 0xE02C ∨ (∃ i, i < 4 ∧ n.toNat = 0xE060 + 4 * i) ∨
        (∃ r, r < 16 ∧ (n.toNat = 0xE200 + 16 * r ∨ n.toNat = 0xE204 + 16 * r ∨ n.toNat = 0xE208 + 16 * r ∨ n.toNat = 0xE300 + 8 * r ∨ n.toNat = 0xE304 + 8 * r))) := by
  refine ⟨0xE37C, 0xE20C, 0xE06C, ⟨15, by decide, by decide⟩, ⟨3, by decide, by decide⟩, ?_⟩
  have h : (0xE20C : BitVec 16).toNat = 57868 := rfl
  rintro (h1 | h1 | ⟨i, hi, h1⟩ | ⟨r, hr, h1⟩) <;> rw [h] at h1 <;> omega

theorem wit_OffIsNeverRefused :
    (8 : BitVec 4).getLsbD (3 : Fin 4) = true ∧ (0x80#32).getLsbD (4 + (3 : Fin 4)) = true ∧ (sB { grd := { on := 8 } }).b.grd.on.getLsbD (3 : Fin 4) = true ∧
      (sB { grd := { causes := Vector.replicate 4 0 } }).b.grd.causes[(3 : Fin 4)] = 0 := by decide

/-! ### The I3C target and its registers -/

theorem wit_I3cTargetCommands :
    let on : I3cState := { dyn := some 8, enInt := true, addrSel := 7 }
    let a := (sB { i3c := on, owed := [3, 0x03F], regs := [(evtRaw 3, 1), (evtEn 3, 1)] }).b
    let z := (sB { i3c := on, owed := [3] }).b
    let c := (sB { i3c := on, binIbi := some (5, 70000) }).b
    let next := fun (b : Bolov) => (0x00E :: (List.range 18).filter (· != 0x00E) ++ [0x040] ++ (List.range 32).map (0x020 + ·)).find? fun p => b.owed.contains p
    (a.i3c.dyn.isSome = true ∧ a.i3c.enInt = true ∧ next a = some 3 ∧ a.pendingSet 3 ≠ 0) ∧ (next z = some 3 ∧ z.pendingSet 3 = 0) ∧
      (next c = none ∧ c.binIbi = some (5, 70000)) ∧ (sB {}).b.i3c.dyn.isSome = false ∧ (sB {}).b.i3c.enInt = false ∧
      next (sB { owed := [0x03F] }).b = some 0x03F ∧ (0x57 : BitVec 7) = BitVec.ofNat 7 (0x50 + a.i3c.addrSel.toNat) ∧
      (0x56 : BitVec 7) ≠ BitVec.ofNat 7 (0x50 + a.i3c.addrSel.toNat) ∧ (!true || a.i3c.dyn.isSome) = true ∧ (!false || (sB {}).b.i3c.dyn.isSome) = true ∧
      (!true || (sB {}).b.i3c.dyn.isSome) = false := by decide

theorem wit_RegisterTransfers :
    let b := (sB {}).b
    let off := (sB { regs := [(Reg.PWR_DOM_ON2, 0)] }).b
    let h := (sB { i3c := { hdr := true } }).b
    let kind := fun (a : Nat) => (bolovRow a).map RegRow.kind
    ((0xFFFFFC : BitVec 24).toNat % 4 = 0 ∧ (0xFFFFFD : BitVec 24).toNat % 4 ≠ 0 ∧ 3 ≤ b.i3c.mwl) ∧
      (h.i3c.hdr = true ∧ (0xFF#16).toNat % 256 * 2 ^ 16 + (0xFFFC#16).toNat = (0xFFFFFC : BitVec 24).toNat) ∧ b.i3c.hdr = false ∧
      bolovRow (0xFFFFFC : BitVec 24).toNat = none ∧
      (kind 0x4020 = some .plain ∧ 0x020 ≤ 0x4020 % 0x1000 ∧ off.pageOn (0x4020 / 0x1000) = false) ∧ (kind Reg.GLB_SCRATCH = some .plain ∧ b.pageOn 0 = true) ∧
      (kind 0x1010 = some .plain ∧ 0x1010 % 0x1000 < 0x020) ∧ (kind (0x8200 + 4 * 63) = some .plain ∧ b.pageOn 8 = true) ∧
      (kind Reg.CMT_MERGE_END = some .lo ∧ (bolovRow Reg.CMT_MERGE_END).map RegRow.rw = some 0 ∧ b.pageOn 0x11 = true) ∧
      (kind Reg.RMT_FC_TICK = some .lo ∧ (bolovRow Reg.RMT_FC_TICK).map RegRow.rw ≠ some 0 ∧ b.pageOn 0x40 = true) ∧ (kind (Reg.RMT_FC_TICK + 4) = some .hi) ∧
      kind Reg.RMT_TIMEOUTS = some .ctrLo ∧
      ((0x046 : BitVec 12).toNat ≤ 0x046 ∧ ¬ ((0x013 : BitVec 12).toNat ≤ 0x012 ∨ (0x020 ≤ (0x013 : BitVec 12).toNat ∧ (0x013 : BitVec 12).toNat ≤ 0x040) ∨
        (0x041 ≤ (0x013 : BitVec 12).toNat ∧ (0x013 : BitVec 12).toNat ≤ 0x046))) := by decide

theorem wit_QueuesAndTableWindows_queues :
    let r : List W64 := [1, 2, 3, 4]
    let b := (sB { queues := (Vector.replicate 8 ({} : Queue)).set 7 { records := [r, r] } }).b
    let full := (sB { queues := (Vector.replicate 8 ({} : Queue)).set 3 { records := List.replicate 64 r } }).b
    b.queues[(7 : Fin 8)].records = r :: [r] ∧ ¬ ((7 : Fin 8) = 0 ∨ (7 : Fin 8) = 3) ∧ b.queues[(6 : Fin 8)].records = [] ∧
      64 ≤ full.queues[(3 : Fin 8)].records.length ∧ b.queues[(3 : Fin 8)].records.length < 64 ∧ b.queues[(0 : Fin 8)].records.length < 16 := by decide

theorem wit_QueuesAndTableWindows_windows :
    let s1 : StagedSet := { regionMap := [(4095, some 5)], steering := [(255, some 3)], contexts := [(262143, some (0, 1))] }
    let b := (sB { cmt := { staged := s1 } }).b
    let c := (sB { cmt := { busy := true, copy := s1 } }).b
    b.sort.walk = none ∧ b.cmt.toMerge = [] ∧ fget none b.cmt.staged.regionMap 4095 = some 5 ∧ fget none b.cmt.staged.steering 255 = some 3 ∧
      fget none b.cmt.staged.contexts 262143 = some (0, 1) ∧ fget none b.cmt.staged.regionMap 0 = none ∧
      (c.cmt.busy = true ∧ c.cmt.switched = false ∧ c.cmt.reached = false ∧ fget none c.cmt.staged.regionMap 4095 = none ∧ fget none c.cmt.copy.regionMap 4095 = some 5 ∧
        fget none c.cmt.copy.steering 255 = some 3 ∧ fget none c.cmt.copy.contexts 262143 = some (0, 1)) ∧
      fget none b.cmt.staged.contexts 262143 ≠ none ∧ b.cmt.staged.contexts.length < 8192 := by decide

theorem wit_QueuesAndTableWindows_full :
    let b := (sB { cmt := { staged := { contexts := List.replicate 8192 (7, some (0, 1)) } } }).b
    fget none b.cmt.staged.contexts 6 = none ∧ 8192 ≤ b.cmt.staged.contexts.length := by
  refine ⟨by decide +kernel, ?_⟩
  exact Nat.le_of_eq List.length_replicate.symm

theorem wit_QueuesAndTableWindows_clean (l : Nat) :
    CleanLine l (sB { cmt := { staged := { regionMap := [(4095, some 5)], steering := [(255, some 3)], contexts := [(262143, some (0, 1))] } } }).b :=
  ⟨rfl, rfl, rfl⟩

/-! ### Remote requests and commits -/

/-- A request to port 127. -/
def rq (seq : BitVec 16) (op : Nat) (issued timedOut : Bool) : Request :=
  { seq := seq, port := 127, op := op, once := false, addr := 0x3008, data := 5, attempts := 1, issued := issued, timedOut := timedOut }

theorem wit_RemoteRequests_issue :
    let ready : FMap PortState := [(127, { rx := .ready, owner := true })]
    let tx : FMap Word := [(Reg.QD_LINK_CTRL 127, 1)]
    let on := fun (l : List Request) => bAt { regs := tx, rmt := { requests := l }, ports := ready }
    let off := fun (l : List Request) => bAt { regs := tx, rmt := { requests := l }, ports := [(127, { owner := true })] }
    let mine := fun (c : Bolov) => c.rmt.requests.filter fun y => y.port == (127 : Fin 128).val && y.answer.isNone
    let out := fun (c : Bolov) => (mine c).filter fun y => y.issued
    let late := fun (c : Bolov) => (out c).filter fun y => y.timedOut
    let up := fun (c : Bolov) => c.txOn (127 : Fin 128) = true ∧ ((c.port (127 : Fin 128)).rx = .ready ∨ (c.port (127 : Fin 128)).rx = .data)
    let re := on [rq 1 2 true true, rq 2 1 false false]
    let new := on [rq 1 2 true false, rq 2 1 false false]
    let eight := on ((List.range 8).map fun k => rq (BitVec.ofNat 16 k) 2 true false)
    (late (on [rq 1 2 true true, rq 2 2 true false]) ≠ [] ∧ (out (on [rq 1 2 true true, rq 2 2 true false])).length ≠ (late (on [rq 1 2 true true, rq 2 2 true false])).length) ∧
      (re.rmt.requests = [] ++ rq 1 2 true true :: [rq 2 1 false false] ∧ (∀ y ∈ re.rmt.requests, y.answer = none) ∧ (∀ y ∈ [rq 2 1 false false], y.seq ≠ 1) ∧
        (∀ y ∈ [rq 2 1 false false], y.port = 127 → y.issued = false) ∧ up re ∧ ¬ up (off re.rmt.requests)) ∧
      (new.rmt.requests = [rq 1 2 true false] ++ rq 2 1 false false :: [] ∧ late new = [] ∧ (∀ y ∈ [rq 1 2 true false], y.port = 127 → y.issued = true) ∧
        (out new).length < 8 ∧ new.qRoom 7 = true ∧ up new ∧ (new.port (127 : Fin 128)).owner = true ∧ ¬ up (off new.rmt.requests) ∧
        ((off new.rmt.requests).port (127 : Fin 128)).owner = true ∧ ((bAt { rmt := { requests := new.rmt.requests } }).port (127 : Fin 128)).owner = false ∧
        (rq 2 1 false false).op ≠ 0 ∧ (rq 2 1 false false).op ≠ 3 ∧ (rq 2 1 false false).addr.toNat % 4 = 0 ∧ (rq 2 0 false false).op = 0) ∧
      (late eight = [] ∧ 8 ≤ (out eight).length ∧ ∀ y ∈ mine eight, y.issued = true) ∧
      ((rq 1 2 true false).port = 127 ∧ (∃ y ∈ [rq 1 2 true false], y.port = 127) ∧ ∀ y ∈ ([] : List Request), y.port ≠ 127) := by decide +kernel

theorem wit_RemoteRequests_queue :
    let full := (sB { rmt := { requests := (List.range 256).map fun k => rq (BitVec.ofNat 16 k) 2 false false } }).b
    let r := { rq 1 2 true false with sentAt := some 0 }
    let c := bAt { up := 256, regs := [(0x40028, 255)], rmt := { requests := [r] } }
    let once := { r with once := true }
    let spent := { r with attempts := 2 ^ 30 }
    let z := bAt { up := 255, regs := [(0x40028, 255)], rmt := { requests := [r] } }
    256 ≤ (full.rmt.requests.filter fun y => y.answer.isNone).length ∧ ((sB {}).b.rmt.requests.filter fun y => y.answer.isNone).length < 256 ∧
      (c.rmt.requests = [] ++ r :: [] ∧ r.timedOut = false ∧ r.sentAt = some 0 ∧ 0 + max 256 ((c.reg 0x40028).toNat % 2 ^ 16) ≤ c.up ∧ r.once = false ∧
        r.attempts ≤ ((bAt { regs := [(0x40020, 15)] }).reg 0x40020).toNat % 16 ∧ once.once = true ∧ (c.reg 0x40020).toNat % 16 < spent.attempts) ∧
      z.up < 0 + max 256 ((z.reg 0x40028).toNat % 2 ^ 16) := by decide +kernel

theorem wit_RemoteRequests_fast :
    let regs : FMap Word := [(Reg.QD_LINK_CTRL 127, 1), (0x4004C, 0x80000000), (0x40058, 95)]
    let far : FMap Word := [(Reg.QD_LINK_CTRL 127, 1), (0x4004C, 0x80000000), (0x40058, 100000)]
    let a := (sB { regs := regs, ports := [(127, { rx := .ready, owner := true })] }).b
    let named := fun (a : Bolov) => (List.range 128).filter fun k => (a.reg (0x40040 + 4 * (k / 32))).getLsbD (k % 32)
    let can := fun (a : Bolov) => (named a).filter fun k => (a.port k).owner && a.txOn k
    let op := fun (v : Word) => v.toNat / 2 ^ 24 % 16
    let arg := fun (v : Word) => v.toNat / 2 ^ 16 % 256
    let bad := fun (v : Word) => ¬ (op v = 3 ∧ arg v ≤ 4 ∨ (op v = 4 ∨ op v = 5 ∨ op v = 8) ∧ arg v = 0) ∨ v &&& 0x7000FFFF#32 ≠ 0
    let tick := fun (a : Bolov) => BitVec.ofNat 48 ((a.reg 0x40058).toNat + 2 ^ 32 * (a.reg 0x4005C).toNat)
    let soon := fun (a : Bolov) (v : Word) => op v = 4 ∧ later (a.tick + BitVec.ofNat 48 (96 + ((named a).map a.downTicks).foldl max 0)) (tick a) = true
    let hold := fun (a : Bolov) (v : Word) => op v = 3 ∧ arg v = 4 ∧ (2 ≤ a.rate.stage ∨ a.protectedOpen = true)
    let b := { a with regs := far }
    named a = [127] ∧ can a = [127] ∧ can { a with ports := [] } = [] ∧ (bad 0x83050000 ∧ bad 0x84000001) ∧ (¬ bad 0x84000000 ∧ soon a 0x84000000) ∧
      (¬ bad 0x83040000 ∧ hold { a with rate := { stage := 2 } } 0x83040000 ∧ ¬ hold a 0x83040000 ∧ ¬ soon a 0x83040000) ∧
      (¬ bad 0x88000000 ∧ ¬ soon a 0x88000000 ∧ ¬ hold a 0x88000000) ∧ ¬ soon b 0x84000000 ∧ (sB { rmt := { fcBusy := true } }).b.rmt.fcBusy = true ∧
      a.rmt.fcBusy = false :=
  ⟨by decide +kernel, by decide +kernel, by decide +kernel, ⟨by decide +kernel, by decide +kernel⟩, ⟨by decide +kernel, by decide +kernel⟩,
    ⟨by decide +kernel, by decide +kernel, by decide +kernel, by decide +kernel⟩, ⟨by decide +kernel, by decide +kernel, by decide +kernel⟩, by decide +kernel, by decide, by decide⟩

theorem wit_CommitsAtTheBolov_go :
    let cp := fun (a : Bolov) => (fkeys a.ports).filter fun k => (a.port k).rx == .data && ((a.port k).owner || a.pod.state == .standby)
    let d := fun (a : Bolov) => ((cp a).map a.downTicks).foldl max 0
    let t0 := fun (a : Bolov) => BitVec.ofNat 48 ((a.reg Reg.CMT_TARGET).toNat + 2 ^ 32 * (a.reg (Reg.CMT_TARGET + 4)).toNat)
    let why := fun (a : Bolov) => if a.cmt.busy then 1 else if later (a.tick + BitVec.ofNat 48 (96 + d a)) (t0 a) then 2 else if later (t0 a) (a.tick + BitVec.ofNat 48 (2 ^ 28)) then 3
      else if a.rmt.requests.any (fun r => r.answer.isNone) then 4 else 0
    let a := fun (t : Word) => (sB { regs := [(Reg.CMT_CTRL, 0), (Reg.CMT_TARGET, t)] }).b
    (a 96).regBit Reg.CMT_CTRL 1 = false ∧ why (a 96) = 0 ∧ why (a 95) = 2 ∧ why (a 0x10000000) = 0 ∧ why (a 0x10000001) = 3 ∧
      why { a 96 with rmt := { requests := [rq 1 2 false false] } } = 4 ∧ why { a 96 with cmt := { busy := true } } = 1 ∧
      (sB {}).b.cmt.busy = false := by decide +kernel

theorem wit_CommitsAtTheBolov_time :
    let m : CommitState := { busy := true, reached := true, switched := true, toMerge := [(7, 0, 1), (9, 1, 2), (7, 2, 3)], pending := 1 }
    let fin : CommitState := { busy := true, reached := true, switched := true, mergeEnd := some 0, ports := [⟨127, some (0, true)⟩] }
    let c := bAt { cmt := { busy := true } }
    let r := bAt { cmt := { busy := true }, sort := { running := true } }
    let e := bAt { tick := 256, cmt := { busy := true, reached := true } }
    let l := bAt { tick := 1024, cmt := { fin with ports := [⟨127, none⟩] } }
    let g := bAt { cmt := m }
    let wait := fun (c : Bolov) => max 1024 ((c.reg Reg.CMT_WAIT).toNat % 2 ^ 16)
    let since := fun (c : Bolov) => if notBefore c.tick c.cmt.t then (c.tick - c.cmt.t).toNat else 0
    (c.cmt.busy = true ∧ c.cmt.reached = false ∧ notBefore c.tick c.cmt.t = true ∧ c.sort.running = false ∧ c.cmt.switched = false) ∧
      (r.cmt.busy = true ∧ r.cmt.reached = false ∧ notBefore r.tick r.cmt.t = true ∧ r.sort.running = true) ∧ (bAt {}).cmt.busy = false ∧
      (e.cmt.busy = true ∧ e.cmt.reached = true ∧ 256 ≤ since e ∧ (since e - 256) % 1024 = 0 ∧ since e < wait e) ∧
      (g.cmt.reached = true ∧ g.cmt.mergeEnd = none ∧ g.cmt.toMerge = [(7, 0, 1)] ++ (9, 1, 2) :: [(7, 2, 3)] ∧
        (∀ x ∈ [((7 : Nat), (2 : Nat), (3 : BitVec 128))], x.1 ≠ 9) ∧ (∀ x ∈ g.cmt.toMerge, x.1 ≠ 8) ∧ g.cmt.keepCal = true ∧ (bAt { cmt := { m with keepCal := false } }).cmt.keepCal = false) ∧
      ((bAt { cmt := fin }).cmt.busy = true ∧ (bAt { cmt := fin }).cmt.mergeEnd ≠ none ∧ (∀ x ∈ (bAt { cmt := fin }).cmt.ports, x.report ≠ none) ∧
        0 < ((bAt { cmt := fin }).cmt.ports.filter fun x => x.report.any fun r => r.2).length) ∧
      (wait { l with regs := [(Reg.CMT_WAIT, 0)] } ≤ since l) ∧ (bAt { cmt := fin }).ek4 = false ∧ ((bAt { cmt := fin }).ctr Reg.CMT_DONE 0).val < maxCount := by decide +kernel

theorem wit_CommitsAtTheBolov_clean : (∀ l, CleanLine l (bAt { cmt := { busy := true } })) ∧
    ∀ l, CleanLine l (bAt { cmt := { busy := true, reached := true, switched := true, toMerge := [(7, 0, 1), (9, 1, 2), (7, 2, 3)], pending := 1 } }) :=
  ⟨fun _ => ⟨rfl, rfl, rfl⟩, fun _ => ⟨rfl, rfl, rfl⟩⟩

/-! ### Security, power -/

/-- A record of HOST_CMD: code, length, argument, offset. -/
def hcmd (code len arg off : Nat) : List W64 := [word64 [(16, 7), (8, code), (8, 0), (32, off)], word64 [(32, len), (32, arg)], 1, 2, 3, 4, 5, 6]

/-- A Bolov with that record in HOST_CMD and a security state. -/
def bSec (r : List W64) (x : SecState := {}) : Bolov := bAt { queues := (Vector.replicate 8 ({} : Queue)).set 0 { records := [r] }, sec := x }

theorem wit_HostCommandsAndQuotes :
    let code := fun (r : List W64) => fld (r.getD 0 0) 47 40
    let arg := fun (r : List W64) => fld (r.getD 1 0) 31 0
    let off := fun (r : List W64) => fld (r.getD 0 0) 31 0
    let r := hcmd 0x10 0 5 8671
    let b := bSec r { lifecycle := 1, secVer := 5, valid := 2, quoteBytes := List.replicate 8 0, trialRuns := true }
    let q : QuoteRun := ⟨r, 0, 0, false, 0, 0, 3⟩
    let noDom := bAt { queues := b.queues, regs := [(Reg.PWR_DOM_ON2, 0x7FFF)] }
    (b.queues[(0 : Fin 8)].records = r :: [] ∧ b.qRoom 1 = true ∧ code r = 0x10 ∧ b.sec.recovery = false ∧ b.sec.lifecycle = 1 ∧ b.sec.lifecycle ≠ 2 ∧ b.domOn 79 = true ∧
      b.sec.quote = none ∧ b.sec.answers = []) ∧
      (bSec r { recovery := true }).sec.recovery = true ∧ (bSec r { lifecycle := 2 }).sec.lifecycle = 2 ∧ noDom.domOn 79 = false ∧ (bSec r { quote := some q }).sec.quote ≠ none ∧
      ((bSec r { quote := some q, answers := [none] }).sec.quote = some q ∧ (bSec r { quote := some q, answers := [none] }).sec.answers = [none] ∧ 3 ≤ q.changes ∧ { q with changes := 2 }.changes < 3) ∧
      (∀ k ∈ [0x01, 0x10, 0x11, 0x20, 0x30, 0x31, 0x32, 0x33, 0x34, 0x35, 0x40, 0x41, 0x50], code (hcmd 0xFF 0 0 0) ≠ k) ∧
      (code (hcmd 0x50 0 0xDEC0 0) = 0x50 ∧ arg (hcmd 0x50 0 0xDEC0 0) = 0xDEC0 ∧ arg r ≠ 0xDEC0) ∧ (arg r ≤ b.sec.secVer ∧ b.sec.trialRuns = true ∧ (bSec r).sec.trialRuns = false ∧ (bSec r).sec.secVer < arg r) ∧
      (off r < 8672 ∧ 8672 ≤ off (hcmd 0x20 0 0 8672)) ∧ (b.sec.quoteBytes ≠ [] ∧ b.sec.quoteBytes.length ≤ off r ∧ off (hcmd 0x11 0 0 7) < b.sec.quoteBytes.length ∧ (bSec r).sec.quoteBytes = []) ∧
      (arg (hcmd 0x33 0 1 0) ≤ 1 ∧ b.sec.valid.getLsbD 1 = true ∧ b.sec.valid.getLsbD 0 = false ∧ 1 < arg r) ∧ (bAt {}).queues[(0 : Fin 8)].records = [] := by decide +kernel

/-- A token of 72 bytes of zeros and its signatures. -/
def tokZero : List Nat := List.replicate 72 0

theorem wit_UpdatesTokensAndBoot_updates :
    let code := fun (r : List W64) => fld (r.getD 0 0) 47 40
    let arg := fun (r : List W64) => fld (r.getD 1 0) 31 0
    let off := fun (r : List W64) => fld (r.getD 0 0) 31 0
    let len := fun (r : List W64) => fld (r.getD 1 0) 63 32
    let data := fun (r : List W64) => (((r.drop 2).take 6).flatMap fun w => bytesOf 8 w.toNat).map (BitVec.ofNat 8)
    let r := hcmd 0x31 48 1 16
    let u : UpdateRun := ⟨1, 64, 16⟩
    let b := bSec r { update := some u }
    (b.queues[(0 : Fin 8)].records = r :: [] ∧ b.qRoom 1 = true ∧ b.sec.lifecycle ≠ 2 ∧ b.domOn 79 = true ∧ code r = 0x31 ∧ 1 ≤ len r ∧ len r ≤ 48 ∧ b.sec.update = some u ∧
      u.next ≤ off r ∧ off r + len r ≤ u.length ∧ (data r).length = 48) ∧ off (hcmd 0x31 48 1 15) < u.next ∧ u.length < off (hcmd 0x31 48 1 17) + len r ∧ (bSec r).sec.update = none ∧
      (arg (hcmd 0x30 0x800000 1 0) ≤ 1 ∧ len (hcmd 0x30 0x800000 1 0) ≤ 0x800000 ∧ len (hcmd 0x30 0x800000 1 0) ≠ 0 ∧ arg (hcmd 0x30 0x800000 1 0) ≠ (bSec r).sec.running ∧
        (bSec r { running := 1 }).sec.running = 1 ∧ 0x800000 < len (hcmd 0x30 0x800001 1 0) ∧ 1 < arg (hcmd 0x30 1 2 0)) ∧
      (off (hcmd 0x41 0 0 8311) < 8312 ∧ 8312 ≤ off (hcmd 0x41 0 0 8312) ∧ code (hcmd 0x41 0 0 0) = 0x41) ∧ (b.slotVerifies 1 = false ∧ b.slotVerifies 0 = false) ∧
      ((bSec r { recoverNext := true }).sec.recoverNext = true ∧ ((bSec r { trial := some 1, tried := true }).sec.trial.isSome && (bSec r { trial := some 1, tried := true }).sec.tried) = true) := by
  decide +kernel

/-- A flash whose slot 1 holds an image of 4 bytes; every signature and key reads 0xFF. -/
def imageSlot1 : FMap Byte :=
  let h := bytesOf 4 0x424C5646 ++ bytesOf 2 1 ++ [0xB1, 0] ++ bytesOf 4 0 ++ [3, 0, 0, 0] ++ bytesOf 4 4 ++ bytesOf 8 0 ++ bytesOf 32 (sha256 [255, 255, 255, 255]).toNat ++ bytesOf 4 0
  h.mapIdx fun i v => (0x800000 + i, BitVec.ofNat 8 v)

theorem wit_UpdatesTokensAndBoot_verifies (hr : ∀ k m g, Config.rsaVerify k m g = true) (hs : ∀ k m g, Config.slhVerify k m g = true) :
    (bSec (hcmd 0x32 0 0 0) { update := some ⟨1, 4, 4⟩, flash := imageSlot1, counter := 3, trial := some 1, vendorRsa := sha256 (List.replicate 384 255), vendorSlh := sha256 (List.replicate 32 255) }).slotVerifies 1 = true := by
  simp only [Bolov.slotVerifies, hr, hs, Bool.and_true]
  decide +kernel

theorem wit_UpdatesTokensAndBoot_token (hr : ∀ k m g, Config.vendorRsaVerify k m g = true) (hs : ∀ k m g, Config.vendorSlhVerify k m g = true) :
    let c := bSec (hcmd 0x40 0 0 0) { nonce := some 0, token := [(6, 177), (7, 1)] }
    let tok := (List.range 8312).map fun i => (fget 0 c.sec.token i).toNat
    ∃ n, c.sec.nonce = some n ∧ tok.take 72 = bytesOf 8 c.sec.unit.toNat ++ bytesOf 32 c.grd.head.toNat ++ bytesOf 32 n.toNat ∧
      Config.vendorRsaVerify c.sec.vendorRsa (tok.take 72) ((tok.drop 72).take 384) = true ∧ Config.vendorSlhVerify c.sec.vendorSlh (tok.take 72) (tok.drop 456) = true :=
  ⟨0, rfl, by decide +kernel, hr _ _ _, hs _ _ _⟩

theorem wit_UpdatesTokensAndBoot_noToken : (bSec (hcmd 0x40 0 0 0)).sec.nonce = none := by decide

theorem wit_PowerAndResetsOfTheBolov :
    let a := (sB {}).b
    let refused := fun (a : Bolov) (d : Nat) => (32 ≤ d ∧ d < 48 ∧ (a.reg Reg.OUT_LANE_EN).getLsbD (d - 32) = true) ∨ d = 62 ∨ d = 63 ∨ ((48 ≤ d ∧ d < 62 ∨ 72 ≤ d ∧ d < 76) ∧ a.sort.running = true) ∨
      (d = 76 ∧ (a.reg Reg.GRD_CONV).toNat % 16 ≠ 0) ∨ (d = 78 ∧ (a.reg Reg.POD_CTRL).getLsbD 0 = true) ∨ (d = 79 ∧ a.sec.quote ≠ none)
    let goesOff := fun (k : Fin 3) (v : Word) (d : Nat) => d / 32 = k ∧ d < 80 ∧ a.domBit d = true ∧ ¬ v.getLsbD (d % 32) = true ∧ ¬ refused a d
    let hot := fun (x : BitVec 12) => (1680 : Int) < x.toInt
    (goesOff 0 0 31 ∧ goesOff 1 0 47 ∧ goesOff 1 0 61 ∧ goesOff 2 0 64 ∧ goesOff 2 0 76 ∧ goesOff 2 0 77 ∧ refused a 62) ∧ refused (sB { sort := { running := true } }).b 75 ∧
      (((sB { regs := [(Reg.TM_CTRL, 1)] }).b.reg Reg.TM_CTRL).toNat % 4 = 1) ∧ decide ((719 : BitVec 12).toNat < 720) = true ∧ decide ((720 : BitVec 12).toNat < 720) = false ∧
      (hot 1681 ∧ ¬ hot 1680 ∧ ¬ hot (bAt {}).pwr.tj) ∧ (guardLocked Reg.GRD_HOLD = true ∧ guardLocked Reg.GRD_STATUS = false) :=
  ⟨⟨by decide +kernel, by decide +kernel, by decide +kernel, by decide +kernel, by decide +kernel, by decide +kernel, by decide +kernel⟩, by decide +kernel, by decide +kernel, by decide +kernel, by decide +kernel,
    ⟨by decide +kernel, by decide +kernel, by decide +kernel⟩, by decide +kernel, by decide +kernel⟩

theorem wit_PowerAndResetsOfTheBolov_on :
    let off := fun (d : Nat) => bAt { pwr := { domState := BitVec.allOnes 80 &&& ~~~BitVec.ofNat 80 (2 ^ d) } }
    ((off 76).pwr.domState.getLsbD 76 = false ∧ (off 76).domBit 76 = true) ∧ ((off 79).pwr.domState.getLsbD 79 = false ∧ (off 79).domBit 79 = true) ∧
      ((off 47).pwr.domState.getLsbD 47 = false ∧ (off 47).domBit 47 = true ∧ 47 = 32 + (15 : Fin 16).val) ∧ (bAt {}).pwr.domState.getLsbD 31 = true := by decide +kernel

theorem wit_PowerAndResetsOfTheBolov_ready :
    let c := bAt { regs := [(Reg.PWR_DOM_ON0, 0)], pwr := { bringup := 2 } }
    let soon := bAt { up := 3200000, regs := [(Reg.QD_LINK_CTRL 0, 1)], pwr := { bringup := 2 } }
    let brought := fun (c : Bolov) (p : Nat) => c.domOn (p / 4) = false ∨ (c.port p).beenData = true ∨ ((c.reg (0x20100 + 0x1000 * (p / 4) + 0x40 * (p % 4))).getLsbD 0 = true ∧ (c.port p).txAt + 3200000 < c.up)
    (c.pwr.bringup = 2 ∧ c.pwr.ready = false ∧ c.sec.recovery = false ∧ c.tarn.training = false ∧ ∀ p, p < 128 → brought c p) ∧ ¬ brought soon 0 := by decide +kernel

end Sys2Proof.Tests
end

section
/-!
The vernier comparison (spec/03_vernier_timing.md, R51): `bPeriods` answers the least period at which B is level with A.
-/

namespace Sys2Proof.Machine

/-- A quotient rounded up is the least number of parts of `b` that hold `a`. -/
theorem ceilDiv_le_iff_le_mul_left {a b : Nat} (hb : 0 < b) (m : Nat) : ceilDiv a b ≤ m ↔ a ≤ m * b := by
  rw [ceilDiv, Nat.div_le_iff_le_mul hb]
  omega

/-- R51's `max(1, ⌈r ÷ ΔT⌉)`: the comparison is first made at the end of period 1. -/
def catchPeriod (r : Int) (dT : Nat) : Nat := max 1 (ceilDiv r.toNat dT)

/-- `catchPeriod` is the least period of at least 1 by which `dT` a period has made up `r`. -/
theorem catchPeriod_le_iff {r : Int} {dT : Nat} (hd : 0 < dT) (m : Nat) :
    catchPeriod r dT ≤ m ↔ 1 ≤ m ∧ r ≤ m * (dT : Int) := by
  rw [catchPeriod, Nat.max_le, ceilDiv_le_iff_le_mul_left hd, Int.toNat_le, Int.natCast_mul]

theorem one_le_catchPeriod (r : Int) (dT : Nat) : 1 ≤ catchPeriod r dT := Nat.le_max_left ..

theorem le_catchPeriod_mul {r : Int} {dT : Nat} (hd : 0 < dT) : r ≤ catchPeriod r dT * (dT : Int) :=
  ((catchPeriod_le_iff hd _).mp (Nat.le_refl _)).2

theorem mul_lt_of_lt_catchPeriod {r : Int} {dT m : Nat} (hd : 0 < dT) (hm : 1 ≤ m) (h : m < catchPeriod r dT) :
    m * (dT : Int) < r :=
  Int.not_le.mp fun hr => Nat.not_le.mpr h ((catchPeriod_le_iff hd m).mpr ⟨hm, hr⟩)

section
variable {v : Conv} {r : Int} (hr : r = (v.span : Int) - ((v.na.toNat : Int) - 1) * v.ta)
include hr

/-- A B ring that is not the faster one is level by its first period or never, since it gains nothing later. -/
theorem bPeriods_of_ta_le_tb (h : v.ta ≤ v.tb) :
    bPeriods v false = if r ≤ (v.ta : Int) - v.tb then some 1 else none := by
  have hd : ¬ (v.ta : Int) - v.tb > 0 := by omega
  simp only [bPeriods, ← hr, if_neg hd, Int.natCast_one, Int.one_mul, Bool.false_and, Bool.false_eq_true, if_false]

/-- A faster B ring always catches up. -/
theorem bPeriods_of_tb_lt_ta (h : v.tb < v.ta) : bPeriods v false = some (catchPeriod r (v.ta - v.tb)) := by
  have hd : 0 < v.ta - v.tb := Nat.sub_pos_of_lt h
  have hcast : (v.ta : Int) - v.tb = (v.ta - v.tb : Nat) := (Int.ofNat_sub (Nat.le_of_lt h)).symm
  have hpos : ((v.ta - v.tb : Nat) : Int) > 0 := Int.natCast_pos.mpr hd
  have hlevel : r ≤ catchPeriod r (v.ta - v.tb) * ((v.ta - v.tb : Nat) : Int) := le_catchPeriod_mul hd
  rw [catchPeriod] at hlevel ⊢
  simp only [bPeriods, ← hr, hcast, Int.toNat_natCast, if_pos hpos, if_pos hlevel, Bool.false_and, Bool.false_eq_true, if_false]

end

/-- Settles O6: `bPeriods` by which ring is the faster, and the bounds of `catchPeriod`. -/
theorem nvIsTheFirstCatchingPeriod : Obligations.NVIsTheFirstCatchingPeriod := by
  unfold Obligations.NVIsTheFirstCatchingPeriod
  intro v r hr
  refine ⟨bPeriods_of_ta_le_tb hr, fun h =>
    ⟨catchPeriod r (v.ta - v.tb), bPeriods_of_tb_lt_ta hr h, one_le_catchPeriod .., ?_⟩⟩
  have hd : 0 < v.ta - v.tb := Nat.sub_pos_of_lt h
  rw [← Int.ofNat_sub (Nat.le_of_lt h)]
  refine ⟨le_catchPeriod_mul hd, fun m => mul_lt_of_lt_catchPeriod hd, fun hrA hwin => ?_⟩
  exact (catchPeriod_le_iff hd 63).mpr ⟨by decide, by omega⟩

end Sys2Proof.Machine
end

section
/-!
GRD_CTRL.off (spec/16_guard.md, R305, R306, R311): a host off trips its output. Everything else that a write of `GRD_CTRL`
does (arms and refused arms of other outputs, log entries, password and session) leaves the output as it stands.
-/

namespace Sys2Proof.Machine

/-! ### Bits of registers and events -/

/-- An event clears no bit of any register. -/
theorem Bolov.regBit_raise_of_regBit {k i : Nat} (p e : Nat) {b : Bolov} (h : b.regBit k i = true) :
    (b.raise p e).regBit k i = true := by
  by_cases hk : k = evtRaw p
  · subst hk
    rw [Bolov.regBit, Bolov.reg_raise_same, bit_toNat, getLsbD_setBit]
    split
    · rfl
    · exact h
  · rwa [Bolov.regBit, Bolov.reg_raise_other e b hk]

/-- An event sets its bit of EVT_RAW (R322). -/
theorem Bolov.regBit_raise_same (p : Nat) {e : Nat} (b : Bolov) (he : e < 32) : (b.raise p e).regBit (evtRaw p) e = true := by
  rw [Bolov.regBit, Bolov.reg_raise_same, bit_setBit_same _ _ _ he]

@[simp] theorem Bolov.grd_raise (p e : Nat) (b : Bolov) : (b.raise p e).grd = b.grd := by rw [Bolov.raise_eq]

theorem getLsbD_setBit_of_ne {n : Nat} (w : BitVec n) {i k : Nat} (v : Bool) (h : k ≠ i) :
    (setBit w i v).getLsbD k = w.getLsbD k := bit_setBit_other w v h

/-! ### A trip, by whether the output permitted (R305) -/

theorem getElem_set_of_ne {α : Type} {g h : Fin 4} (hne : g ≠ h) (xs : Vector α 4) (x : α) : (xs.set h x)[g] = xs[g] :=
  Vector.getElem_set_ne h.isLt g.isLt (Fin.val_ne_of_ne hne.symm)

/-- What a trip writes whether or not the output permits: the causes join those that stand, and where none stood the first of
them is noted. -/
def addCauses (g : Fin 4) (cs : BitVec 6) (x : GuardState) : GuardState :=
  { x with
    causes := x.causes.set g (x.causes[g] ||| cs)
    first := if x.causes[g] = 0 then x.first.set g (firstCause cs) else x.first }

theorem causes_addCauses_same (g : Fin 4) (cs : BitVec 6) (x : GuardState) :
    (addCauses g cs x).causes[g] = x.causes[g] ||| cs := by simp [addCauses]

theorem causes_addCauses_of_ne {g h : Fin 4} (hne : g ≠ h) (cs : BitVec 6) (x : GuardState) :
    (addCauses h cs x).causes[g] = x.causes[g] := getElem_set_of_ne hne ..

theorem first_addCauses_same {g : Fin 4} {x : GuardState} (hx : x.causes[g] = 0) (cs : BitVec 6) :
    (addCauses g cs x).first[g] = firstCause cs := by
  rw [addCauses, if_pos hx]
  exact Vector.getElem_set_self ..

theorem first_addCauses_of_ne {g h : Fin 4} (hne : g ≠ h) (cs : BitVec 6) (x : GuardState) :
    (addCauses h cs x).first[g] = x.first[g] := by
  unfold addCauses
  dsimp only
  split
  · exact getElem_set_of_ne hne ..
  · rfl

/-- What a trip also writes where the output permits: it loses its permit at `up`. -/
def losePermit (g : Fin 4) (up : Nat) (x : GuardState) : GuardState :=
  { x with on := setBit x.on g false, changedAt := x.changedAt.set g up }

theorem Bolov.trip_of_on {g : Fin 4} {b : Bolov} (hon : b.grd.on.getLsbD g = true) (fl : Bool) (cs : BitVec 6) :
    ∃ new, b.trip fl g cs = (((b.modGrd (addCauses g cs)).modGrd (losePermit g b.up)).raise pgGrd 0).logAppend
      fl gkTrip (2 ^ g.val) (outOffset g) (b.outState g) new := ⟨_, if_pos hon⟩

theorem Bolov.trip_of_off {g : Fin 4} {b : Bolov} (hoff : b.grd.on.getLsbD g = false) (fl : Bool) (cs : BitVec 6) :
    b.trip fl g cs = b.modGrd (addCauses g cs) := if_neg (by rw [hoff]; decide)

/-! ### What leaves an output as it stands -/

/-- From `a` to `b` output `g` keeps its permit, causes and first cause, and a trip event that is set stays set. -/
structure OutputKept (g : Fin 4) (a b : Bolov) : Prop where
  on : b.grd.on.getLsbD g = a.grd.on.getLsbD g
  causes : b.grd.causes[g] = a.grd.causes[g]
  first : b.grd.first[g] = a.grd.first[g]
  tripEvent : a.regBit (evtRaw pgGrd) 0 = true → b.regBit (evtRaw pgGrd) 0 = true

namespace OutputKept

variable {g h : Fin 4} {a b : Bolov}

theorem refl (g : Fin 4) (a : Bolov) : OutputKept g a a := ⟨rfl, rfl, rfl, id⟩

/-- A change that leaves the Guard's state alone keeps an output if it clears no trip event. -/
theorem of_grd_eq {c : Bolov} (k : OutputKept g a b) (hg : c.grd = b.grd)
    (he : b.regBit (evtRaw pgGrd) 0 = true → c.regBit (evtRaw pgGrd) 0 = true) : OutputKept g a c := by
  obtain ⟨on, causes, first, tripEvent⟩ := k
  exact ⟨hg ▸ on, hg ▸ causes, hg ▸ first, he ∘ tripEvent⟩

/-- A change of the Guard's state keeps an output if it keeps that output's fields. -/
theorem modGrd {f : GuardState → GuardState} (k : OutputKept g a b) (on : (f b.grd).on.getLsbD g = b.grd.on.getLsbD g)
    (causes : (f b.grd).causes[g] = b.grd.causes[g]) (first : (f b.grd).first[g] = b.grd.first[g]) :
    OutputKept g a (b.modGrd f) :=
  ⟨on.trans k.on, causes.trans k.causes, first.trans k.first, k.tripEvent⟩

theorem raise {p e : Nat} (k : OutputKept g a b) : OutputKept g a (b.raise p e) :=
  k.of_grd_eq (Bolov.grd_raise p e b) (Bolov.regBit_raise_of_regBit p e)

theorem setStatusBit {i : Nat} {v : Bool} (k : OutputKept g a b) : OutputKept g a (b.setRegBit Reg.GRD_STATUS i v) := by
  refine k.of_grd_eq rfl fun h => ?_
  rwa [Bolov.regBit, Bolov.reg_setRegBit_other i v b (by decide)]

theorem countAt {lo cp n : Nat} (k : OutputKept g a b) : OutputKept g a (b.countAt lo cp n) := by
  unfold Bolov.countAt
  dsimp only
  split
  · split
    · exact .raise (k.of_grd_eq rfl id)
    · exact k.of_grd_eq rfl id
  · exact k.of_grd_eq rfl id

theorem qOffer {q : Fin 8} {r : List W64} (k : OutputKept g a b) : OutputKept g a (b.qOffer q r) := by
  unfold Bolov.qOffer
  split
  · exact k.of_grd_eq rfl id
  · exact k.countAt

theorem logFault (k : OutputKept g a b) : OutputKept g a b.logFault := k.setStatusBit.raise

theorem logAppend {fl : Bool} {kind mask off old new : Nat} (k : OutputKept g a b) :
    OutputKept g a (b.logAppend fl kind mask off old new) := by
  unfold Bolov.logAppend
  split
  · exact .qOffer (k.modGrd rfl rfl rfl)
  · exact k.logFault

/-- A loop of which every turn keeps an output keeps it. -/
theorem forAll {α : Type} {l : List α} {f : α → Bolov → Bolov} (k : OutputKept g a b)
    (hf : ∀ x ∈ l, ∀ c, OutputKept g a c → OutputKept g a (f x c)) : OutputKept g a (forAll l f b) :=
  forAll_keeps (OutputKept g a) l f b k fun x c hx => hf x hx c

/-! ### Password and session (R307, R308) -/

theorem pwResult {r : Nat} (k : OutputKept g a b) : OutputKept g a (b.pwResult r) := k.modGrd rfl rfl rfl

theorem unlockFailed {fl : Bool} (k : OutputKept g a b) : OutputKept g a (b.unlockFailed fl) := by
  have hone {n : Nat} : OutputKept g a ((((b.modGrd fun x => { x with failures := n }).raise pgGrd 4).logAppend
      fl gkUnlockFailed 0 0x020 0 0).pwResult 1) := .pwResult (.logAppend (.raise (k.modGrd rfl rfl rfl)))
  unfold Bolov.unlockFailed
  dsimp only
  split
  · exact hone
  · exact .logAppend (.raise (hone.modGrd rfl rfl rfl))

theorem unlock {fl : Bool} (k : OutputKept g a b) : OutputKept g a (b.unlock fl) := by
  unfold Bolov.unlock
  split
  · exact k.pwResult
  · split
    · exact k.pwResult
    · split
      · exact k.pwResult
      · split
        · split
          · exact .pwResult (.logAppend (k.modGrd rfl rfl rfl))
          · exact k.logFault.pwResult
        · exact k.unlockFailed

theorem setPw {fl : Bool} (k : OutputKept g a b) : OutputKept g a (b.setPw fl) := by
  unfold Bolov.setPw
  split
  · exact k.pwResult
  · split
    · exact k.modGrd rfl rfl rfl
    · split
      · exact k.pwResult
      · split
        · exact .pwResult (k.logAppend.modGrd rfl rfl rfl)
        · exact k.logFault.pwResult

theorem sessionEnd {fl : Bool} {off : Nat} (k : OutputKept g a b) : OutputKept g a (b.sessionEnd fl off) := by
  unfold Bolov.sessionEnd
  split
  · exact k.logAppend.modGrd rfl rfl rfl
  · exact k

/-! ### Arm and off of another output (R305) -/

theorem armRefused {fl : Bool} (k : OutputKept g a b) : OutputKept g a (b.armRefused fl h) := k.setStatusBit.raise.logAppend

theorem armOne {fl : Bool} (hne : g ≠ h) (k : OutputKept g a b) : OutputKept g a (b.armOne fl h) := by
  unfold Bolov.armOne
  dsimp only
  split
  · exact .logAppend (.raise (k.modGrd (getLsbD_setBit_of_ne _ _ (Fin.val_ne_of_ne hne)) (getElem_set_of_ne hne ..)
      (getElem_set_of_ne hne ..)))
  · exact k.armRefused

theorem trip {fl : Bool} {cs : BitVec 6} (hne : g ≠ h) (k : OutputKept g a b) : OutputKept g a (b.trip fl h cs) := by
  have hcause : OutputKept g a (b.modGrd (addCauses h cs)) :=
    k.modGrd rfl (causes_addCauses_of_ne hne cs b.grd) (first_addCauses_of_ne hne cs b.grd)
  cases hon : b.grd.on.getLsbD h with
  | true =>
    obtain ⟨new, heq⟩ := Bolov.trip_of_on hon fl cs
    rw [heq]
    exact .logAppend (.raise (hcause.modGrd (getLsbD_setBit_of_ne _ _ (Fin.val_ne_of_ne hne)) rfl rfl))
  | false => rwa [Bolov.trip_of_off hon]

theorem offOne {fl : Bool} (hne : g ≠ h) (k : OutputKept g a b) : OutputKept g a (b.offOne fl h) := (k.trip hne).logAppend

theorem arm {fl : Bool} {m : BitVec 4} (hm : m.getLsbD g = false) (k : OutputKept g a b) : OutputKept g a (b.arm m fl) := by
  refine k.forAll fun h hh c hc => hc.armOne ?_
  rintro rfl
  exact absurd (List.mem_filter.mp hh).2 (by rw [hm]; decide)

end OutputKept

/-! ### An output tripped by the host (R306) -/

/-- From `a` to `b` output `g` is tripped with cause host off: the first cause where no cause stood, and with the trip event
where it permitted. -/
structure HostOff (g : Fin 4) (a b : Bolov) : Prop where
  permitLost : b.grd.on.getLsbD g = false
  cause : b.grd.causes[g].getLsbD 1 = true
  first : a.grd.causes[g] = 0 → b.grd.first[g] = 5
  tripEvent : a.grd.on.getLsbD g = true → b.regBit (evtRaw pgGrd) 0 = true

namespace HostOff

variable {g : Fin 4} {a b c : Bolov}

/-- A tripped output stays so while it is kept. -/
theorem kept (t : HostOff g a b) (k : OutputKept g b c) : HostOff g a c :=
  ⟨k.on.trans t.permitLost, k.causes ▸ t.cause, fun h => k.first.trans (t.first h), fun h => k.tripEvent (t.tripEvent h)⟩

/-- Where an output is kept first and tripped then, it is tripped over the whole. -/
theorem of_kept (k : OutputKept g a b) (t : HostOff g b c) : HostOff g a c :=
  ⟨t.permitLost, t.cause, fun h => t.first (k.causes.trans h), fun h => t.tripEvent (k.on.trans h)⟩

theorem kept_ite {p : Prop} [Decidable p] (t : HostOff g a b) (k : OutputKept g b c) : HostOff g a (if p then c else b) := by
  split
  · exact t.kept k
  · exact t

end HostOff

theorem hostOff_trip (fl : Bool) (g : Fin 4) (b : Bolov) : HostOff g b (b.trip fl g 2) := by
  have hcause : (addCauses g 2 b.grd).causes[g].getLsbD 1 = true := by
    rw [causes_addCauses_same, BitVec.getLsbD_or]
    exact Bool.or_true _
  have hfirst (h : b.grd.causes[g] = 0) : (addCauses g 2 b.grd).first[g] = 5 := first_addCauses_same h 2
  cases hon : b.grd.on.getLsbD g with
  | true =>
    obtain ⟨new, heq⟩ := Bolov.trip_of_on hon fl 2
    rw [heq]
    refine HostOff.kept ⟨?_, ?_, ?_, fun _ => Bolov.regBit_raise_same pgGrd _ (by decide)⟩ (.logAppend (.refl g _))
    · rw [Bolov.grd_raise]
      exact (getLsbD_setBit ..).trans (if_pos ⟨rfl, g.isLt⟩)
    · rwa [Bolov.grd_raise]
    · rwa [Bolov.grd_raise]
  | false =>
    rw [Bolov.trip_of_off hon]
    exact ⟨hon, hcause, hfirst, fun h => absurd (hon.symm.trans h) (by decide)⟩

theorem hostOff_offOne (fl : Bool) (g : Fin 4) (b : Bolov) : HostOff g b (b.offOne fl g) :=
  (hostOff_trip fl g b).kept (.logAppend (.refl g _))

/-- Switching off the outputs of a list, each named once, trips each of them. -/
theorem hostOff_forAll_offOne {fl : Bool} {g : Fin 4} {l : List (Fin 4)} (hl : l.Nodup) (hg : g ∈ l) (b : Bolov) :
    HostOff g b (forAll l (Bolov.offOne fl) b) := by
  induction l generalizing b with
  | nil => cases hg
  | cons h l ih =>
    obtain ⟨hnot, hrest⟩ := List.nodup_cons.mp hl
    rw [forAll_cons]
    by_cases hgh : g = h
    · subst hgh
      refine (hostOff_offOne fl g b).kept (.forAll (.refl g _) fun x hx c k => k.offOne ?_)
      rintro rfl
      exact hnot hx
    · exact .of_kept (.offOne hgh (.refl g b)) (ih hrest (List.mem_of_ne_of_mem hgh hg) _)

theorem hostOff_guardOff (fl : Bool) {m : BitVec 4} {g : Fin 4} (hm : m.getLsbD g = true) (b : Bolov) :
    HostOff g b (b.guardOff m fl) := by
  have hall : ∀ g : Fin 4, g ∈ ([0, 1, 2, 3] : List (Fin 4)) := by decide
  exact hostOff_forAll_offOne (List.Pairwise.filter _ (by decide)) (List.mem_filter.mpr ⟨hall g, hm⟩) b

/-! ### A write of `GRD_CTRL` -/

/-- A field of four bits reads the bits of its word. -/
theorem getLsbD_ofNat_fld {n : Nat} (v : BitVec n) (lo i : Nat) (hi : i < 4) :
    (BitVec.ofNat 4 (fld v (lo + 3) lo)).getLsbD i = v.getLsbD (lo + i) := by
  have hwidth : i < lo + 3 + 1 - lo := by omega
  rw [BitVec.getLsbD_ofNat, fld, bits, Nat.testBit_mod_two_pow, Nat.testBit_div_two_pow, Nat.add_comm i, BitVec.getLsbD]
  simp only [hi, hwidth, decide_true, Bool.true_and]

/-- Whatever else a write of `GRD_CTRL` says, an output that it switches off is tripped (R306, R311). -/
theorem hostOff_grdCtrlWrite (fl : Bool) {v : Word} {g : Fin 4} (hv : v.getLsbD (4 + g) = true) (b : Bolov) :
    HostOff g b (b.grdCtrlWrite v fl) := by
  have hoff : (BitVec.ofNat 4 (fld v 7 4)).getLsbD g = true := (getLsbD_ofNat_fld v 4 g g.isLt).trans hv
  have harm : (BitVec.ofNat 4 (fld v 3 0) &&& ~~~BitVec.ofNat 4 (fld v 7 4)).getLsbD g = false := by
    simp only [BitVec.getLsbD_and, BitVec.getLsbD_not, hoff, Bool.not_true, Bool.and_false]
  unfold Bolov.grdCtrlWrite
  refine .kept_ite (.kept_ite (.kept_ite (.of_kept ?_ (hostOff_guardOff fl hoff _)) (.setPw (.refl ..)))
    (.unlock (.refl ..))) (.sessionEnd (.refl ..))
  exact .forAll (.arm harm (.refl g b)) fun h _ c k => k.armRefused

/-- A write of `GRD_CTRL` acts whatever is off, since no power domain switches the Guard page. -/
theorem writeReg_GRD_CTRL (v : Word) (fl : Bool) (reads : List LineRead) (b : Bolov) :
    b.writeReg Reg.GRD_CTRL v fl reads = b.grdCtrlWrite v fl := by
  have hplain : (bolovRow Reg.GRD_CTRL).map RegRow.kind = some .plain := by decide
  obtain ⟨r, hrow, hkind⟩ := Option.map_eq_some_iff.mp hplain
  have hon : b.blockOff Reg.GRD_CTRL = false := rfl
  simp only [Bolov.writeReg, hrow, hon, hkind, Bool.false_eq_true, if_false]
  rfl

/-- Settles O52: `hostOff_guardOff` for the command, `hostOff_grdCtrlWrite` for the register write. -/
theorem offIsNeverRefused : Obligations.OffIsNeverRefused := by
  unfold Obligations.OffIsNeverRefused
  intro s fl m v g
  refine ⟨fun hm => ?_, fun hv => ?_⟩
  · obtain ⟨hon, hcause, hfirst, hevent⟩ := hostOff_guardOff fl hm s.b
    exact ⟨s.b.guardOff m fl, rfl, hon, hcause, hfirst, hevent⟩
  · obtain ⟨hon, hcause, hfirst, hevent⟩ := hostOff_grdCtrlWrite fl hv s.b
    exact ⟨s.b.grdCtrlWrite v fl, by rw [← writeReg_GRD_CTRL v fl [] s.b]; rfl, hon, hcause, hfirst, hevent⟩

end Sys2Proof.Machine
end
